-- ==== Sys2Proof/Word.lean ====
section
/-! DEFINITION. The word types of the part and their plainest arithmetic (12_message_layouts.md, 01 R7, 08 R131). -/

namespace Sys2Proof

/-- An octet, the unit of the management stream (00_scope.md, Terms). -/
abbrev Byte := BitVec 8

/-- A 16-bit quantity: event counters, the free period, CHECK. -/
abbrev Half := BitVec 16

/-- A 32-bit quantity: frame numbers, pattern values, a slot's word in its low bits (R131). -/
abbrev Word := BitVec 32

/-- A line number, 0 to 7. -/
abbrev Line := Fin 8

/-- A slot number, 0 to 63. -/
abbrev Slot := Fin 64

/-- A pattern index, 0 to 15 (R7). -/
abbrev PatternIndex := Fin 16

/-- A probe number, 0 to 3 (R130). -/
abbrev ProbeIndex := Fin 4

end Sys2Proof
end

