-- ==== Sys2Proof/Syntax.lean ====
section
/-! DEFINITION. The commands: one constructor per row of spec/opcode_table.json. The table gives its rows no fields; the operands are the model's (log 1). -/

namespace Sys2Proof

/-- The levels of the six strap pins (00_scope.md, Pins): CTLLINE0-2 read as a number, CTLW high or low, CTLFMT0-1 read as a code. -/
structure Straps where
  ctlLine : Fin 8
  ctlW : Bool
  ctlFmt : Fin 4
  deriving DecidableEq, Repr

/-- What a receive side samples in one RXCLK bit period (R62): the level of RXSYNC and the bit on RXDATA. -/
structure RxSample where
  sync : Bool
  data : Bool
  deriving DecidableEq, Repr

/-- Who takes a share of a boundary that others can see the order of (R99, R147, R187): an elastic store, the Timing Unit's evaluation and its schedule table (one act, R121), the Map Controller, a probe, the Management Link, the Notice Unit. -/
inductive Taker where
  | store (line : Line)
  | timing
  | schedule
  | mapController
  | probe (probe : ProbeIndex)
  | link
  | notice
  deriving DecidableEq, Repr

/-- A bit period of a line that falls together with a boundary: what its receive side samples in it, and the taker right before whose act its framer event comes; none: it comes after the whole boundary (R62). -/
structure Coincidence where
  line : Line
  sample : RxSample
  before : Option Taker
  deriving DecidableEq, Repr

/-- The order at a boundary, where the spec leaves it open: who takes it first, and the bit periods that fall together with it, at most one of a line, each with its place among the takers (log 5; R62, R90, R91, R104, R169). -/
structure BoundaryOrder where
  takers : List Taker
  within : List Coincidence
  deriving DecidableEq, Repr

/-- A command: a step of the part (spec/95_what_each_step_holds.md). -/
inductive Instr where
  /-- POWER_UP (R80): power is applied with these strap levels; `high` is the level of RESTART_N. -/
  | powerUp (straps : Straps) (high : Bool)
  /-- RESTART_N (R80): RESTART_N is asserted low, with these strap levels. -/
  | restartN (straps : Straps)
  /-- RESTART_N_RELEASE (R113): RESTART_N returns high, with these strap levels. -/
  | restartNRelease (straps : Straps)
  /-- BOUNDARY (R99): a system frame boundary falls, taken in this order. -/
  | boundary (order : BoundaryOrder)
  /-- TX_FRAME_END (R72): this many TXCLK bit periods of the line begin; the one after the frame's last ends the frame when there are enough. -/
  | txFrameEnd (line : Line) (periods : Nat)
  /-- STALL (R105). -/
  | stall
  /-- COPY_COMPLETE (R29). -/
  | copyComplete
  /-- CLEAR_COMPLETE (R31). -/
  | clearComplete
  /-- TAKE_PENDING_SWAP (R34). -/
  | takePendingSwap
  /-- SCHEDULE_FIRING (R121). -/
  | scheduleFiring
  /-- REQUEST_INTAKE (R144): a good message of a request kind is delivered. -/
  | requestIntake (seq kind : Byte) (payload : List Byte)
  /-- NOTICE_ACK (R195): a Notice Ack with this SEQ is delivered. -/
  | noticeAck (seq : Byte)
  /-- FOREIGN_KIND (R170): a checked message of this KIND is delivered. -/
  | foreignKind (kind : Byte)
  /-- MESSAGE_END (R172). -/
  | messageEnd
  /-- CHANNEL_SWITCH (R177). -/
  | channelSwitch
  /-- TRIAL_TIMEOUT (R178). -/
  | trialTimeout
  /-- LINE_LOST_REVERT (R180). -/
  | lineLostRevert
  /-- RETRANSMIT_TIMEOUT (R196). -/
  | retransmitTimeout
  /-- PULSE (R62): the bit periods `before` pass on the line, then one in which RXSYNC is sampled high and RXDATA as `data`. -/
  | pulse (line : Line) (before : List RxSample) (data : Bool)
  /-- FLYWHEEL_FRAME_END (R66): the bit periods `before` pass on the line, then one without a pulse, RXSYNC low and RXDATA as `data`. -/
  | flywheelFrameEnd (line : Line) (before : List RxSample) (data : Bool)
  /-- FULL_RESTART_BOUNDARY (R161), with these strap levels. -/
  | fullRestartBoundary (straps : Straps)
  /-- ECHO (R157): the executor takes an Echo request. -/
  | echo
  /-- IDENTIFY (R158). -/
  | identify
  /-- RESTART_FULL (R161). -/
  | restartFull
  /-- RESTART_SWITCH (R160). -/
  | restartSwitch
  /-- SET_LINE (R77). -/
  | setLine
  /-- GET_LINE (R79). -/
  | getLine
  /-- READ_STATS (R96). -/
  | readStats
  /-- SET_REFERENCE (R111). -/
  | setReference
  /-- GET_TIMING (R112). -/
  | getTiming
  /-- WRITE_ENTRIES (R12). -/
  | writeEntries
  /-- READ_ENTRIES (R16). -/
  | readEntries
  /-- SET_PATTERN (R18). -/
  | setPattern
  /-- GET_PATTERN (R19). -/
  | getPattern
  /-- COPY_PAGE (R27). -/
  | copyPage
  /-- CLEAR_PAGE (R30). -/
  | clearPage
  /-- SWAP_PAGES (R33). -/
  | swapPages
  /-- GET_PAGES (R38). -/
  | getPages
  /-- ADD_SCHEDULE (R120). -/
  | addSchedule
  /-- CANCEL_SCHEDULE (R125). -/
  | cancelSchedule
  /-- LIST_SCHEDULE (R127). -/
  | listSchedule
  /-- SET_PROBE (R139). -/
  | setProbe
  /-- READ_PROBE (R140). -/
  | readProbe
  /-- MOVE_CHANNEL (R176). -/
  | moveChannel
  /-- GET_LINK (R184). -/
  | getLink
  /-- SET_NOTICES (R198). -/
  | setNotices
  /-- GET_NOTICES (R200). -/
  | getNotices
  /-- UNKNOWN_KIND (R149). -/
  | unknownKind
  deriving DecidableEq, Repr

end Sys2Proof
end

