-- ==== Sys2Proof/Config.lean ====
section
/-! DEFINITION. What the part fixes: identity, capacities and limits. The spec leaves no value open to an implementation, so there is no free value here. -/

namespace Sys2Proof.Config

/-- Device code (R158). -/
def deviceCode : Half := 0x8064#16

/-- Revision (R158). -/
def revision : Byte := 0x01#8

/-- Places of the request queue (R143). -/
def requestPlaces : Nat := 4

/-- Places of the response queue (R143). -/
def responsePlaces : Nat := 6

/-- Places of the response cache (R143). -/
def cachePlaces : Nat := 4

/-- Places of the notice queue (R188). -/
def noticePlaces : Nat := 16

/-- Entries of the schedule table (R115). -/
def scheduleEntries : Nat := 8

/-- Unread frames of an elastic store (R84). -/
def unreadFrames : Nat := 2

/-- Boundaries of unbroken alignment after which a line is qualified (R100). -/
def qualifyCount : Nat := 64

/-- Boundaries of a channel-move trial (R177). -/
def trialBoundaries : Nat := 4096

/-- Sends of one notice before the Notice Unit stalls (R196). -/
def noticeSends : Nat := 4

/-- Responses started between two notices when both wait (R173). -/
def responsesInARow : Nat := 4

/-- Free period after a full restart (R113). -/
def resetFreePeriod : Half := 6144#16

/-- Notice interval after a full restart (R201). -/
def resetInterval : Nat := 256

/-- Enable mask after a full restart (R203). -/
def resetMask : Byte := 0x3F#8

/-- Farthest distance ahead of a schedule entry, 2^24 (R119). -/
def farthestAhead : Nat := 2 ^ 24

/-- Distances ahead above this one count as past, 2^31 (R119). -/
def pastDistance : Nat := 2 ^ 31

/-- The lead-in octet of a message (R167). -/
def leadIn : Byte := 0xD5#8

/-- Idle fill (R171). -/
def idleFill : Byte := 0x00#8

/-- KIND of a Notice Ack (R170). -/
def ackKind : Byte := 0x60#8

end Sys2Proof.Config
end

