-- ==== Sys2Proof/Machine/Types.lean ====
section
/-! DEFINITION. The records of the ten blocks as plain data, each after the rule that lists its fields. -/

namespace Sys2Proof.Machine

/-- The level on an output pin; `undriven` is high impedance (R70). -/
inductive Pin where
  | undriven | low | high
  deriving DecidableEq, Repr

/-- A word length W (R60). -/
inductive Width where
  | w8 | w16 | w24 | w32
  deriving DecidableEq, Repr

/-- W as its number of bits (R202). -/
def Width.bits : Width → Nat
  | .w8 => 8
  | .w16 => 16
  | .w24 => 24
  | .w32 => 32

/-- Which end of a sample is kept or padded (R48). -/
inductive Justify where
  | low | high
  deriving DecidableEq, Repr

/-- The loss action of a line (R60). -/
inductive LossAction where
  | hold | fill
  deriving DecidableEq, Repr

/-! ### Line ports -/

/-- The line record (R60). -/
structure LineRecord where
  rxOn : Bool
  txOn : Bool
  slots : Nat
  width : Width
  loss : LossAction
  lossPattern : PatternIndex
  deriving DecidableEq, Repr

/-- The state of a receive framer (R62). -/
inductive FramerState where
  | off | hunt | confirm | aligned
  deriving DecidableEq, Repr

/-- The receive framer's record (R62). `bits` are the bits collected since the frame start, first sampled first; in CONFIRM and ALIGNED its length is the distance from the frame start to the next bit period, so it carries the frame start (log 13). -/
structure RxFramer where
  state : FramerState
  confirm : Nat
  miss : Nat
  bits : List Bool
  deriving DecidableEq, Repr

/-- What a bit period makes of a receive framer, for the blocks beside it: alignment gained (R65), a frame end with the frame's bits (R68), alignment lost (R67), or none of these. -/
inductive FramerAct where
  | quiet
  | gained
  | frameEnd (bits : List Bool)
  | lost
  deriving DecidableEq, Repr

/-- A slot's value in an output frame (R42), and what a probe observes (R131). -/
inductive SlotValue where
  | released
  | word (w : Word)
  deriving DecidableEq, Repr

/-- An output frame with the width its slots are sent at (R42). -/
structure OutFrame where
  number : Word
  width : Width
  slots : List SlotValue
  deriving DecidableEq, Repr

/-- The state of a transmit framer; in SENDING the frame and the position of the next bit (R70). -/
inductive TxState where
  | off
  | sending (frame : OutFrame) (next : Nat)
  | waiting
  deriving DecidableEq, Repr

/-- One line port (R60, R62, R69, R70). `syncWas` is the level of RXSYNC sampled in the bit period before (R62). -/
structure LinePort where
  record : LineRecord
  rx : RxFramer
  syncWas : Bool
  losses : Half
  tx : TxState
  txSync : Pin
  txData : Pin
  deriving DecidableEq, Repr

/-! ### Elastic stores -/

/-- A completed input frame: its samples, slot 0 first (R68). -/
abbrev InputFrame := List Word

/-- The record of an elastic store (R83). -/
structure Store where
  unread : List InputFrame
  current : Option InputFrame
  newly : Bool
  taken : Bool
  repeats : Half
  deletes : Half
  deriving DecidableEq, Repr

/-! ### Timing Unit and schedule table -/

/-- Selector state with its locked line (R98). -/
inductive Selector where
  | free
  | primary (line : Line)
  | secondary (line : Line)
  deriving DecidableEq, Repr

/-- The name of a selector state (R98). -/
inductive SelectorName where
  | free | lockedPrimary | lockedSecondary
  deriving DecidableEq, Repr

/-- The state's name without its line (R98). -/
def Selector.name : Selector → SelectorName
  | .free => .free
  | .primary _ => .lockedPrimary
  | .secondary _ => .lockedSecondary

/-- The locked line, absent in FREE (R98). -/
def Selector.line : Selector → Option Line
  | .free => none
  | .primary l => some l
  | .secondary l => some l

/-- The Timing Unit's record (R98), and below `stall` what section 6.3 counts between two boundaries: REFCLK periods since the last boundary, the free period in force, the locked line's bit periods since the last boundary, whether a frame start of it has come since, whether the bit period that places the next boundary has been reached, and the REFCLK count at which it stopped supplying frame starts (R104). -/
structure Timing where
  selector : Selector
  primary : Line
  secondary : Option Line
  revertive : Bool
  freePeriod : Half
  qualify : Vector Nat 8
  sfn : Word
  lockPending : Option Line
  stall : Bool
  refclk : Nat
  periodInForce : Half
  lineBits : Nat
  startSeen : Bool
  pointReached : Bool
  offLine : Option Nat
  deriving DecidableEq, Repr

/-- A scheduled action (R115). -/
inductive Action where
  | swap
  | pattern (index : PatternIndex) (value : Word)
  deriving DecidableEq, Repr

/-- The kind of a scheduled action (R115). -/
inductive ActionKind where
  | swap | pattern
  deriving DecidableEq, Repr

/-- The kind of an action (R115). -/
def Action.kind : Action → ActionKind
  | .swap => .swap
  | .pattern _ _ => .pattern

/-- A schedule entry (R115). -/
structure ScheduleEntry where
  tag : Nat
  due : Word
  action : Action
  deriving DecidableEq, Repr

/-! ### Slot Switch and Map Controller -/

/-- An entry of a map page with the fields its source kind has (R2). -/
inductive Entry where
  | release
  | slot (line : Line) (slot : Slot) (justify : Justify)
  | pattern (index : PatternIndex) (justify : Justify)
  | control
  deriving DecidableEq, Repr

/-- A map page: 512 entries, addressed by (line, slot) (R1). -/
abbrev Page := Vector (Vector Entry 64) 8

/-- The name of a page (R1). -/
inductive PageName where
  | a | b
  deriving DecidableEq, Repr

/-- A pattern (R7). -/
structure Pattern where
  present : Word
  pending : Option Word
  deriving DecidableEq, Repr

/-- The Slot Switch: both pages, the active-page indicator, the pattern table (R1, R7). -/
structure Switch where
  pageA : Page
  pageB : Page
  active : PageName
  patterns : Vector Pattern 16
  deriving DecidableEq, Repr

/-- The Map Controller's state with the fields each holds (R23). -/
inductive McState where
  | idle
  | copying (progress : Line) (owner : Byte)
  | clearing (progress : Line) (owner : Byte)
  | swapPending (target : Word) (owner : Byte)
  deriving DecidableEq, Repr

/-- The Map Controller (R23, R24). -/
structure MapController where
  state : McState
  lastSwap : Option Word
  endFrame : Option Word
  deriving DecidableEq, Repr

/-! ### Probe Unit -/

/-- A probe's mode (R130). -/
inductive ProbeMode where
  | off | change | matching
  deriving DecidableEq, Repr

/-- A probe's side (R130). -/
inductive Side where
  | rx | tx
  deriving DecidableEq, Repr

/-- A capture record (R130). -/
structure Capture where
  frame : Word
  seen : SlotValue
  deriving DecidableEq, Repr

/-- A probe (R130). -/
structure Probe where
  mode : ProbeMode
  side : Side
  line : Line
  slot : Slot
  value : Word
  mask : Word
  hits : Word
  last : Option SlotValue
  capture : Option Capture
  deriving DecidableEq, Repr

/-! ### Request Engine -/

/-- A status (R155). -/
inductive Status where
  | ok | queueFull | unknownKind | badLength | badValue | reserved | inUse | lineActive | notReady
  | pageBusy | tableFull | notFound | tooLate | tooFar | overlap | moveBusy | aborted
  deriving DecidableEq, Repr

/-- A request in the queue (R143). -/
structure Request where
  seq : Byte
  kind : Byte
  payload : List Byte
  deriving DecidableEq, Repr

/-- A response (R143, R152). `data` is the data of an OK response or the DETAIL octet of another, as octets; `hold` is the hold mark of R174. -/
structure Response where
  kind : Byte
  seq : Byte
  status : Status
  credit : Byte
  data : List Byte
  hold : Bool
  deriving DecidableEq, Repr

/-- The executor's state (R149). -/
inductive Executor where
  | ready | held
  deriving DecidableEq, Repr

/-- The Request Engine (R143). -/
structure RequestEngine where
  requests : List Request
  executor : Executor
  responses : List Response
  reserved : Bool
  cache : List Response
  droppedRequests : Half
  droppedResends : Half
  deriving DecidableEq, Repr

/-! ### Management Link -/

/-- A management channel location (00_scope.md, Terms; R164). -/
structure Location where
  line : Line
  first : Slot
  width : Nat
  deriving DecidableEq, Repr

/-- The link state (R164). -/
inductive LinkState where
  | settled | trial
  deriving DecidableEq, Repr

/-- The link receiver with the octets of the message in progress (R168). -/
inductive Receiver where
  | hunt
  | length
  | body (len : Byte) (octets : List Byte)
  | check (len : Byte) (octets : List Byte) (high : Option Byte)
  deriving DecidableEq, Repr

/-- Whose message the transmitter sends (R172). -/
inductive MessageOwner where
  | response | notice
  deriving DecidableEq, Repr

/-- A message being sent: its octets, lead-in to CHECK, and its hold mark (R167, R174). -/
structure OutMessage where
  owner : MessageOwner
  octets : List Byte
  hold : Bool
  deriving DecidableEq, Repr

/-- The link transmitter (R164). -/
inductive Transmitter where
  | free
  | sending (message : OutMessage) (next : Nat)
  | stopped
  deriving DecidableEq, Repr

/-- The Management Link's record (R164). -/
structure Link where
  current : Location
  state : LinkState
  pendingMove : Option Location
  former : Option Location
  lineLost : Bool
  trialTimer : Nat
  receiver : Receiver
  transmitter : Transmitter
  inARow : Nat
  checkErrors : Half
  lengthErrors : Half
  foreignKinds : Half
  deriving DecidableEq, Repr

/-! ### Notice Unit -/

/-- The cause of a full restart (R187). -/
inductive RestartCause where
  | powerOrPin | request
  deriving DecidableEq, Repr

/-- The outcome of a fired entry (R124). -/
inductive FiredOutcome where
  | done | pageBusy
  deriving DecidableEq, Repr

/-- How a move ended (R187). -/
inductive MoveReason where
  | confirmed | timeout | lineLost
  deriving DecidableEq, Repr

/-- An event, with the fields of its kind (R187). -/
inductive Event where
  | restarted (cause : RestartCause)
  | alignment (line : Line) (gained : Bool) (frame : Word)
  | slip (line : Line) (repeats deletes : Half) (first : Word)
  | reference (before after : SelectorName) (line : Line) (frame : Word)
  | scheduleDone (tag : Nat) (action : ActionKind) (frame : Word) (outcome : FiredOutcome)
  | probeMatch (probe : ProbeIndex) (frame : Word) (seen : SlotValue)
  | channel (reverted : Bool) (reason : MoveReason) (location : Location)
  | eventsLost (count : Half)
  deriving DecidableEq, Repr

/-- A record of the notice queue; its number is absent while it is never sent (R188). -/
structure NoticeRecord where
  event : Event
  number : Option Byte
  deriving DecidableEq, Repr

/-- The sending state (R192). -/
inductive SendState where
  | idle | waiting | outstanding | stalled
  deriving DecidableEq, Repr

/-- The Notice Unit (R188). -/
structure NoticeUnit where
  queue : List NoticeRecord
  lost : Half
  mask : Byte
  interval : Nat
  state : SendState
  sendCount : Nat
  timer : Nat
  nextNumber : Byte
  deriving DecidableEq, Repr

/-! ### The model's own record -/

/-- Which blocks have taken the boundary that is being taken ahead of BOUNDARY (log 6): whether any has (`isOpen`); the Timing Unit with its schedule table, and then the line whose lock boundary this is (R94); the elastic stores; the Management Link. Beside them what the blocks after them need to know of it: that a notice's last octet was placed at it (R194); that a swap, or the last step of a copy or clear, took effect at it (R36, log 15); the octets placed in its management slots (R171); the location given up at it (R54, log 17). -/
structure Opening where
  isOpen : Bool
  timingDone : Bool
  lock : Option Line
  storesDone : Bool
  linkDone : Bool
  noticeEnded : Bool
  swapped : Bool
  stepped : Bool
  placed : List Byte
  givenUp : Option Location
  deriving DecidableEq, Repr

end Sys2Proof.Machine
end

