-- ==== Sys2Proof/WellFormed.lean ====
section
/-! DEFINITION. Which commands are well-formed: the limits the spec puts on what a command carries. -/

namespace Sys2Proof

/-- A request kind's range, 01h to 3Fh (R170). -/
def requestKind (kind : Byte) : Bool :=
  1 ≤ kind.toNat && kind.toNat ≤ 0x3F

/-- A KIND that is neither a request kind nor Notice Ack (R170). -/
def foreign (kind : Byte) : Bool :=
  !requestKind kind && kind != Config.ackKind

/-- The check of one command: a delivered request has a request kind and a payload of at most 60 octets (R144, R167); a foreign message has a foreign KIND (R170); an order at a boundary names nobody twice, since a boundary is taken once by every block (R99); a pulse follows a bit period sampled low (R62). -/
def Instr.wellFormed : Instr → Bool
  | .requestIntake _ kind payload => requestKind kind && payload.length ≤ 60
  | .foreignKind kind => foreign kind
  | .boundary order => decide order.takers.Nodup && decide (order.within.map Coincidence.line).Nodup
  | .pulse _ before _ => !(before.getLast?.any RxSample.sync)
  | _ => true

end Sys2Proof
end

