-- ==== Sys2Proof/Machine/Operands.lean ====
section
/-! DEFINITION. Operand forms: octets of fields (R202), codes (R202 to R206), samples from bits (R68), width conversion (R48), the message frame and its CRC (R167). -/

namespace Sys2Proof.Machine

/-! ### Fields as octets, high octet first (R202) -/

/-- A number as one octet. -/
def octet (n : Nat) : Byte :=
  BitVec.ofNat 8 n

/-- A flag as one octet. -/
def flagOctet (b : Bool) : Byte :=
  if b then 1 else 0

/-- A 16-bit field. -/
def halfOctets (v : Half) : List Byte :=
  [v.extractLsb' 8 8, v.extractLsb' 0 8]

/-- A 32-bit field. -/
def wordOctets (v : Word) : List Byte :=
  [v.extractLsb' 24 8, v.extractLsb' 16 8, v.extractLsb' 8 8, v.extractLsb' 0 8]

/-- A 16-bit field read from its octets. -/
def halfOf (a b : Byte) : Half :=
  a ++ b

/-- A 32-bit field read from its octets. -/
def wordOf (a b c d : Byte) : Word :=
  a ++ b ++ c ++ d

/-- A line number from its octet, when in range. -/
def lineOf (b : Byte) : Option Line :=
  if h : b.toNat < 8 then some ⟨b.toNat, h⟩ else none

/-- A slot number from its octet, when in range. -/
def slotOf (b : Byte) : Option Slot :=
  if h : b.toNat < 64 then some ⟨b.toNat, h⟩ else none

/-- A pattern index from its octet, when in range. -/
def patternOf (b : Byte) : Option PatternIndex :=
  if h : b.toNat < 16 then some ⟨b.toNat, h⟩ else none

/-- A probe number from its octet, when in range. -/
def probeOf (b : Byte) : Option ProbeIndex :=
  if h : b.toNat < 4 then some ⟨b.toNat, h⟩ else none

/-- A flag of two values from its octet, when in range. -/
def flagOf (b : Byte) : Option Bool :=
  if b = 0 then some false else if b = 1 then some true else none

/-- A word length from its number of bits (R75). -/
def widthOf (b : Byte) : Option Width :=
  if b = 8 then some .w8 else if b = 16 then some .w16
  else if b = 24 then some .w24 else if b = 32 then some .w32 else none

/-- A loss action from its code (R75). -/
def lossOf (b : Byte) : Option LossAction :=
  if b = 0 then some .hold else if b = 1 then some .fill else none

/-- A justify from its code (R2). -/
def justifyOf (b : Byte) : Option Justify :=
  if b = 0 then some .low else if b = 1 then some .high else none

/-- A probe mode from its code (R138). -/
def probeModeOf (b : Byte) : Option ProbeMode :=
  if b = 0 then some .off else if b = 1 then some .change
  else if b = 2 then some .matching else none

/-- A probe side from its code (R138). -/
def sideOf (b : Byte) : Option Side :=
  if b = 0 then some .rx else if b = 1 then some .tx else none

/-! ### Codes -/

/-- The code of a status (R206). -/
def Status.code : Status → Byte
  | .ok => 0x00
  | .queueFull => 0x01
  | .unknownKind => 0x02
  | .badLength => 0x03
  | .badValue => 0x04
  | .reserved => 0x05
  | .inUse => 0x06
  | .lineActive => 0x07
  | .notReady => 0x08
  | .pageBusy => 0x09
  | .tableFull => 0x0A
  | .notFound => 0x0B
  | .tooLate => 0x0C
  | .tooFar => 0x0D
  | .overlap => 0x0E
  | .moveBusy => 0x0F
  | .aborted => 0x10

/-- The code of a loss action (R60). -/
def LossAction.code : LossAction → Byte
  | .hold => 0
  | .fill => 1

/-- The code of a justify (R2). -/
def Justify.code : Justify → Byte
  | .low => 0
  | .high => 1

/-- The code of a receive framer's state (R79). -/
def FramerState.code : FramerState → Byte
  | .off => 0
  | .hunt => 1
  | .confirm => 2
  | .aligned => 3

/-- The code of a selector state (R112). -/
def SelectorName.code : SelectorName → Byte
  | .free => 0
  | .lockedPrimary => 1
  | .lockedSecondary => 2

/-- The code of a scheduled action (R115). -/
def ActionKind.code : ActionKind → Byte
  | .swap => 0
  | .pattern => 1

/-- The pattern index reported for an action, 0 for SWAP (R125). -/
def Action.indexOctet : Action → Byte
  | .swap => 0
  | .pattern i _ => octet i.val

/-- The code of a fired entry's outcome (R124). -/
def FiredOutcome.code : FiredOutcome → Byte
  | .done => 0
  | .pageBusy => 1

/-- The code of a page (R202). -/
def PageName.code : PageName → Byte
  | .a => 0
  | .b => 1

/-- The code of the Map Controller's state (R23). -/
def McState.code : McState → Byte
  | .idle => 0
  | .copying _ _ => 1
  | .clearing _ _ => 2
  | .swapPending _ _ => 3

/-- The code of a probe mode (R130). -/
def ProbeMode.code : ProbeMode → Byte
  | .off => 0
  | .change => 1
  | .matching => 2

/-- The code of a probe side (R130). -/
def Side.code : Side → Byte
  | .rx => 0
  | .tx => 1

/-- The code of an observation that may be absent (R140). -/
def sampleCode : Option SlotValue → Byte
  | none => 0
  | some (.word _) => 1
  | some .released => 2

/-- The word of an observation, 0 when it has none (R140). -/
def sampleWord : Option SlotValue → Word
  | some (.word w) => w
  | _ => 0

/-- The code of the link state (R184). -/
def LinkState.code : LinkState → Byte
  | .settled => 0
  | .trial => 1

/-- The code of a sending state (R200). -/
def SendState.code : SendState → Byte
  | .idle => 0
  | .waiting => 1
  | .outstanding => 2
  | .stalled => 3

/-- The code of a restart's cause (R187). -/
def RestartCause.code : RestartCause → Byte
  | .powerOrPin => 0
  | .request => 1

/-- The code of a move's reason (R187). -/
def MoveReason.code : MoveReason → Byte
  | .confirmed => 0
  | .timeout => 1
  | .lineLost => 2

/-- A map entry as its four octets, 0 where its kind uses none (R203). -/
def Entry.octets : Entry → List Byte
  | .release => [0, 0, 0, 0]
  | .slot l t j => [1, octet l.val, octet t.val, j.code]
  | .pattern i j => [2, octet i.val, 0, j.code]
  | .control => [3, 0, 0, 0]

/-- A location as its three octets (R204). -/
def Location.octets (loc : Location) : List Byte :=
  [octet loc.line.val, octet loc.first.val, octet loc.width]

/-! ### Notices -/

/-- The KIND of an event's notice (R187). -/
def Event.kind : Event → Byte
  | .restarted _ => 0xC1
  | .alignment _ _ _ => 0xC2
  | .slip _ _ _ _ => 0xC3
  | .reference _ _ _ _ => 0xC4
  | .scheduleDone _ _ _ _ => 0xC5
  | .probeMatch _ _ _ => 0xC6
  | .channel _ _ _ => 0xC7
  | .eventsLost _ => 0xC8

/-- The payload of an event's notice (R205). -/
def Event.payload : Event → List Byte
  | .restarted c => [c.code]
  | .alignment l g f => [octet l.val, flagOctet g] ++ wordOctets f
  | .slip l r d f => [octet l.val] ++ halfOctets r ++ halfOctets d ++ wordOctets f
  | .reference b a l f => [b.code, a.code, octet l.val] ++ wordOctets f
  | .scheduleDone t a f o => [octet t, a.code] ++ wordOctets f ++ [o.code]
  | .probeMatch p f v => [octet p.val] ++ wordOctets f ++ [sampleCode (some v)] ++ wordOctets (sampleWord (some v))
  | .channel r why loc => [flagOctet r, why.code] ++ loc.octets
  | .eventsLost n => halfOctets n

/-- Whether the enable mask lets an event in: bit 0 upward stands for C2h to C7h; RESTARTED and EVENTS_LOST cannot be disabled (R187, R203). -/
def Event.enabled (mask : Byte) : Event → Bool
  | .restarted _ => true
  | .alignment _ _ _ => mask.getLsbD 0
  | .slip _ _ _ _ => mask.getLsbD 1
  | .reference _ _ _ _ => mask.getLsbD 2
  | .scheduleDone _ _ _ _ => mask.getLsbD 3
  | .probeMatch _ _ _ => mask.getLsbD 4
  | .channel _ _ _ => mask.getLsbD 5
  | .eventsLost _ => true

/-! ### Samples and width conversion -/

/-- A word from its bits, the first most significant (R68). -/
def bitsWord (bits : List Bool) : Word :=
  bits.foldl (fun w b => (w <<< 1) ||| (if b then 1 else 0)) 0

/-- The samples of a frame of `slots` slots of `width` bits (R68). -/
def frameWords (width : Nat) : Nat → List Bool → InputFrame
  | 0, _ => []
  | slots + 1, bits => bitsWord (bits.take width) :: frameWords width slots (bits.drop width)

/-- The length of a line frame in bit periods, S × W (R60). -/
def LineRecord.frameBits (r : LineRecord) : Nat :=
  r.slots * r.width.bits

/-- The word with only its low W bits kept. -/
def lowBits (width : Width) (x : Word) : Word :=
  x &&& BitVec.ofNat 32 (2 ^ width.bits - 1)

/-- Width conversion from `ws` to `wd` under a justify (R48). -/
def convert (ws wd : Width) (justify : Justify) (x : Word) : Word :=
  match justify with
  | .high => if wd.bits ≤ ws.bits then x >>> (ws.bits - wd.bits) else x <<< (wd.bits - ws.bits)
  | .low => if wd.bits ≤ ws.bits then lowBits wd x else x

/-- The upper 8 bits of a W-bit word (R166). -/
def upperOctet (width : Width) (x : Word) : Byte :=
  (x >>> (width.bits - 8)).setWidth 8

/-- A management octet in the upper 8 bits of a W-bit word (R54). -/
def octetWord (width : Width) (b : Byte) : Word :=
  b.setWidth 32 <<< (width.bits - 8)

/-! ### The message frame -/

/-- `n` shifts of the CRC register (R167). -/
def crcShifts : Nat → Half → Half
  | 0, r => r
  | n + 1, r => crcShifts n (if r.msb then (r <<< 1) ^^^ 0x1021#16 else r <<< 1)

/-- One covered octet taken into the CRC register (R167). -/
def crcOctet (r : Half) (b : Byte) : Half :=
  crcShifts 8 (r ^^^ (b.setWidth 16 <<< 8))

/-- CHECK over the covered octets (R167). -/
def crc (covered : List Byte) : Half :=
  covered.foldl crcOctet 0xFFFF#16

/-- The octets of a message, lead-in to CHECK (R167). -/
def messageOctets (seq kind : Byte) (payload : List Byte) : List Byte :=
  let covered := octet (payload.length + 2) :: seq :: kind :: payload
  Config.leadIn :: covered ++ halfOctets (crc covered)

/-- The payload of a response: status, credit, then data or DETAIL (R152). -/
def Response.payload (r : Response) : List Byte :=
  r.status.code :: r.credit :: r.data

/-- The octets of a response (R152, R167). -/
def Response.octets (r : Response) : List Byte :=
  messageOctets r.seq r.kind r.payload

/-- A payload cut into map entries of four octets; a remainder is dropped (R203). -/
def entryOctets : List Byte → List (Byte × Byte × Byte × Byte)
  | a :: b :: c :: d :: rest => (a, b, c, d) :: entryOctets rest
  | _ => []

end Sys2Proof.Machine
end

