-- ==== Sys2Proof/Machine/RestartValues.lean ====
section
/-! DEFINITION. The value each block takes at a full restart, from the strap levels sampled at it (R20, R22, R80, R97, R113, R128, R142, R163, R185, R201). -/

namespace Sys2Proof.Machine

/-- The slot count of the control line's format (R80, the CTLFMT table). -/
def strapSlots (fmt : Fin 4) : Nat :=
  if fmt = 2 then 16 else if fmt = 3 then 64 else 32

/-- The word length of the control line's format (R80, the CTLFMT table). -/
def strapWidth (fmt : Fin 4) : Width :=
  if fmt = 1 then .w16 else if fmt = 2 then .w32 else .w8

/-- The strap location: line CTLLINE, first slot 0, width 1 or 2 (R3, R185). -/
def strapLocation (straps : Straps) : Location :=
  { line := straps.ctlLine, first := 0, width := if straps.ctlW then 2 else 1 }

/-- A receive framer in this state with no frame start and counts 0 (R63, R64). -/
def emptyFramer (state : FramerState) : RxFramer :=
  { state := state, confirm := 0, miss := 0, bits := [] }

/-- A line port after a full restart (R80). The RXSYNC level is the model's choice (log 12). -/
def restartPort (straps : Straps) (line : Line) : LinePort :=
  let control := line = straps.ctlLine
  { record :=
      { rxOn := control, txOn := control
        slots := if control then strapSlots straps.ctlFmt else 32
        width := if control then strapWidth straps.ctlFmt else .w8
        loss := .fill, lossPattern := 0 }
    rx := emptyFramer (if control then .hunt else .off)
    syncWas := false, losses := 0, tx := .off, txSync := .undriven, txData := .undriven }

/-- An elastic store after a full restart (R97). -/
def restartStore : Store :=
  { unread := [], current := none, newly := false, taken := false, repeats := 0, deletes := 0 }

/-- The Timing Unit after a full restart (R113); the counts of section 6.3 start afresh (log 19). -/
def restartTiming (straps : Straps) : Timing :=
  { selector := .free, primary := straps.ctlLine, secondary := none, revertive := false
    freePeriod := Config.resetFreePeriod, qualify := Vector.replicate 8 0, sfn := 0
    lockPending := none, stall := false
    refclk := 0, periodInForce := Config.resetFreePeriod, lineBits := 0
    startSeen := false, pointReached := false, offLine := none }

/-- The transmit position (line, slot) lies in the location (R3). -/
def Location.covers (loc : Location) (line : Line) (slot : Slot) : Bool :=
  loc.line = line && loc.first.val ≤ slot.val && slot.val < loc.first.val + loc.width

/-- The page with CONTROL at every position of these locations and RELEASE elsewhere (R20, R21). -/
def blankPage (locations : List Location) : Page :=
  Vector.ofFn fun line => Vector.ofFn fun slot =>
    if locations.any fun loc => loc.covers line slot then .control else .release

/-- The Slot Switch rebuilt around these locations: both pages blank, page A active, patterns 0 and nothing pending (R20, R21, R22). -/
def blankSwitch (locations : List Location) : Switch :=
  { pageA := blankPage locations, pageB := blankPage locations, active := .a
    patterns := Vector.replicate 16 { present := 0, pending := none } }

/-- The Map Controller after either restart (R23, R24). -/
def restartMc : MapController :=
  { state := .idle, lastSwap := none, endFrame := none }

/-- A probe after either restart (R142). -/
def restartProbe : Probe :=
  { mode := .off, side := .rx, line := 0, slot := 0, value := 0, mask := 0
    hits := 0, last := none, capture := none }

/-- The Request Engine after a full restart (R163). -/
def restartEngine : RequestEngine :=
  { requests := [], executor := .ready, responses := [], reserved := false, cache := []
    droppedRequests := 0, droppedResends := 0 }

/-- The Management Link after a full restart (R185). -/
def restartLink (straps : Straps) : Link :=
  { current := strapLocation straps, state := .settled, pendingMove := none, former := none
    lineLost := false, trialTimer := 0, receiver := .hunt, transmitter := .free, inARow := 0
    checkErrors := 0, lengthErrors := 0, foreignKinds := 0 }

/-- The Notice Unit after a full restart: RESTARTED waits at the head (R201). -/
def restartNotices (cause : RestartCause) : NoticeUnit :=
  { queue := [{ event := .restarted cause, number := none }], lost := 0, mask := Config.resetMask
    interval := Config.resetInterval, state := .waiting, sendCount := 0, timer := 0
    nextNumber := 0 }

/-- No block has taken the coming boundary ahead of BOUNDARY (log 6). -/
def closedOpening : Opening :=
  { isOpen := false, timingDone := false, lock := none, storesDone := false, linkDone := false
    noticeEnded := false, swapped := false, stepped := false, placed := [], givenUp := none }

end Sys2Proof.Machine
end

