-- ==== Sys2Proof/Machine/State.lean ====
section
/-! DEFINITION. The state of the part, its faults and refusals, and the state after a full restart. -/

namespace Sys2Proof.Machine

/-- The whole state: the pins, the ten blocks, and the queue of commands that wait. -/
structure State where
  /-- the strap pins' levels (00_scope.md, Pins) -/
  straps : Straps
  /-- RESTART_N is low (R80) -/
  held : Bool
  /-- LP0 to LP7 (chapter 4) -/
  ports : Vector LinePort 8
  /-- ES0 to ES7 (chapter 5) -/
  stores : Vector Store 8
  /-- TU (chapter 6) -/
  timing : Timing
  /-- the schedule table (chapter 7) -/
  schedule : List ScheduleEntry
  /-- SSW (chapter 1) -/
  switch : Switch
  /-- MC (chapter 2) -/
  mc : MapController
  /-- PU (chapter 8) -/
  probes : Vector Probe 4
  /-- RQE (chapter 9) -/
  engine : RequestEngine
  /-- ML (chapter 10) -/
  link : Link
  /-- NU (chapter 11) -/
  notices : NoticeUnit
  /-- shares of the coming boundary taken ahead (the model's own, log 6) -/
  opening : Opening
  /-- the commands that wait, first in first out -/
  pending : List Instr
  deriving DecidableEq, Repr

/-- Why the part stops: never. The spec names no event that stops it, so there is no constructor. -/
inductive Fault where
  deriving DecidableEq, Repr

/-- Why a command has no meaning here. -/
inductive Refusal where
  /-- The dispatch would raise this for a command with no meaning yet (safe); no arm does. -/
  | notModelled (mnemonic : String)
  deriving DecidableEq, Repr

/-- The strap levels of `State.reset`: all low (DESIGN CHOICE, log 10). -/
def resetStraps : Straps :=
  { ctlLine := 0, ctlW := false, ctlFmt := 0 }

/-- The part right after power-up, RESTART_N high, with the strap levels of log 10 (R20, R22, R80, R97, R113, R128, R142, R163, R185, R201). -/
def State.reset : State :=
  { straps := resetStraps, held := false
    ports := Vector.ofFn (restartPort resetStraps)
    stores := Vector.replicate 8 restartStore
    timing := restartTiming resetStraps
    schedule := []
    switch := blankSwitch [strapLocation resetStraps]
    mc := restartMc
    probes := Vector.replicate 4 restartProbe
    engine := restartEngine
    link := restartLink resetStraps
    notices := restartNotices .powerOrPin
    opening := closedOpening
    pending := [] }

/-- The state with this `ports`. -/
def State.withPorts (s : State) (v : Vector LinePort 8) : State :=
  { s with ports := v }

/-- The state with this `stores`. -/
def State.withStores (s : State) (v : Vector Store 8) : State :=
  { s with stores := v }

/-- The state with this `timing`. -/
def State.withTiming (s : State) (v : Timing) : State :=
  { s with timing := v }

/-- The state with this `schedule`. -/
def State.withSchedule (s : State) (v : List ScheduleEntry) : State :=
  { s with schedule := v }

/-- The state with this `switch`. -/
def State.withSwitch (s : State) (v : Switch) : State :=
  { s with switch := v }

/-- The state with this `mc`. -/
def State.withMc (s : State) (v : MapController) : State :=
  { s with mc := v }

/-- The state with this `probes`. -/
def State.withProbes (s : State) (v : Vector Probe 4) : State :=
  { s with probes := v }

/-- The state with this `engine`. -/
def State.withEngine (s : State) (v : RequestEngine) : State :=
  { s with engine := v }

/-- The state with this `link`. -/
def State.withLink (s : State) (v : Link) : State :=
  { s with link := v }

/-- The state with this `notices`. -/
def State.withNotices (s : State) (v : NoticeUnit) : State :=
  { s with notices := v }

/-- The state with this `opening`. -/
def State.withOpening (s : State) (v : Opening) : State :=
  { s with opening := v }

/-- The state with this queue of commands. -/
def State.withPending (s : State) (v : List Instr) : State :=
  { s with pending := v }

end Sys2Proof.Machine
end

