-- ==== Sys2Proof/Machine/Ops.lean ====
section
/-! DEFINITION. The named operations over registers, pages and queues that the meanings share. -/

namespace Sys2Proof.Machine

/-! ### Counters (00_scope.md, Conventions: counters stop at their largest value) -/

/-- A 16-bit counter raised by 1. -/
def satInc (c : Half) : Half :=
  if c = 0xFFFF#16 then c else c + 1

/-- A sum of two 16-bit counts, stopping at 65535 (R190). -/
def satAdd (a b : Half) : Half :=
  if a.toNat + b.toNat < 65536 then a + b else 0xFFFF#16

/-- The hit count raised by 1 (R137). -/
def satIncWord (c : Word) : Word :=
  if c = 0xFFFFFFFF#32 then c else c + 1

/-! ### One home per register -/

/-- Line port `l`. -/
def State.port (s : State) (l : Line) : LinePort :=
  s.ports[l]

/-- The state with line port `l` replaced. -/
def State.setPort (s : State) (l : Line) (p : LinePort) : State :=
  s.withPorts (s.ports.set l p)

/-- Elastic store `l`. -/
def State.store (s : State) (l : Line) : Store :=
  s.stores[l]

/-- The state with elastic store `l` replaced. -/
def State.setStore (s : State) (l : Line) (e : Store) : State :=
  s.withStores (s.stores.set l e)

/-- Probe `p`. -/
def State.probe (s : State) (p : ProbeIndex) : Probe :=
  s.probes[p]

/-- The state with probe `p` replaced. -/
def State.setProbeAt (s : State) (p : ProbeIndex) (v : Probe) : State :=
  s.withProbes (s.probes.set p v)

/-- Pattern `i`. -/
def State.pattern (s : State) (i : PatternIndex) : Pattern :=
  s.switch.patterns[i]

/-- The state with pattern `i` replaced. -/
def State.setPatternAt (s : State) (i : PatternIndex) (v : Pattern) : State :=
  s.withSwitch { s.switch with patterns := s.switch.patterns.set i v }

/-! ### Pages -/

/-- The entry of a page at a transmit position (R1). -/
def entryAt (p : Page) (line : Line) (slot : Slot) : Entry :=
  p[line][slot]

/-- The page with one entry replaced. -/
def putEntry (p : Page) (line : Line) (slot : Slot) (e : Entry) : Page :=
  p.set line (p[line].set slot e)

/-- The page with `e` at every position the test names. -/
def writeWhere (test : Line → Slot → Bool) (e : Entry) (p : Page) : Page :=
  Vector.ofFn fun line => Vector.ofFn fun slot =>
    if test line slot then e else entryAt p line slot

/-- The other page. -/
def PageName.other : PageName → PageName
  | .a => .b
  | .b => .a

/-- The page of a name. -/
def Switch.page (w : Switch) : PageName → Page
  | .a => w.pageA
  | .b => w.pageB

/-- The page in service (R1). -/
def Switch.activePage (w : Switch) : Page :=
  w.page w.active

/-- The other page (R1). -/
def Switch.standbyPage (w : Switch) : Page :=
  w.page w.active.other

/-- The Slot Switch with the standby page replaced. -/
def Switch.withStandby (w : Switch) (p : Page) : Switch :=
  match w.active with
  | .a => { w with pageB := p }
  | .b => { w with pageA := p }

/-- The Slot Switch with both pages written alike (R5). -/
def Switch.onBoth (w : Switch) (f : Page → Page) : Switch :=
  { w with pageA := f w.pageA, pageB := f w.pageB }

/-- The Slot Switch with the pages exchanged (R34). -/
def Switch.swapped (w : Switch) : Switch :=
  { w with active := w.active.other }

/-! ### Management positions -/

/-- Every location the link holds (R3). -/
def Link.locations (k : Link) : List Location :=
  k.current :: (k.pendingMove.toList ++ k.former.toList)

/-- A position lies in one of these locations. -/
def coveredBy (locations : List Location) (line : Line) (slot : Slot) : Bool :=
  locations.any fun loc => loc.covers line slot

/-- A position is a management position (R3). -/
def State.management (s : State) (line : Line) (slot : Slot) : Bool :=
  coveredBy s.link.locations line slot

/-- Both pages get CONTROL at a location's positions (R5). -/
def Switch.joinLocation (w : Switch) (loc : Location) : Switch :=
  w.onBoth (writeWhere (fun line slot => loc.covers line slot) .control)

/-- Both pages get RELEASE at the positions that leave the set: those of `gone` that no remaining location covers (R5, log 18). -/
def Switch.leaveLocation (w : Switch) (gone : Location) (rest : List Location) : Switch :=
  w.onBoth (writeWhere (fun line slot => gone.covers line slot && !coveredBy rest line slot) .release)

/-! ### Notices -/

/-- A SLIP event merged into the never-sent SLIP record of its line, when the queue holds one (R190). -/
def mergeSlip (line : Line) (repeats deletes : Half) : List NoticeRecord → Option (List NoticeRecord)
  | [] => none
  | r :: rest =>
    match r.number, r.event with
    | none, .slip l a d first =>
      if l = line then
        some ({ r with event := .slip l (satAdd a repeats) (satAdd d deletes) first } :: rest)
      else (mergeSlip line repeats deletes rest).map (r :: ·)
    | _, _ => (mergeSlip line repeats deletes rest).map (r :: ·)

/-- The queue after a merge, when the event is a SLIP that can merge (R189). -/
def mergeEvent (e : Event) (queue : List NoticeRecord) : Option (List NoticeRecord) :=
  match e with
  | .slip l a d _ => mergeSlip l a d queue
  | _ => none

/-- A record appended behind the queue; IDLE becomes WAITING (R189). -/
def NoticeUnit.append (n : NoticeUnit) (e : Event) : NoticeUnit :=
  { n with
    queue := n.queue ++ [{ event := e, number := none }]
    state := if n.state = .idle then .waiting else n.state }

/-- An event reaches the Notice Unit (R189). -/
def NoticeUnit.raise (n : NoticeUnit) (e : Event) : NoticeUnit :=
  if !e.enabled n.mask then n
  else
    match mergeEvent e n.queue with
    | some queue => { n with queue := queue }
    | none =>
      if n.queue.length < Config.noticePlaces then n.append e
      else { n with lost := satInc n.lost }

/-- The state after an event has been raised. -/
def State.raise (s : State) (e : Event) : State :=
  s.withNotices (s.notices.raise e)

/-- The state after these events have been raised, in order. -/
def State.raiseAll (s : State) (events : List Event) : State :=
  events.foldl State.raise s

/-! ### The response queue -/

/-- Occupied places: responses waiting and the reservation (R143). -/
def RequestEngine.occupied (q : RequestEngine) : Nat :=
  q.responses.length + if q.reserved then 1 else 0

/-- An unreserved free place exists (R143). -/
def RequestEngine.hasPlace (q : RequestEngine) : Bool :=
  q.occupied < Config.responsePlaces

/-- Free places of the request queue (R148). -/
def RequestEngine.credit (q : RequestEngine) : Byte :=
  octet (Config.requestPlaces - q.requests.length)

/-- A final response joins the cache, the oldest leaving when it would hold five (R154). -/
def pushCache (cache : List Response) (r : Response) : List Response :=
  let grown := cache ++ [r]
  if Config.cachePlaces < grown.length then grown.drop 1 else grown

/-- A final response is queued and joins the cache (R154). -/
def RequestEngine.queueFinal (q : RequestEngine) (r : Response) : RequestEngine :=
  { q with responses := q.responses ++ [r], cache := pushCache q.cache r }

/-- The kind of the response to a request kind (R152). -/
def responseKind (kind : Byte) : Byte :=
  kind + 0x80

/-- The response to a request, with the credit of this moment (R152). -/
def RequestEngine.response (q : RequestEngine) (kind seq : Byte) (status : Status) (data : List Byte)
    (hold : Bool) : Response :=
  { kind := responseKind kind, seq := seq, status := status, credit := q.credit, data := data, hold := hold }

/-- The executor answers the request it is carrying out (R149). -/
def State.answer (s : State) (r : Request) (status : Status) (data : List Byte) : State :=
  s.withEngine (s.engine.queueFinal (s.engine.response r.kind r.seq status data false))

/-- The executor answers with a hold mark and enters HELD (R150, R174). -/
def State.answerHeld (s : State) (r : Request) (data : List Byte) : State :=
  s.withEngine
    { s.engine.queueFinal (s.engine.response r.kind r.seq .ok data true) with executor := .held }

/-- A length the kind does not accept (R149). -/
def State.badLength (s : State) (r : Request) : State :=
  s.answer r .badLength [octet r.payload.length]

/-- A page operation's final response fills the reserved place (R25, R153). -/
def State.fillReserved (s : State) (kind owner : Byte) (status : Status) (data : List Byte) : State :=
  s.withEngine
    { s.engine.queueFinal (s.engine.response kind owner status data false) with reserved := false }

/-! ### The opening of a boundary -/

/-- A share of the coming boundary has been taken ahead of BOUNDARY (log 6). -/
def State.opened (s : State) : State :=
  s.withOpening { s.opening with isOpen := true }

end Sys2Proof.Machine
end

