-- ==== Sys2Proof/Machine/Flags.lean ====
section
/-! DEFINITION. The conditions the steps read: where boundaries fall (R101 to R105), which boundary is the restart boundary (R161), when the executor takes a request (R149). -/

namespace Sys2Proof.Machine

/-- The next boundary has been placed: in FREE by the free period (R101); in a locked state by a stall (R105), by REFCLK after the line stopped supplying frame starts (R104), or by the line's half-frame point (R102, R103). -/
def Timing.placed (t : Timing) : Bool :=
  match t.selector.line with
  | none => t.periodInForce.toNat ≤ t.refclk
  | some _ =>
    t.stall ||
      match t.offLine with
      | some count => t.periodInForce.toNat ≤ t.refclk && count < t.refclk
      | none => t.pointReached

/-- How the next boundary is placed has been settled in a locked state: the line's point has been reached (R102, R103), the line stopped supplying frame starts (R104), or twice the free period in force has passed without either (R105). -/
def Timing.settled (t : Timing) : Bool :=
  t.pointReached || t.offLine.isSome || 2 * t.periodInForce.toNat ≤ t.refclk

/-- The line whose lock boundary the next one is (R94, R103): the pending line, unless R104 or R105 places the boundary. -/
def Timing.lockBoundary (t : Timing) : Option Line :=
  if t.stall || t.offLine.isSome then none else t.lockPending

/-- A boundary falls now: RESTART_N is high, and the boundary has been placed or a share of it has been taken (R99, R113). -/
def State.boundaryDue (s : State) : Bool :=
  !s.held && (s.opening.isOpen || s.timing.placed)

/-- The boundary that falls next is the restart boundary: the hold-marked Restart response has ended at an earlier boundary, and no move is pending (R161, R174). -/
def State.restartDue (s : State) : Bool :=
  !s.opening.isOpen && s.link.transmitter = .stopped && s.link.pendingMove.isNone

/-- A numbered boundary falls now (R114). -/
def State.numberedDue (s : State) : Bool :=
  s.boundaryDue && !s.restartDue

/-- The number of the boundary that comes, or of the one being taken when the Timing Unit has taken it (R99). -/
def State.comingFrame (s : State) : Word :=
  if s.opening.timingDone then s.timing.sfn else s.timing.sfn + 1

/-- The executor may take the head of the request queue: RESTART_N is high, no boundary is part way through (R149: a boundary falls before or after a request), the executor is READY and an unreserved free place exists (R149, log 6). -/
def State.executorFree (s : State) : Bool :=
  !s.held && !s.opening.isOpen && s.engine.executor = .ready && s.engine.hasPlace

/-- The executor's step on a head request that passes the test: the request leaves the queue and is carried out in the same act (R149). With no such head, nothing happens (log 2). -/
def State.serve (s : State) (test : Request → Bool) (carry : Request → State → State) : State :=
  if s.executorFree then
    match s.engine.requests with
    | r :: rest =>
      if test r then carry r (s.withEngine { s.engine with requests := rest }) else s
    | [] => s
  else s

/-- The test that a request is of this kind. -/
def ofKind (kind : Byte) (r : Request) : Bool :=
  r.kind = kind

/-- An entry's distance ahead (R117). -/
def distanceAhead (due sfn : Word) : Nat :=
  (due - sfn).toNat

end Sys2Proof.Machine
end

