-- ==== Sys2Proof/Machine/Stores.lean ====
section
/-! DEFINITION. The elastic stores: arrivals, boundaries, flushes (chapter 5) and Read Stats. -/

namespace Sys2Proof.Machine

/-! ### The store's own acts -/

/-- A completed frame arrives; with two unread the oldest is discarded as a delete slip (R85). -/
def Store.arrive (e : Store) (frame : InputFrame) : Store :=
  if e.unread.length < Config.unreadFrames then { e with unread := e.unread ++ [frame] }
  else { e with unread := e.unread.drop 1 ++ [frame], deletes := satInc e.deletes }

/-- An arrival makes a delete slip (R85). -/
def Store.arrivalSlips (e : Store) : Bool :=
  !(e.unread.length < Config.unreadFrames)

/-- The framer lost alignment: unread frames discarded, taken since aligned cleared, the current frame kept (R92). -/
def Store.flush (e : Store) : Store :=
  { e with unread := [], taken := false }

/-- The receive side is turned off: nothing is kept (R93). -/
def Store.disable (e : Store) : Store :=
  { e with unread := [], current := none, newly := false, taken := false }

/-- One delete counted for each of these frames (R94, R95). -/
def countDeletes (deletes : Half) : List InputFrame → Half
  | [] => deletes
  | _ :: rest => countDeletes (satInc deletes) rest

/-- A boundary at which the store takes a frame: the oldest, or at a lock boundary the newest, the older ones discarded as delete slips (R86, R94). -/
def Store.take (e : Store) (lock : Bool) (oldest : InputFrame) (rest : List InputFrame) : Store :=
  if lock then
    { e with
      unread := [], current := (oldest :: rest).getLast?, newly := true, taken := true
      deletes := countDeletes e.deletes rest }
  else { e with unread := rest, current := some oldest, newly := true, taken := true }

/-- The store's handling of a boundary: take, repeat slip, or loss action (R86 to R88, R94). -/
def Store.boundary (e : Store) (lock : Bool) (loss : LossAction) : Store :=
  match e.unread with
  | oldest :: rest => e.take lock oldest rest
  | [] =>
    if e.taken then { e with newly := false, repeats := satInc e.repeats }
    else { e with newly := false, current := if loss = .hold then e.current else none }

/-- The SLIP events of a boundary: one for a repeat slip, one for each older frame a lock boundary discards (R87, R94). -/
def Store.boundarySlips (e : Store) (lock : Bool) (line : Line) (n : Word) : List Event :=
  match e.unread with
  | _ :: rest => if lock then rest.map fun _ => .slip line 0 1 n else []
  | [] => if e.taken then [.slip line 1 0 n] else []

/-! ### The stores in the part -/

/-- The coming boundary is a lock boundary for the line; the mark was fixed when the boundary was placed (R94). -/
def State.lockFor (s : State) (line : Line) : Bool :=
  (if s.opening.timingDone then s.opening.lock else s.timing.lockBoundary) = some line

/-- Store `line` after it has handled the coming boundary, once (R86, R99). -/
def State.storeAfter (s : State) (line : Line) : Store :=
  if s.opening.storesDone then s.store line
  else (s.store line).boundary (s.lockFor line) (s.port line).record.loss

/-- The SLIP events store `line` has still to raise at the coming boundary (R87, R94). -/
def State.storeSlips (s : State) (line : Line) : List Event :=
  if s.opening.storesDone then []
  else (s.store line).boundarySlips (s.lockFor line) line s.comingFrame

/-- Every store handles the coming boundary ahead of BOUNDARY, line 0 first (R86, log 6). -/
def State.takeStores (s : State) : State :=
  ((s.withStores (Vector.ofFn s.storeAfter)).withOpening
      { s.opening with isOpen := true, storesDone := true }).raiseAll
    ((List.finRange 8).flatMap s.storeSlips)

/-- The frame newly taken on a line at the boundary its store handled last, when one was (R89). -/
def State.newFrame (s : State) (line : Line) : Option InputFrame :=
  if (s.store line).newly then (s.store line).current else none

/-- The frame newly taken on a line at the coming boundary, when one is (R89). -/
def State.takenFrame (s : State) (line : Line) : Option InputFrame :=
  if (s.storeAfter line).newly then (s.storeAfter line).current else none

/-- A completed frame reaches the store of its line; a delete slip raises SLIP with the SFN as it stands (R85). -/
def State.arrive (s : State) (line : Line) (frame : InputFrame) : State :=
  let stored := s.setStore line ((s.store line).arrive frame)
  if (s.store line).arrivalSlips then stored.raise (.slip line 0 1 s.timing.sfn) else stored

/-! ### Read Stats -/

/-- The three counters of a line set to 0 (R96). -/
def State.clearStats (s : State) (line : Line) : State :=
  (s.setPort line { s.port line with losses := 0 }).setStore line
    { s.store line with repeats := 0, deletes := 0 }

/-- What Read Stats returns (R96, R204). -/
def State.stats (s : State) (line : Line) : List Byte :=
  [octet line.val] ++ halfOctets (s.port line).losses ++ halfOctets (s.store line).repeats
    ++ halfOctets (s.store line).deletes

/-- Read Stats (R96). With line and clear flag both out of range it is refused for the line: R96 gives the two checks no order (log 24, DESIGN CHOICE). -/
def readStats (r : Request) (s : State) : State :=
  match r.payload with
  | [l, c] =>
    match lineOf l, flagOf c with
    | none, _ => s.answer r .badValue [0]
    | some _, none => s.answer r .badValue [1]
    | some line, some clear =>
      (if clear then s.clearStats line else s).answer r .ok (s.stats line)
  | _ => s.badLength r

/-- READ_STATS (0Ah, R96). -/
def execReadStats (s : State) : Host.Outcome State Fault Refusal :=
  .next (s.serve (ofKind 0x0A) readStats)

end Sys2Proof.Machine
end

