-- ==== Sys2Proof/Machine/Lines.lean ====
section
/-! DEFINITION. The line ports: receive framer (R62 to R69), transmit framer's bit periods (R70 to R72), Set Line and Get Line. -/

namespace Sys2Proof.Machine

/-! ### The receive framer -/

/-- The framer in this state with a frame start in this bit period (R64, R65). -/
def startFrame (state : FramerState) (confirm miss : Nat) (data : Bool) : RxFramer :=
  { state := state, confirm := confirm, miss := miss, bits := [data] }

/-- One more bit of the frame in progress (R62). -/
def RxFramer.collect (f : RxFramer) (data : Bool) : RxFramer :=
  { f with bits := f.bits ++ [data] }

/-- A bit period in CONFIRM of a frame of `len` bits (R65). -/
def RxFramer.confirming (f : RxFramer) (len : Nat) (pulse data : Bool) : RxFramer × FramerAct :=
  if len ≤ f.bits.length then
    if pulse then
      if f.confirm = 0 then (startFrame .confirm 1 0 data, .quiet)
      else (startFrame .aligned 0 0 data, .gained)
    else (emptyFramer .hunt, .quiet)
  else if pulse then (startFrame .confirm 0 0 data, .quiet)
  else (f.collect data, .quiet)

/-- One more miss in ALIGNED: the third leaves ALIGNED (R66, R67). -/
def RxFramer.missed (f : RxFramer) (kept : RxFramer) (act : FramerAct) : RxFramer × FramerAct :=
  if 3 ≤ f.miss + 1 then (emptyFramer .hunt, .lost)
  else ({ kept with miss := f.miss + 1 }, act)

/-- A bit period in ALIGNED of a frame of `len` bits (R66, R68). -/
def RxFramer.judging (f : RxFramer) (len : Nat) (pulse data : Bool) : RxFramer × FramerAct :=
  if len ≤ f.bits.length then
    if pulse then (startFrame .aligned 0 0 data, .frameEnd f.bits)
    else f.missed (startFrame .aligned 0 0 data) (.frameEnd f.bits)
  else if pulse then f.missed (f.collect data) .quiet
  else (f.collect data, .quiet)

/-- A bit period at the framer: whether RXSYNC gave a pulse in it, and the bit on RXDATA (R62 to R67). -/
def RxFramer.period (f : RxFramer) (len : Nat) (pulse data : Bool) : RxFramer × FramerAct :=
  match f.state with
  | .off => (f, .quiet)
  | .hunt => if pulse then (startFrame .confirm 0 0 data, .quiet) else (f, .quiet)
  | .confirm => f.confirming len pulse data
  | .aligned => f.judging len pulse data

/-! ### What the other blocks learn from the framer -/

/-- The line whose loss of alignment sets the line-lost mark: the pending location's line, or in TRIAL the current location's (R164, R176, R178). -/
def Link.watched (k : Link) : Option Line :=
  match k.state with
  | .settled => k.pendingMove.map Location.line
  | .trial => some k.current.line

/-- The link at a loss of alignment on a line: the receiver is reset on the current location's line (R169), the line-lost mark is set on the watched line (R178). -/
def Link.alignmentLost (k : Link) (line : Line) : Link :=
  { k with
    receiver := if k.current.line = line then .hunt else k.receiver
    lineLost := k.lineLost || k.watched = some line }

/-- The locked line stops supplying frame starts: REFCLK places the next boundary, unless its place was settled before (R104). -/
def Timing.stopped (t : Timing) (line : Line) : Timing :=
  if t.selector.line = some line && !t.settled then { t with offLine := some t.refclk } else t

/-- The framer of a line leaves ALIGNED: counter, ALIGNMENT(lost), store, link and Timing Unit (R67, R92, R104, R169, R178). -/
def State.alignmentLost (s : State) (line : Line) : State :=
  let counted := s.setPort line { s.port line with losses := satInc (s.port line).losses }
  let flushed := counted.setStore line (counted.store line).flush
  let linked := flushed.withLink (s.link.alignmentLost line)
  (linked.withTiming (s.timing.stopped line)).raise (.alignment line false s.timing.sfn)

/-- What a bit period's outcome does beside the framer (R65, R67, R68). -/
def State.framerAct (s : State) (line : Line) : FramerAct → State
  | .quiet => s
  | .gained => s.raise (.alignment line true s.timing.sfn)
  | .frameEnd bits =>
    s.arrive line (frameWords (s.port line).record.width.bits (s.port line).record.slots bits)
  | .lost => s.alignmentLost line

/-- The bit period of line `line` with which its framer has collected that many bits of a frame of `len` bits is the one that places the next boundary: it lies half a line frame after a frame start that came since the last boundary, or at a lock boundary at least half a line frame after that boundary (R102, R103), and no rule has placed the boundary before (R104, R105). -/
def Timing.reaches (t : Timing) (line : Line) (len collected : Nat) : Bool :=
  t.selector.line = some line && !t.settled && collected = len / 2 + 1
    && (if t.lockPending = some line then decide (len / 2 ≤ t.lineBits) else t.startSeen)

/-- A bit period of the locked line is counted; in ALIGNED it may be a frame start, and it may be the one that places the next boundary (R102, R103). -/
def Timing.linePeriod (t : Timing) (line : Line) (len : Nat) (f : RxFramer) : Timing :=
  if t.selector.line = some line then
    if f.state = .aligned then
      { t with
        lineBits := t.lineBits + 1, startSeen := t.startSeen || f.bits.length = 1
        pointReached := t.pointReached || t.reaches line len f.bits.length }
    else { t with lineBits := t.lineBits + 1 }
  else t

/-- RXSYNC gives a pulse in this bit period: sampled high after being sampled low (R62). -/
def LinePort.pulseIn (p : LinePort) (x : RxSample) : Bool :=
  x.sync && !p.syncWas

/-- The framer event of one RXCLK bit period of a line, with what it does to the blocks beside it (R62). -/
def State.framerPeriod (s : State) (line : Line) (x : RxSample) : State :=
  let p := s.port line
  let out := p.rx.period p.record.frameBits (p.pulseIn x) x.data
  (s.setPort line { p with rx := out.1, syncWas := x.sync }).framerAct line out.2

/-- One RXCLK bit period of a line (R62): its framer event, and then what the Timing Unit counts of it. A loss in the very period that would place the boundary is therefore taken first here; BOUNDARY with that period `within` it takes the boundary first (R91, R104, log 5). -/
def State.rxPeriod (s : State) (line : Line) (x : RxSample) : State :=
  let t := s.framerPeriod line x
  t.withTiming (t.timing.linePeriod line (t.port line).record.frameBits (t.port line).rx)

/-- These bit periods of a line pass, unless RESTART_N is low, when the framers ignore their pins (R80). -/
def State.rxPeriods (s : State) (line : Line) (xs : List RxSample) : State :=
  if s.held then s else xs.foldl (fun t x => t.rxPeriod line x) s

/-- PULSE (R62). -/
def execPulse (line : Line) (before : List RxSample) (data : Bool) (s : State) :
    Host.Outcome State Fault Refusal :=
  .next (s.rxPeriods line (before ++ [{ sync := true, data := data }]))

/-- FLYWHEEL_FRAME_END (R65, R66). -/
def execFlywheelFrameEnd (line : Line) (before : List RxSample) (data : Bool) (s : State) :
    Host.Outcome State Fault Refusal :=
  .next (s.rxPeriods line (before ++ [{ sync := false, data := data }]))

/-! ### The transmit framer between boundaries -/

/-- The level of TXDATA in a bit period: the slot's bit, most significant first, or undriven for a released slot (R70, R71). -/
def OutFrame.pinAt (f : OutFrame) (position : Nat) : Pin :=
  match f.slots[position / f.width.bits]? with
  | some (.word w) =>
    if w.getLsbD (f.width.bits - 1 - position % f.width.bits) then .high else .low
  | _ => .undriven

/-- The length of an output frame in bit periods (R70). -/
def OutFrame.bits (f : OutFrame) : Nat :=
  f.slots.length * f.width.bits

/-- One TXCLK bit period begins: the pins take the levels of the next bit and keep them until another period begins or a boundary turns the framer OFF (R70 to R72). The period after the frame's last bit finds the frame ended: WAITING (R72, log 14). With tx enable turned off meanwhile the framer WAITS all the same and enters OFF at the boundary: R73 leaves open whether it enters OFF at the frame's end (log 23, DESIGN CHOICE). -/
def LinePort.txPeriod (p : LinePort) : LinePort :=
  match p.tx with
  | .off => p
  | .waiting => p
  | .sending f next =>
    if next < f.bits then
      { p with
        tx := .sending f (next + 1), txSync := if next = 0 then .high else .low
        txData := f.pinAt next }
    else { p with tx := .waiting, txSync := .low, txData := .undriven }

/-- That many TXCLK bit periods. -/
def LinePort.txPeriods : Nat → LinePort → LinePort
  | 0, p => p
  | n + 1, p => LinePort.txPeriods n p.txPeriod

/-- TX_FRAME_END (R72): the bit periods begin one after the other; with enough of them the frame's last bit is sent, its period ends and the framer waits. -/
def execTxFrameEnd (line : Line) (periods : Nat) (s : State) : Host.Outcome State Fault Refusal :=
  .next (s.setPort line (LinePort.txPeriods periods (s.port line)))

/-! ### Set Line and Get Line -/

/-- A line record as the six fields of Set Line after the line (R204). -/
def LineRecord.octets (r : LineRecord) : List Byte :=
  [flagOctet r.rxOn, flagOctet r.txOn, octet r.slots, octet r.width.bits, r.loss.code,
    octet r.lossPattern.val]

/-- The request's fields, or the place of the first one out of range (R75, check 1). -/
def parseSetLine (l rx tx sl w la lp : Byte) : Except Nat (Line × LineRecord) :=
  match lineOf l, flagOf rx, flagOf tx, widthOf w, lossOf la, patternOf lp with
  | none, _, _, _, _, _ => .error 0
  | some _, none, _, _, _, _ => .error 1
  | some _, some _, none, _, _, _ => .error 2
  | some line, some rxOn, some txOn, width?, loss?, pattern? =>
    if sl.toNat < 1 || 64 < sl.toNat then .error 3
    else
      match width?, loss?, pattern? with
      | none, _, _ => .error 4
      | some _, none, _ => .error 5
      | some _, some _, none => .error 6
      | some width, some loss, some pattern =>
        .ok (line,
          { rxOn := rxOn, txOn := txOn, slots := sl.toNat, width := width, loss := loss
            lossPattern := pattern })

/-- The line carries a management channel location (R75). -/
def Link.carries (k : Link) (line : Line) : Bool :=
  k.locations.any fun loc => loc.line = line

/-- The change would take the line from under the management channel (R75, check 2). -/
def breaksChannel (old new : LineRecord) : Bool :=
  old.slots != new.slots || old.width != new.width || (old.rxOn && !new.rxOn)
    || (old.txOn && !new.txOn)

/-- Which sides are on: 1 for rx, 2 for tx, 3 for both (R76). -/
def LineRecord.sidesOn (r : LineRecord) : Nat :=
  (if r.rxOn then 1 else 0) + if r.txOn then 2 else 0

/-- The entry takes its source from the line at a slot at or above `slots` (R76, check 4). -/
def Entry.namesBeyond (line : Line) (slots : Nat) : Entry → Bool
  | .slot l t _ => l = line && slots ≤ t.val
  | _ => false

/-- Some entry of a transmit line, in either page, passes the test. -/
def Switch.lineHas (w : Switch) (test : Entry → Bool) (line : Line) : Bool :=
  (w.pageA[line]).toList.any test || (w.pageB[line]).toList.any test

/-- The lowest transmit line with such an entry in either page (R76). -/
def Switch.lowestLine (w : Switch) (test : Entry → Bool) : Option Line :=
  (List.finRange 8).find? (w.lineHas test)

/-- The receive side after a Set Line: OFF when turned off, HUNT when turned on, else undisturbed (R63). -/
def RxFramer.enabled (f : RxFramer) (was now : Bool) : RxFramer :=
  if was && !now then emptyFramer .off
  else if !was && now then emptyFramer .hunt
  else f

/-- An accepted Set Line, applied (R77): the record, the receive framer (R63), and when the receive side goes off the store (R93) and the Timing Unit (R104). -/
def State.applyLine (s : State) (line : Line) (record : LineRecord) : State :=
  let old := (s.port line).record
  let ported := s.setPort line
    { s.port line with record := record, rx := (s.port line).rx.enabled old.rxOn record.rxOn }
  if old.rxOn && !record.rxOn then
    (ported.setStore line (ported.store line).disable).withTiming (s.timing.stopped line)
  else ported

/-- Checks 2 to 4 of Set Line: a refusal's status and DETAIL, or none when the request passes (R75, R76). -/
def State.lineRefusal (s : State) (line : Line) (record : LineRecord) : Option (Status × Nat) :=
  let old := (s.port line).record
  if s.link.carries line && breaksChannel old record then some (.reserved, 0)
  else if (old.slots != record.slots || old.width != record.width) && old.sidesOn != 0 then
    some (.lineActive, old.sidesOn)
  else if record.slots < old.slots then
    (s.switch.lowestLine (Entry.namesBeyond line record.slots)).map fun l => (.inUse, l.val)
  else none

/-- Set Line (R74 to R77). -/
def setLine (r : Request) (s : State) : State :=
  match r.payload with
  | [l, rx, tx, sl, w, la, lp] =>
    match parseSetLine l rx tx sl w la lp with
    | .error place => s.answer r .badValue [octet place]
    | .ok (line, record) =>
      match s.lineRefusal line record with
      | some (status, detail) => s.answer r status [octet detail]
      | none => (s.applyLine line record).answer r .ok (octet line.val :: record.octets)
  | _ => s.badLength r

/-- SET_LINE (08h, R77). -/
def execSetLine (s : State) : Host.Outcome State Fault Refusal :=
  .next (s.serve (ofKind 0x08) setLine)

/-- What Get Line returns (R79, R204). -/
def State.lineReport (s : State) (line : Line) : List Byte :=
  let p := s.port line
  let e := s.store line
  octet line.val :: p.record.octets
    ++ [p.rx.state.code, octet p.rx.confirm, octet p.rx.miss, octet e.unread.length,
      flagOctet e.current.isSome]

/-- Get Line (R79). -/
def getLine (r : Request) (s : State) : State :=
  match r.payload with
  | [l] =>
    match lineOf l with
    | none => s.answer r .badValue [0]
    | some line => s.answer r .ok (s.lineReport line)
  | _ => s.badLength r

/-- GET_LINE (09h, R79). -/
def execGetLine (s : State) : Host.Outcome State Fault Refusal :=
  .next (s.serve (ofKind 0x09) getLine)

end Sys2Proof.Machine
end

