-- ==== Sys2Proof/Machine/Notices.lean ====
section
/-! DEFINITION. The Notice Unit's sending (R191 to R197) and its requests (R198 to R200). -/

namespace Sys2Proof.Machine

/-! ### The head record -/

/-- The head's number, when it has been started (R188). -/
def NoticeUnit.headNumber (n : NoticeUnit) : Option Byte :=
  n.queue.head?.bind NoticeRecord.number

/-- The lost count above 0 becomes an EVENTS_LOST record in the place a removal freed (R191). -/
def NoticeUnit.reportLost (n : NoticeUnit) : NoticeUnit :=
  if n.lost = 0 then n
  else { n.append (.eventsLost n.lost) with lost := 0 }

/-- The head is acknowledged and removed: timer and send count 0, WAITING if records remain, else IDLE; then R191 (R195). -/
def NoticeUnit.removeHead (n : NoticeUnit) : NoticeUnit :=
  NoticeUnit.reportLost
    { n with
      queue := n.queue.drop 1, timer := 0, sendCount := 0
      state := if (n.queue.drop 1).isEmpty then .idle else .waiting }

/-- A good message is delivered, of this KIND and SEQ: it ends a stall (R197), and a Notice Ack with the head's number removes an outstanding or stalled head (R195, R197). -/
def NoticeUnit.goodMessage (n : NoticeUnit) (kind seq : Byte) : NoticeUnit :=
  let acked := kind = Config.ackKind && n.headNumber = some seq
  match n.state with
  | .stalled => if acked then n.removeHead else { n with sendCount := 0, state := .waiting }
  | .outstanding => if acked then n.removeHead else n
  | .idle => n
  | .waiting => n

/-- The transmitter starts the head: a never-sent record takes the next notice number (R193). -/
def NoticeUnit.start (n : NoticeUnit) : NoticeUnit :=
  match n.queue with
  | [] => n
  | r :: rest =>
    match r.number with
    | some _ => n
    | none =>
      { n with
        queue := { r with number := some n.nextNumber } :: rest
        nextNumber := n.nextNumber + 1 }

/-- The head's last octet is placed: OUTSTANDING, one more send, the timer set (R194). -/
def NoticeUnit.sent (n : NoticeUnit) : NoticeUnit :=
  { n with state := .outstanding, sendCount := n.sendCount + 1, timer := n.interval }

/-- The timer reaches 0: the head is offered again, or the unit stalls after four sends (R196). -/
def NoticeUnit.expire (n : NoticeUnit) : NoticeUnit :=
  { n with timer := 0, state := if n.sendCount < Config.noticeSends then .waiting else .stalled }

/-- The timer falls by 1 at a numbered boundary, and may reach 0 (R194, R196). -/
def NoticeUnit.tick (n : NoticeUnit) : NoticeUnit :=
  if n.timer ≤ 1 then n.expire else { n with timer := n.timer - 1 }

/-- The Notice Unit's timer runs at the coming boundary: a notice is outstanding and did not end at this same boundary (R194). -/
def State.timerRuns (s : State) : Bool :=
  s.notices.state = .outstanding && !s.opening.noticeEnded

/-! ### Commands -/

/-- RETRANSMIT_TIMEOUT (R196): the Notice Unit takes the coming boundary, at which its timer reaches 0. -/
def execRetransmitTimeout (s : State) : Host.Outcome State Fault Refusal :=
  .next
    (if s.numberedDue && s.timerRuns && s.notices.timer ≤ 1 then
      (s.withNotices s.notices.expire).opened
    else s)

/-- What an accepted or refused Set Notices does (R198, R199). With mask and interval both bad it is refused for the mask: R198 gives the two checks no order (log 24, DESIGN CHOICE). -/
def setNotices (r : Request) (s : State) : State :=
  match r.payload with
  | [mask, a, b] =>
    let interval := halfOf a b
    if mask &&& 0xC0 ≠ 0 then s.answer r .badValue [0]
    else if interval.toNat < 16 || 4096 < interval.toNat then s.answer r .badValue [1]
    else
      (s.withNotices { s.notices with mask := mask, interval := interval.toNat }).answer r .ok
        ([mask] ++ halfOctets interval)
  | _ => s.badLength r

/-- SET_NOTICES (3Ch, R198). -/
def execSetNotices (s : State) : Host.Outcome State Fault Refusal :=
  .next (s.serve (ofKind 0x3C) setNotices)

/-- What Get Notices returns (R200, R204). -/
def NoticeUnit.report (n : NoticeUnit) : List Byte :=
  [n.mask] ++ halfOctets (BitVec.ofNat 16 n.interval)
    ++ [n.state.code, octet n.queue.length] ++ halfOctets n.lost ++ [n.nextNumber]

/-- Get Notices (R200). -/
def getNotices (r : Request) (s : State) : State :=
  match r.payload with
  | [] => s.answer r .ok s.notices.report
  | _ => s.badLength r

/-- GET_NOTICES (3Dh, R200). -/
def execGetNotices (s : State) : Host.Outcome State Fault Refusal :=
  .next (s.serve (ofKind 0x3D) getNotices)

end Sys2Proof.Machine
end

