-- ==== Sys2Proof/Machine/Requests.lean ====
section
/-! DEFINITION. The Request Engine: intake (R144, R145), Echo, Identify and unknown kinds (R149, R157, R158). -/

namespace Sys2Proof.Machine

/-! ### Intake -/

/-- A response with this SEQ is waiting (R144, step 1). -/
def RequestEngine.answering (q : RequestEngine) (seq : Byte) : Bool :=
  q.responses.any fun r => r.seq = seq

/-- The owner of the page operation in flight (R23). -/
def McState.owner : McState → Option Byte
  | .idle => none
  | .copying _ owner => some owner
  | .clearing _ owner => some owner
  | .swapPending _ owner => some owner

/-- The SEQ is held by a waiting request or by the page operation in flight (R144, step 2). -/
def State.working (s : State) (seq : Byte) : Bool :=
  (s.engine.requests.any fun r => r.seq = seq) || s.mc.state.owner = some seq

/-- A re-send is answered with a copy of the cached response, or dropped and counted (R144, step 3). -/
def RequestEngine.resend (q : RequestEngine) (cached : Response) : RequestEngine :=
  if q.hasPlace then
    { q with responses := q.responses ++ [{ cached with credit := q.credit, hold := false }] }
  else { q with droppedResends := satInc q.droppedResends }

/-- A new request is appended, answered QUEUE_FULL, or dropped and counted (R145). -/
def RequestEngine.accept (q : RequestEngine) (r : Request) : RequestEngine :=
  if q.requests.length < Config.requestPlaces then { q with requests := q.requests ++ [r] }
  else if q.hasPlace then
    { q with
      responses := q.responses ++
        [{ kind := responseKind r.kind, seq := r.seq, status := .queueFull, credit := 0, data := [0]
           hold := false }] }
  else { q with droppedRequests := satInc q.droppedRequests }

/-- A good request message is classified by its SEQ (R144). -/
def State.intake (s : State) (r : Request) : State :=
  if s.engine.answering r.seq || s.working r.seq then s
  else
    match s.engine.cache.find? fun c => c.seq = r.seq with
    | some cached => s.withEngine (s.engine.resend cached)
    | none => s.withEngine (s.engine.accept r)

/-! ### Echo, Identify, unknown kinds -/

/-- Echo (R157). -/
def echo (r : Request) (s : State) : State :=
  if r.payload.length ≤ 58 then s.answer r .ok r.payload else s.badLength r

/-- ECHO (01h, R157). -/
def execEcho (s : State) : Host.Outcome State Fault Refusal :=
  .next (s.serve (ofKind 0x01) echo)

/-- The fixed data of Identify (R158). -/
def identity : List Byte :=
  halfOctets Config.deviceCode
    ++ [Config.revision, 8, 64, 16, 4, octet Config.scheduleEntries, octet Config.requestPlaces,
      octet Config.responsePlaces, octet Config.noticePlaces]

/-- Identify (R158). -/
def identify (r : Request) (s : State) : State :=
  match r.payload with
  | [] => s.answer r .ok identity
  | _ => s.badLength r

/-- IDENTIFY (02h, R158). -/
def execIdentify (s : State) : Host.Outcome State Fault Refusal :=
  .next (s.serve (ofKind 0x02) identify)

/-- The request kinds of the table in section 12.1 (R204). -/
def requestKinds : List Byte :=
  [0x01, 0x02, 0x03, 0x08, 0x09, 0x0A, 0x10, 0x11, 0x18, 0x19, 0x1A, 0x1B, 0x20, 0x21, 0x22, 0x23,
    0x28, 0x29, 0x2A, 0x30, 0x31, 0x38, 0x39, 0x3C, 0x3D]

/-- A request whose kind is not among the request kinds (R149). -/
def ofUnknownKind (r : Request) : Bool :=
  !requestKinds.contains r.kind

/-- UNKNOWN_KIND (R149). -/
def execUnknownKind (s : State) : Host.Outcome State Fault Refusal :=
  .next (s.serve ofUnknownKind fun r t => t.answer r .unknownKind [0])

end Sys2Proof.Machine
end

