-- ==== Sys2Proof/Machine/Link.lean ====
section
/-! DEFINITION. The Management Link: the four parts of its act at a boundary (R165), the receiver, the transmitter, channel moves (chapter 10). -/

namespace Sys2Proof.Machine

/-! ### Moves: revert, switch, confirm -/

/-- The transmitter after a revert: a message begun is sent again from its first octet (R181). -/
def Transmitter.again : Transmitter → Transmitter
  | .sending m _ => .sending m 0
  | .free => .free
  | .stopped => .stopped

/-- The link SETTLED on this location with no other one, no timer and no mark (R179, R180). -/
def Link.settleOn (k : Link) (loc : Location) : Link :=
  { k with
    current := loc, state := .settled, pendingMove := none, former := none, lineLost := false
    trialTimer := 0 }

/-- A location is given up at the boundary being taken: its positions leave the set and become RELEASE in both pages; the frame being built still has CONTROL there (R5, R54). -/
def State.giveUp (s : State) (gone : Location) (link : Link) : State :=
  ((s.withLink link).withSwitch (s.switch.leaveLocation gone link.locations)).withOpening
    { s.opening with givenUp := some gone }

/-- A revert that ends a trial: the former location replaces the current one (R180, R181). -/
def State.revertTrial (s : State) (former : Location) (reason : MoveReason) : State :=
  let link : Link :=
    { s.link.settleOn former with
      receiver := .hunt, transmitter := s.link.transmitter.again }
  (s.giveUp s.link.current link).raise (.channel true reason former)

/-- The link leaves TRIAL by a revert, when it holds a former location (R180). -/
def State.revert (s : State) (reason : MoveReason) : State :=
  match s.link.former with
  | some former => s.revertTrial former reason
  | none => s

/-- A revert at the switch boundary: the pending location is given up, the transmitter is FREE and the executor READY (R177, R180). -/
def State.revertSwitch (s : State) (pending : Location) : State :=
  let link : Link :=
    { s.link.settleOn s.link.current with receiver := .hunt, transmitter := .free }
  ((s.giveUp pending link).withEngine { s.engine with executor := .ready }).raise
    (.channel true .lineLost s.link.current)

/-- The switch to the pending location; the trial begins (R177). -/
def State.switchTo (s : State) (pending : Location) : State :=
  (s.withLink
    { s.link with
      current := pending, former := some s.link.current, pendingMove := none, state := .trial
      trialTimer := Config.trialBoundaries, receiver := .hunt, transmitter := .free }).withEngine
    { s.engine with executor := .ready }

/-- In TRIAL a good message confirms the move (R179). -/
def State.confirm (s : State) : State :=
  match s.link.state, s.link.former with
  | .trial, some former =>
    (s.giveUp former (s.link.settleOn s.link.current)).raise (.channel false .confirmed s.link.current)
  | _, _ => s

/-! ### Part 1, trial end, and part 2, switch -/

/-- Part 1 of the link's act: in TRIAL the line-lost mark, then the timer (R165, R178). -/
def State.trialPart (s : State) : State :=
  match s.link.state with
  | .settled => s
  | .trial =>
    if s.link.lineLost then s.revert .lineLost
    else if s.link.trialTimer ≤ 1 then s.revert .timeout
    else s.withLink { s.link with trialTimer := s.link.trialTimer - 1 }

/-- The switch boundary has come: SETTLED with a pending location, the Move Channel response completely placed at an earlier boundary (R165, R177). -/
def State.switchDue (s : State) : Option Location :=
  match s.link.state, s.link.transmitter with
  | .settled, .stopped => s.link.pendingMove
  | _, _ => none

/-- Part 2 of the link's act (R165, R177). -/
def State.switchPart (s : State) : State :=
  match s.switchDue with
  | none => s
  | some pending => if s.link.lineLost then s.revertSwitch pending else s.switchTo pending

/-- Parts 1 and 2 of the link's act (R165). -/
def State.headParts (s : State) : State :=
  s.trialPart.switchPart

/-! ### Part 3, inbound -/

/-- A good message is delivered: it confirms a trial, the Notice Unit learns of it, and a request goes to intake (R170, R179, R195, R197). -/
def State.deliverGood (s : State) (seq kind : Byte) (payload : List Byte) : State :=
  let told := s.confirm.withNotices (s.confirm.notices.goodMessage kind seq)
  if requestKind kind then told.intake { seq := seq, kind := kind, payload := payload } else told

/-- A checked message is handed on by its KIND (R170). -/
def State.deliver (s : State) (seq kind : Byte) (payload : List Byte) : State :=
  if foreign kind then s.withLink { s.link with foreignKinds := satInc s.link.foreignKinds }
  else s.deliverGood seq kind payload

/-- The receiver in this state. -/
def State.receiving (s : State) (r : Receiver) : State :=
  s.withLink { s.link with receiver := r }

/-- The second check octet: the CRC agrees and the message is delivered, or the check-error counter rises; HUNT either way (R169). -/
def State.checked (s : State) (len : Byte) (octets : List Byte) (check : Half) : State :=
  let hunting := s.receiving .hunt
  if crc (len :: octets) = check then
    match octets with
    | seq :: kind :: payload => hunting.deliver seq kind payload
    | _ => hunting
  else hunting.withLink { hunting.link with checkErrors := satInc hunting.link.checkErrors }

/-- The link receiver takes one octet (R168, R169). -/
def State.receive (s : State) (b : Byte) : State :=
  match s.link.receiver with
  | .hunt => if b = Config.leadIn then s.receiving .length else s
  | .length =>
    if 2 ≤ b.toNat && b.toNat ≤ 62 then s.receiving (.body b [])
    else
      s.withLink { s.link with receiver := .hunt, lengthErrors := satInc s.link.lengthErrors }
  | .body len octets =>
    if octets.length + 1 < len.toNat then s.receiving (.body len (octets ++ [b]))
    else s.receiving (.check len (octets ++ [b]) none)
  | .check len octets none => s.receiving (.check len octets (some b))
  | .check len octets (some high) => s.checked len octets (halfOf high b)

/-- The octets of a location in a newly taken frame: the upper 8 bits of each slot's word, in slot order (R166). -/
def State.managementOctets (s : State) (frame : InputFrame) : List Byte :=
  let loc := s.link.current
  ((frame.drop loc.first.val).take loc.width).map
    (upperOctet (s.port loc.line).record.width)

/-- Part 3 of the link's act, the stores having taken the boundary: the octets of the current location in the newly taken frame reach the receiver (R165, R166). -/
def State.readFrame (s : State) : State :=
  match s.newFrame s.link.current.line with
  | none => s
  | some frame => (s.managementOctets frame).foldl State.receive s

/-! ### Part 4, outbound -/

/-- A notice is waiting for the transmitter (R173, R193). -/
def NoticeUnit.offers (n : NoticeUnit) : Bool :=
  n.state = .waiting && !n.queue.isEmpty

/-- The transmitter starts the head response (R173). -/
def State.startResponse (s : State) (r : Response) : State :=
  s.withLink
    { s.link with
      transmitter := .sending { owner := .response, octets := r.octets, hold := r.hold } 0
      inARow := min Config.responsesInARow (s.link.inARow + 1) }

/-- The octets of a notice record: its number as SEQ, its kind and fields (R193, R205). -/
def NoticeRecord.octets (r : NoticeRecord) : List Byte :=
  messageOctets (r.number.getD 0) r.event.kind r.event.payload

/-- The transmitter starts the head notice (R173, R193). -/
def State.startNotice (s : State) : State :=
  let n := s.notices.start
  match n.queue with
  | [] => s
  | r :: _ =>
    (s.withNotices n).withLink
      { s.link with
        transmitter := .sending { owner := .notice, octets := r.octets, hold := false } 0
        inARow := 0 }

/-- A FREE transmitter with a slot to fill chooses its next message, when there is one (R173). -/
def State.chooseMessage (s : State) : State :=
  match s.engine.responses with
  | r :: _ =>
    if s.notices.offers && Config.responsesInARow ≤ s.link.inARow then s.startNotice
    else s.startResponse r
  | [] => if s.notices.offers then s.startNotice else s

/-- The transmitter is FREE. -/
def Transmitter.isFree : Transmitter → Bool
  | .free => true
  | .sending _ _ => false
  | .stopped => false

/-- The transmitter ready to fill a slot: FREE chooses first (R171). -/
def State.readied (s : State) : State :=
  if s.link.transmitter.isFree then s.chooseMessage else s

/-- A message ends: a response leaves its queue, a notice becomes outstanding; a hold mark stops the transmitter (R172, R174, R194). -/
def State.endMessage (s : State) (m : OutMessage) : State :=
  let freed := s.withLink { s.link with transmitter := if m.hold then .stopped else .free }
  match m.owner with
  | .response => freed.withEngine { s.engine with responses := s.engine.responses.drop 1 }
  | .notice =>
    (freed.withNotices s.notices.sent).withOpening { s.opening with noticeEnded := true }

/-- An octet is put into the next management slot of the frame being built (R171). -/
def State.put (s : State) (b : Byte) : State :=
  s.withOpening { s.opening with placed := s.opening.placed ++ [b] }

/-- The next octet of the message being sent is placed (R171, R172). -/
def State.placeOctet (s : State) (m : OutMessage) (next : Nat) : State :=
  let put := s.put (m.octets.getD next Config.idleFill)
  if next + 1 < m.octets.length then
    put.withLink { put.link with transmitter := .sending m (next + 1) }
  else put.endMessage m

/-- One management slot of the frame being built is filled (R171). -/
def State.fillSlot (s : State) : State :=
  match s.readied.link.transmitter with
  | .sending m next => s.readied.placeOctet m next
  | .free => s.readied.put Config.idleFill
  | .stopped => s.readied.put Config.idleFill

/-- That many management slots are filled, in slot order (R171). -/
def State.fillSlots : Nat → State → State
  | 0, s => s
  | n + 1, s => State.fillSlots n s.fillSlot

/-- Part 4 of the link's act: every transmit slot of the current location is filled (R165, R171). -/
def State.fillFrame (s : State) : State :=
  State.fillSlots s.link.current.width s

/-- The link has taken the boundary. -/
def State.linkTaken (s : State) : State :=
  s.withOpening { s.opening with isOpen := true, linkDone := true }

/-- The link takes a boundary as one act: parts 1 and 2, then part 3 as given, then part 4 (R165). -/
def State.linkAct (s : State) (inbound : State → State) : State :=
  (inbound s.headParts).fillFrame.linkTaken

/-! ### Commands: the link takes the boundary ahead of BOUNDARY -/

/-- The link takes the coming boundary ahead of BOUNDARY. The stores take it first, so that the frames taken at it are fixed (R89, log 6). -/
def State.linkShare (s : State) (inbound : State → State) : State :=
  s.takeStores.linkAct inbound

/-- The link has a numbered boundary to take. -/
def State.linkDue (s : State) : Bool :=
  s.numberedDue && !s.opening.linkDone

/-- CHANNEL_SWITCH (R177): the link takes the switch boundary. -/
def execChannelSwitch (s : State) : Host.Outcome State Fault Refusal :=
  .next (if s.linkDue && s.switchDue.isSome then s.linkShare State.readFrame else s)

/-- The trial ends by its timer at the coming boundary (R178). -/
def State.trialRunsOut (s : State) : Bool :=
  s.link.state = .trial && !s.link.lineLost && s.link.trialTimer ≤ 1

/-- The trial ends by the line-lost mark at the coming boundary (R178). -/
def State.trialLosesLine (s : State) : Bool :=
  s.link.state = .trial && s.link.lineLost

/-- TRIAL_TIMEOUT (R178): the link takes a trial boundary at which the timer reaches 0, the mark clear. -/
def execTrialTimeout (s : State) : Host.Outcome State Fault Refusal :=
  .next (if s.linkDue && s.trialRunsOut then s.linkShare State.readFrame else s)

/-- LINE_LOST_REVERT (R178, R180): the link takes a trial boundary with the mark set. -/
def execLineLostRevert (s : State) : Host.Outcome State Fault Refusal :=
  .next (if s.linkDue && s.trialLosesLine then s.linkShare State.readFrame else s)

/-- A message can end in the octets the link reads at the coming boundary: a frame is newly taken on the line of the current location (R166), and neither a revert nor a switch resets the receiver before it is read (R169, R179). -/
def State.inboundDue (s : State) : Bool :=
  s.linkDue && s.switchDue.isNone && !s.trialRunsOut && !s.trialLosesLine
    && (s.takenFrame s.link.current.line).isSome

/-- Part 3 delivering this message in place of the octets of the frame; the receiver is in HUNT after it (R169, log 7). -/
def State.delivering (seq kind : Byte) (payload : List Byte) (s : State) : State :=
  (s.receiving .hunt).deliver seq kind payload

/-- REQUEST_INTAKE (R144, R170): the link takes the coming boundary and delivers a request, of a request kind and with a payload that a message can carry (R167). -/
def execRequestIntake (seq kind : Byte) (payload : List Byte) (s : State) :
    Host.Outcome State Fault Refusal :=
  .next
    (if s.inboundDue && requestKind kind && payload.length ≤ 60 then
      s.linkShare (State.delivering seq kind payload)
    else s)

/-- NOTICE_ACK (60h, R195): its payload is not examined (R170). -/
def execNoticeAck (seq : Byte) (s : State) : Host.Outcome State Fault Refusal :=
  .next (if s.inboundDue then s.linkShare (State.delivering seq Config.ackKind []) else s)

/-- FOREIGN_KIND (R170): the SEQ and payload of a foreign message are not used. -/
def execForeignKind (kind : Byte) (s : State) : Host.Outcome State Fault Refusal :=
  .next (if s.inboundDue && foreign kind then s.linkShare (State.delivering 0 kind []) else s)

/-- The octets left of a message being sent; 0 when none is. -/
def Transmitter.octetsLeft : Transmitter → Nat
  | .sending m next => m.octets.length - next
  | .free => 0
  | .stopped => 0

/-- The last octet of the message being sent is placed at the coming boundary (R171, R172). -/
def State.messageEnds (s : State) : Bool :=
  let read := s.takeStores.headParts.readFrame
  let left := read.link.transmitter.octetsLeft
  1 ≤ left && left ≤ read.link.current.width

/-- MESSAGE_END (R172): the link takes a boundary at which it places the last octet of the message it is sending. -/
def execMessageEnd (s : State) : Host.Outcome State Fault Refusal :=
  .next (if s.linkDue && s.messageEnds then s.linkShare State.readFrame else s)

/-! ### Requests -/

/-- Two locations share a position (R175, check 3). -/
def Location.meets (a b : Location) : Bool :=
  a.line = b.line && a.first.val < b.first.val + b.width && b.first.val < a.first.val + a.width

/-- An entry is RELEASE (R175, check 5). -/
def Entry.isRelease : Entry → Bool
  | .release => true
  | _ => false

/-- An entry takes its source from a receive position of the location (R175, check 5). -/
def Entry.namesSource (loc : Location) : Entry → Bool
  | .slot l t _ => loc.covers l t
  | _ => false

/-- Every entry of a page at the location's transmit positions is RELEASE (R175). -/
def pageFree (p : Page) (loc : Location) : Bool :=
  (List.finRange 64).all fun slot =>
    !loc.covers loc.line slot || (entryAt p loc.line slot).isRelease

/-- The new location, or the place of the first field out of range (R175, check 1; the width 1 to 4 and the fit in S last, as the table orders them). -/
def State.parseMove (s : State) (l f w : Byte) : Except Nat Location :=
  match lineOf l, slotOf f with
  | none, _ => .error 0
  | some _, none => .error 1
  | some line, some first =>
    if w.toNat < 1 || 4 < w.toNat then .error 2
    else if (s.port line).record.slots < f.toNat + w.toNat then .error 1
    else .ok { line := line, first := first, width := w.toNat }

/-- Checks 2 to 5 of Move Channel: a refusal's status and DETAIL, or none when the request passes (R175). -/
def State.moveRefusal (s : State) (loc : Location) : Option (Status × Byte) :=
  let p := s.port loc.line
  if s.link.state = .trial then some (.moveBusy, 0)
  else if loc.meets s.link.current then some (.overlap, 0)
  else if !(p.record.rxOn && p.record.txOn) then
    some (.notReady, (if p.record.rxOn then 0 else 1) + if p.record.txOn then 0 else 2)
  else if p.rx.state ≠ .aligned then some (.notReady, 4)
  else if !(pageFree s.switch.pageA loc && pageFree s.switch.pageB loc) then some (.inUse, 0)
  else if (s.switch.lowestLine (Entry.namesSource loc)).isSome then some (.inUse, 1)
  else none

/-- An accepted Move Channel: the location is pending, its positions CONTROL in both pages, the mark clear (R176). -/
def State.acceptMove (s : State) (loc : Location) : State :=
  (s.withLink { s.link with pendingMove := some loc, lineLost := false }).withSwitch
    (s.switch.joinLocation loc)

/-- Move Channel (R175, R176). -/
def moveChannel (r : Request) (s : State) : State :=
  match r.payload with
  | [l, f, w] =>
    match s.parseMove l f w with
    | .error place => s.answer r .badValue [octet place]
    | .ok loc =>
      match s.moveRefusal loc with
      | some (status, detail) => s.answer r status [detail]
      | none => (s.acceptMove loc).answerHeld r [l, f, w]
  | _ => s.badLength r

/-- MOVE_CHANNEL (38h, R176). -/
def execMoveChannel (s : State) : Host.Outcome State Fault Refusal :=
  .next (s.serve (ofKind 0x38) moveChannel)

/-- What Get Link returns (R184, R204). -/
def State.linkReport (s : State) : List Byte :=
  let k := s.link
  [k.state.code] ++ k.current.octets
    ++ (match k.former with
      | some loc => loc.octets
      | none => [0, 0, 0])
    ++ halfOctets (BitVec.ofNat 16 k.trialTimer)
    ++ halfOctets k.checkErrors ++ halfOctets k.lengthErrors ++ halfOctets k.foreignKinds
    ++ halfOctets s.engine.droppedRequests ++ halfOctets s.engine.droppedResends

/-- The five counters set to 0 (R184). -/
def State.clearCounters (s : State) : State :=
  (s.withLink { s.link with checkErrors := 0, lengthErrors := 0, foreignKinds := 0 }).withEngine
    { s.engine with droppedRequests := 0, droppedResends := 0 }

/-- Get Link (R184). -/
def getLink (r : Request) (s : State) : State :=
  match r.payload with
  | [f] =>
    match flagOf f with
    | none => s.answer r .badValue [0]
    | some clear => (if clear then s.clearCounters else s).answer r .ok s.linkReport
  | _ => s.badLength r

/-- GET_LINK (39h, R184). -/
def execGetLink (s : State) : Host.Outcome State Fault Refusal :=
  .next (s.serve (ofKind 0x39) getLink)

end Sys2Proof.Machine
end

