-- ==== Sys2Proof/Machine/Compose.lean ====
section
/-! DEFINITION. Composing output frames (chapter 3) and beginning them (R70). -/

namespace Sys2Proof.Machine

/-- The entry that governs a transmit position of the frame being built: the active page's, or CONTROL where the location given up at this boundary stood (R45, R54). -/
def State.entryFor (s : State) (line : Line) (slot : Slot) : Entry :=
  if s.opening.givenUp.any fun loc => loc.covers line slot then .control
  else entryAt s.switch.activePage line slot

/-- The octet of a CONTROL slot: the one placed for it in the current location, else idle fill (R54). -/
def State.managementOctet (s : State) (line : Line) (slot : Slot) : Byte :=
  if s.link.current.covers line slot then
    s.opening.placed.getD (slot.val - s.link.current.first.val) Config.idleFill
  else Config.idleFill

/-- A pattern's present value converted to the destination width (R49). -/
def State.patternWord (s : State) (index : PatternIndex) (wd : Width) (justify : Justify) : Word :=
  convert .w32 wd justify (s.pattern index).present

/-- The word of a SLOT entry: the sample of the source's current frame, or loss fill when it has none (R45, R48, R50). -/
def State.sourceWord (s : State) (source : Line) (slot : Slot) (wd : Width) (justify : Justify) : Word :=
  let record := (s.port source).record
  match (s.store source).current with
  | some frame => convert record.width wd justify (frame.getD slot.val 0)
  | none => s.patternWord record.lossPattern wd justify

/-- The value of one slot of the output frame (R45). -/
def State.slotValue (s : State) (line : Line) (slot : Slot) : SlotValue :=
  let wd := (s.port line).record.width
  match s.entryFor line slot with
  | .release => .released
  | .slot source t justify => .word (s.sourceWord source t wd justify)
  | .pattern index justify => .word (s.patternWord index wd justify)
  | .control => .word (octetWord wd (s.managementOctet line slot))

/-- The output frame of a line (R42). -/
def State.outFrame (s : State) (line : Line) : OutFrame :=
  let record := (s.port line).record
  { number := s.timing.sfn, width := record.width
    slots := ((List.finRange 64).take record.slots).map (s.slotValue line) }

/-- A line port at a boundary: with tx on it begins the output frame, with tx off its transmit framer is OFF (R70, R73). -/
def State.beginPort (s : State) (line : Line) : LinePort :=
  let p := s.port line
  if p.record.txOn then { p with tx := .sending (s.outFrame line) 0 }
  else { p with tx := .off, txSync := .undriven, txData := .undriven }

/-- Every transmit framer takes the boundary (R70). -/
def State.beginFrames (s : State) : State :=
  s.withPorts (Vector.ofFn s.beginPort)

end Sys2Proof.Machine
end

