-- ==== Sys2Proof/Machine/Probes.lean ====
section
/-! DEFINITION. The slot probes: observations, hits, Set Probe and Read Probe (chapter 8). -/

namespace Sys2Proof.Machine

/-! ### Observations and hits -/

/-- What a probe observes at the boundary being taken, the stores and the pages having taken it: RX the newly taken frame's word (R132), TX the slot's value in the output frame (R133). -/
def State.observation (s : State) (p : Probe) : Option SlotValue :=
  let port := s.port p.line
  let e := s.store p.line
  if port.record.slots ≤ p.slot.val then none
  else
    match p.side with
    | .rx => if e.newly then e.current.map fun frame => .word (frame.getD p.slot.val 0) else none
    | .tx => if port.record.txOn then some (s.slotValue p.line p.slot) else none

/-- An observation is a hit in MATCH mode (R135). -/
def Probe.matches (p : Probe) : SlotValue → Bool
  | .released => false
  | .word w => (w ^^^ p.value) &&& p.mask = 0

/-- An observation is a hit in CHANGE mode (R136). -/
def Probe.changes (p : Probe) (seen : SlotValue) : Bool :=
  match p.last with
  | none => false
  | some before => before ≠ seen

/-- An observation is a hit (R135, R136). -/
def Probe.hitBy (p : Probe) (seen : SlotValue) : Bool :=
  match p.mode with
  | .off => false
  | .change => p.changes seen
  | .matching => p.matches seen

/-- The probe after an observation for frame `n` (R135 to R137). -/
def Probe.observe (p : Probe) (n : Word) (seen : SlotValue) : Probe :=
  if p.hitBy seen then
    { p with
      last := some seen, hits := satIncWord p.hits
      capture := some (p.capture.getD { frame := n, seen := seen }) }
  else { p with last := some seen }

/-- The observation sets the capture record, so it raises PROBE_MATCH (R137). -/
def Probe.captures (p : Probe) (seen : SlotValue) : Bool :=
  p.hitBy seen && p.capture.isNone

/-- One probe takes the boundary being taken (R132 to R137). -/
def State.probeBoundary (s : State) (i : ProbeIndex) : State :=
  let p := s.probe i
  if p.mode = .off then s
  else
    match s.observation p with
    | none => s
    | some seen =>
      let observed := s.setProbeAt i (p.observe s.timing.sfn seen)
      if p.captures seen then observed.raise (.probeMatch i s.timing.sfn seen) else observed

/-- The probe watches a slot that carries a management octet of the frame being built, so it can only observe after the link has placed its octets (R133, log 5). -/
def State.watchesControl (s : State) (i : ProbeIndex) : Bool :=
  (s.probe i).side = .tx && s.entryFor (s.probe i).line (s.probe i).slot = .control

/-! ### Requests -/

/-- A probe re-armed (R130). -/
def Probe.rearm (p : Probe) : Probe :=
  { p with hits := 0, last := none, capture := none }

/-- The configuration of Set Probe, or the place of the first field out of range (R138). -/
def parseSetProbe (i m d l t : Byte) (value mask : Word) : Except Nat (ProbeIndex × Probe) :=
  match probeOf i, probeModeOf m, sideOf d, lineOf l, slotOf t with
  | none, _, _, _, _ => .error 0
  | some _, none, _, _, _ => .error 1
  | some _, some _, none, _, _ => .error 2
  | some _, some _, some _, none, _ => .error 3
  | some _, some _, some _, some _, none => .error 4
  | some index, some mode, some side, some line, some slot =>
    .ok (index,
      { mode := mode, side := side, line := line, slot := slot, value := value, mask := mask
        hits := 0, last := none, capture := none })

/-- Set Probe (R138, R139). -/
def setProbe (r : Request) (s : State) : State :=
  match r.payload with
  | [i, m, d, l, t, v0, v1, v2, v3, k0, k1, k2, k3] =>
    match parseSetProbe i m d l t (wordOf v0 v1 v2 v3) (wordOf k0 k1 k2 k3) with
    | .error place => s.answer r .badValue [octet place]
    | .ok (index, p) =>
      (s.setProbeAt index p).answer r .ok (i :: wordOctets (s.timing.sfn + 1))
  | _ => s.badLength r

/-- SET_PROBE (30h, R139). -/
def execSetProbe (s : State) : Host.Outcome State Fault Refusal :=
  .next (s.serve (ofKind 0x30) setProbe)

/-- A probe's record as Read Probe returns it (R140, R204). -/
def Probe.octets (p : Probe) : List Byte :=
  [p.mode.code, p.side.code, octet p.line.val, octet p.slot.val] ++ wordOctets p.value
    ++ wordOctets p.mask ++ wordOctets p.hits
    ++ [sampleCode p.last] ++ wordOctets (sampleWord p.last)
    ++ [sampleCode (p.capture.map Capture.seen)]
    ++ wordOctets ((p.capture.map Capture.frame).getD 0)
    ++ wordOctets (sampleWord (p.capture.map Capture.seen))

/-- Read Probe (R140). With probe number and rearm flag both out of range it is refused for the probe number: R140 gives the two checks no order (log 24, DESIGN CHOICE). -/
def readProbe (r : Request) (s : State) : State :=
  match r.payload with
  | [i, f] =>
    match probeOf i, flagOf f with
    | none, _ => s.answer r .badValue [0]
    | some _, none => s.answer r .badValue [1]
    | some index, some rearm =>
      (if rearm then s.setProbeAt index (s.probe index).rearm else s).answer r .ok
        (i :: (s.probe index).octets)
  | _ => s.badLength r

/-- READ_PROBE (31h, R140). -/
def execReadProbe (s : State) : Host.Outcome State Fault Refusal :=
  .next (s.serve (ofKind 0x31) readProbe)

end Sys2Proof.Machine
end

