-- ==== Sys2Proof/Machine/Pages.lean ====
section
/-! DEFINITION. The connection map and the Map Controller: Write Entries, Read Entries, the pattern requests, copy, clear and swap (chapters 1 and 2). -/

namespace Sys2Proof.Machine

/-! ### Write Entries and Read Entries -/

/-- The SLOT entry of a source, or the status of the check that fails (R11, checks 3, 4, 5 and 7). -/
def State.checkSlotSource (s : State) (a b j : Byte) : Except Status Entry :=
  match lineOf a, slotOf b with
  | none, _ => .error .badValue
  | some _, none => .error .badValue
  | some line, some slot =>
    if (s.port line).record.slots ≤ slot.val then .error .badValue
    else if s.management line slot then .error .reserved
    else
      match justifyOf j with
      | none => .error .badValue
      | some justify => .ok (.slot line slot justify)

/-- The PATTERN entry of a source, or the status of the check that fails (R11, checks 6 and 7). -/
def checkPatternSource (a j : Byte) : Except Status Entry :=
  match patternOf a, justifyOf j with
  | none, _ => .error .badValue
  | some _, none => .error .badValue
  | some index, some justify => .ok (.pattern index justify)

/-- The entry four octets spell for a target, or the status of the first check that fails (R11). -/
def State.checkEntry (s : State) (line : Line) (slot : Slot) (e : Byte × Byte × Byte × Byte) :
    Except Status Entry :=
  if s.management line slot then .error .reserved
  else if e.1 = 0 then .ok .release
  else if e.1 = 1 then s.checkSlotSource e.2.1 e.2.2.1 e.2.2.2
  else if e.1 = 2 then checkPatternSource e.2.1 e.2.2.2
  else if e.1 = 3 then .error .reserved
  else .error .badValue

/-- Entries checked in turn for the slots from `slot` on; a failure carries its status and the failing entry's index (R11). -/
def State.checkEntries (s : State) (line : Line) :
    Nat → Nat → List (Byte × Byte × Byte × Byte) → Except (Status × Nat) (List (Slot × Entry))
  | _, _, [] => .ok []
  | slot, index, e :: rest =>
    if h : slot < 64 then
      match s.checkEntry line ⟨slot, h⟩ e with
      | .error status => .error (status, index)
      | .ok entry =>
        match s.checkEntries line (slot + 1) (index + 1) rest with
        | .error failed => .error failed
        | .ok checked => .ok ((⟨slot, h⟩, entry) :: checked)
    else .error (.badValue, index)

/-- Entries written into a page of one transmit line (R12). -/
def putEntries (p : Page) (line : Line) (entries : List (Slot × Entry)) : Page :=
  entries.foldl (fun q e => putEntry q line e.1 e.2) p

/-- The length and count of Write Entries agree: 3 octets and 4 for each of 1 to 14 entries (R9). -/
def writeLength (count : Byte) (rest : List Byte) : Bool :=
  rest.length = 4 * count.toNat && 1 ≤ count.toNat && count.toNat ≤ 14

/-- Write Entries (R9 to R12). -/
def writeEntries (r : Request) (s : State) : State :=
  match r.payload with
  | l :: start :: count :: rest =>
    if !writeLength count rest then s.badLength r
    else
      match lineOf l with
      | none => s.answer r .badValue [0xFF]
      | some line =>
        if 64 ≤ start.toNat || 64 < start.toNat + count.toNat then s.answer r .badValue [0xFF]
        else if s.mc.state ≠ .idle then s.answer r .pageBusy [0xFF]
        else
          match s.checkEntries line start.toNat 0 (entryOctets rest) with
          | .error failed => s.answer r failed.1 [octet failed.2]
          | .ok entries =>
            (s.withSwitch
                (s.switch.withStandby (putEntries s.switch.standbyPage line entries))).answer r .ok
              [s.switch.active.other.code]
  | _ => s.badLength r

/-- WRITE_ENTRIES (18h, R12). -/
def execWriteEntries (s : State) : Host.Outcome State Fault Refusal :=
  .next (s.serve (ofKind 0x18) writeEntries)

/-- The Map Controller is rewriting the standby page (R15). -/
def McState.rewriting : McState → Bool
  | .idle => false
  | .copying _ _ => true
  | .clearing _ _ => true
  | .swapPending _ _ => false

/-- `count` entries of a page's line from slot `start`, as octets (R16). -/
def readOctets (p : Page) (line : Line) (start count : Nat) : List Byte :=
  ((p[line].toList.drop start).take count).flatMap Entry.octets

/-- Read Entries (R15, R16). -/
def readEntries (r : Request) (s : State) : State :=
  match r.payload with
  | [selector, l, start, count] =>
    match flagOf selector, lineOf l with
    | none, _ => s.answer r .badValue [0]
    | some _, none => s.answer r .badValue [0]
    | some standby, some line =>
      if count.toNat < 1 || 13 < count.toNat || 64 ≤ start.toNat || 64 < start.toNat + count.toNat then
        s.answer r .badValue [0]
      else if standby && s.mc.state.rewriting then s.answer r .pageBusy [0]
      else
        let name := if standby then s.switch.active.other else s.switch.active
        s.answer r .ok
          ([name.code, l, start, count]
            ++ readOctets (s.switch.page name) line start.toNat count.toNat)
  | _ => s.badLength r

/-- READ_ENTRIES (19h, R16). -/
def execReadEntries (s : State) : Host.Outcome State Fault Refusal :=
  .next (s.serve (ofKind 0x19) readEntries)

/-! ### The pattern table -/

/-- A pattern at a boundary: its pending value becomes present (R7). -/
def Pattern.promote (p : Pattern) : Pattern :=
  match p.pending with
  | some v => { present := v, pending := none }
  | none => p

/-- Every pattern takes its pending value (R7). -/
def State.promotePatterns (s : State) : State :=
  s.withSwitch { s.switch with patterns := Vector.ofFn fun i => (s.switch.patterns[i]).promote }

/-- Set Pattern (R18). -/
def setPattern (r : Request) (s : State) : State :=
  match r.payload with
  | [i, a, b, c, d] =>
    match patternOf i with
    | none => s.answer r .badValue [0]
    | some index =>
      (s.setPatternAt index { s.pattern index with pending := some (wordOf a b c d) }).answer r .ok
        (i :: wordOctets (s.timing.sfn + 1))
  | _ => s.badLength r

/-- SET_PATTERN (1Ah, R18). -/
def execSetPattern (s : State) : Host.Outcome State Fault Refusal :=
  .next (s.serve (ofKind 0x1A) setPattern)

/-- A pattern's present value, pending flag and pending value as octets (R19, R204). -/
def Pattern.octets (p : Pattern) : List Byte :=
  wordOctets p.present ++ [flagOctet p.pending.isSome] ++ wordOctets (p.pending.getD 0)

/-- Get Pattern (R19). -/
def getPattern (r : Request) (s : State) : State :=
  match r.payload with
  | [i] =>
    match patternOf i with
    | none => s.answer r .badValue [0]
    | some index => s.answer r .ok (i :: (s.pattern index).octets)
  | _ => s.badLength r

/-- GET_PATTERN (1Bh, R19). -/
def execGetPattern (s : State) : Host.Outcome State Fault Refusal :=
  .next (s.serve (ofKind 0x1B) getPattern)

/-! ### Page operations: acceptance -/

/-- The Map Controller takes a page operation: its state, the end frame of a copy or clear, and the reserved response place (R25, R27, R30, R33, R151). -/
def State.acceptPage (s : State) (state : McState) (endFrame : Option Word) : State :=
  (s.withMc { s.mc with state := state, endFrame := endFrame }).withEngine
    { s.engine with reserved := true }

/-- A page operation is examined: payload empty, then IDLE, else PAGE_BUSY with the state code (R26). -/
def pageRequest (accept : State → State) (r : Request) (s : State) : State :=
  match r.payload with
  | [] =>
    match s.mc.state with
    | .idle => accept s
    | .copying _ _ => s.answer r .pageBusy [s.mc.state.code]
    | .clearing _ _ => s.answer r .pageBusy [s.mc.state.code]
    | .swapPending _ _ => s.answer r .pageBusy [s.mc.state.code]
  | _ => s.badLength r

/-- Copy Page (R26, R27). -/
def copyPage (r : Request) (s : State) : State :=
  pageRequest (fun t => t.acceptPage (.copying 0 r.seq) (some (t.timing.sfn + 8))) r s

/-- COPY_PAGE (20h, R27). -/
def execCopyPage (s : State) : Host.Outcome State Fault Refusal :=
  .next (s.serve (ofKind 0x20) copyPage)

/-- Clear Page (R26, R30). -/
def clearPage (r : Request) (s : State) : State :=
  pageRequest (fun t => t.acceptPage (.clearing 0 r.seq) (some (t.timing.sfn + 8))) r s

/-- CLEAR_PAGE (21h, R30). -/
def execClearPage (s : State) : Host.Outcome State Fault Refusal :=
  .next (s.serve (ofKind 0x21) clearPage)

/-- Swap Pages (R26, R33). -/
def swapPages (r : Request) (s : State) : State :=
  pageRequest (fun t => t.acceptPage (.swapPending (t.timing.sfn + 1) r.seq) t.mc.endFrame) r s

/-- SWAP_PAGES (22h, R33). -/
def execSwapPages (s : State) : Host.Outcome State Fault Refusal :=
  .next (s.serve (ofKind 0x22) swapPages)

/-! ### Page operations: boundaries -/

/-- A line's entries of the standby page are replaced (R28, R30). -/
def State.writeStandbyLine (s : State) (line : Line) (entries : Vector Entry 64) : State :=
  s.withSwitch (s.switch.withStandby (s.switch.standbyPage.set line entries))

/-- One line of a copy (R28). -/
def State.copyLine (s : State) (line : Line) : State :=
  s.writeStandbyLine line s.switch.activePage[line]

/-- One line of a clear: CONTROL at management positions, RELEASE elsewhere (R30). -/
def State.clearLine (s : State) (line : Line) : State :=
  s.writeStandbyLine line
    (Vector.ofFn fun slot => if s.management line slot then .control else .release)

/-- The Map Controller in this state. -/
def State.mcState (s : State) (state : McState) : State :=
  s.withMc { s.mc with state := state }

/-- A copy or clear makes its last step at the coming boundary (R36). -/
def State.lastStep (s : State) : State :=
  s.withOpening { s.opening with stepped := true }

/-- The pages are exchanged at boundary `n` (R34, R37). -/
def State.swapAt (s : State) (n : Word) : State :=
  ((s.withSwitch s.switch.swapped).withMc { s.mc with lastSwap := some n }).withOpening
    { s.opening with swapped := true }

/-- The Map Controller's writes at boundary `n`: a copy or clear step, or a pending swap at its target. An operation that ends here is left in flight for `finishMc` (R28, R29, R30, R31, R34). -/
def State.mcStep (s : State) (n : Word) : State :=
  match s.mc.state with
  | .idle => s
  | .copying line owner =>
    if line = 7 then (s.copyLine line).lastStep
    else (s.copyLine line).mcState (.copying (line + 1) owner)
  | .clearing line owner =>
    if line = 7 then (s.clearLine line).lastStep
    else (s.clearLine line).mcState (.clearing (line + 1) owner)
  | .swapPending target _ => if target = n then s.swapAt n else s

/-- The final response of the operation that ends at boundary `n`, if one does: kind of the request, owner, data (R29, R31, R34). -/
def State.mcFinal (s : State) (n : Word) : Option (Byte × Byte × List Byte) :=
  let standby := s.switch.active.other.code
  match s.mc.state with
  | .idle => none
  | .copying line owner => if line = 7 then some (0x20, owner, standby :: wordOctets n) else none
  | .clearing line owner => if line = 7 then some (0x21, owner, standby :: wordOctets n) else none
  | .swapPending target owner =>
    if target = n then some (0x22, owner, wordOctets n ++ [standby]) else none

/-- The operation ends: IDLE, and in the same act its final response fills the reserved place (R25, R29, R31, R34). -/
def State.finishMc (s : State) : Option (Byte × Byte × List Byte) → State
  | none => s
  | some (kind, owner, data) => (s.mcState .idle).fillReserved kind owner .ok data

/-- The Map Controller takes the coming boundary ahead of the rest (log 6). -/
def State.mcShare (s : State) : State :=
  ((s.mcStep s.comingFrame).finishMc (s.mcFinal s.comingFrame)).opened

/-- COPY_COMPLETE (R29): the step that copies line 7. -/
def execCopyComplete (s : State) : Host.Outcome State Fault Refusal :=
  .next
    (match s.mc.state with
    | .copying line _ => if s.numberedDue && line = 7 then s.mcShare else s
    | _ => s)

/-- CLEAR_COMPLETE (R31): the step that clears line 7. -/
def execClearComplete (s : State) : Host.Outcome State Fault Refusal :=
  .next
    (match s.mc.state with
    | .clearing line _ => if s.numberedDue && line = 7 then s.mcShare else s
    | _ => s)

/-- TAKE_PENDING_SWAP (R34): the pending swap at its target boundary. -/
def execTakePendingSwap (s : State) : Host.Outcome State Fault Refusal :=
  .next
    (match s.mc.state with
    | .swapPending target _ => if s.numberedDue && target = s.comingFrame then s.mcShare else s
    | _ => s)

/-- A scheduled swap passes the check at boundary `n`: IDLE, and neither a swap nor a last step at this same boundary (R36, log 15). -/
def State.swapAllowed (s : State) (n : Word) : Bool :=
  s.mc.state = .idle && !(s.mc.lastSwap = some n && s.opening.swapped)
    && !(s.mc.endFrame = some n && s.opening.stepped)

/-! ### Get Pages -/

/-- A frame record with its presence flag, 0 when absent (R38). -/
def frameRecord (f : Option Word) : List Byte :=
  flagOctet f.isSome :: wordOctets (f.getD 0)

/-- Progress, owner and target frame reported for a state (R38). -/
def McState.report : McState → List Byte
  | .idle => [0, 0] ++ wordOctets 0
  | .copying line owner => [octet line.val, owner] ++ wordOctets 0
  | .clearing line owner => [octet line.val, owner] ++ wordOctets 0
  | .swapPending target owner => [0, owner] ++ wordOctets target

/-- Get Pages (R38). -/
def getPages (r : Request) (s : State) : State :=
  match r.payload with
  | [] =>
    s.answer r .ok
      ([s.switch.active.code, s.mc.state.code] ++ s.mc.state.report ++ frameRecord s.mc.endFrame
        ++ frameRecord s.mc.lastSwap)
  | _ => s.badLength r

/-- GET_PAGES (23h, R38). -/
def execGetPages (s : State) : Host.Outcome State Fault Refusal :=
  .next (s.serve (ofKind 0x23) getPages)

end Sys2Proof.Machine
end

