-- ==== Sys2Proof/Machine/Restart.lean ====
section
/-! DEFINITION. The full restart and its commands, the switch restart, and Restart (03h) (R20 to R22, R39, R40, R80, R159 to R163). -/

namespace Sys2Proof.Machine

/-- A full restart with these strap levels: every block takes its full-restart value (R20, R22, R80, R97, R113, R128, R142, R163, R185, R201). `held` is whether RESTART_N is low after it. -/
def State.fullRestart (s : State) (straps : Straps) (cause : RestartCause) (held : Bool) : State :=
  { straps := straps, held := held
    ports := Vector.ofFn (restartPort straps)
    stores := Vector.replicate 8 restartStore
    timing := restartTiming straps
    schedule := []
    switch := blankSwitch [strapLocation straps]
    mc := restartMc
    probes := Vector.replicate 4 restartProbe
    engine := restartEngine
    link := restartLink straps
    notices := restartNotices cause
    opening := closedOpening
    pending := s.pending }

/-- POWER_UP (R80). -/
def execPowerUp (straps : Straps) (high : Bool) (s : State) : Host.Outcome State Fault Refusal :=
  .next (s.fullRestart straps .powerOrPin !high)

/-- RESTART_N asserted low (R80). -/
def execRestartN (straps : Straps) (s : State) : Host.Outcome State Fault Refusal :=
  .next (s.fullRestart straps .powerOrPin true)

/-- RESTART_N returns high after being low: the full-restart values take force (R80, R113, log 11). -/
def execRestartNRelease (straps : Straps) (s : State) : Host.Outcome State Fault Refusal :=
  .next (if s.held then s.fullRestart straps .powerOrPin false else s)

/-- FULL_RESTART_BOUNDARY: the restart boundary of a Restart of scope FULL falls (R114, R161). -/
def execFullRestartBoundary (straps : Straps) (s : State) : Host.Outcome State Fault Refusal :=
  .next (if s.boundaryDue && s.restartDue then s.fullRestart straps .request false else s)

/-- What an aborted operation answers: kind of its request, owner, DETAIL (R39). -/
def McState.aborted : McState → Option (Byte × Byte × Byte)
  | .idle => none
  | .copying line owner => some (0x20, owner, octet line.val)
  | .clearing line owner => some (0x21, owner, octet line.val)
  | .swapPending _ owner => some (0x22, owner, 0)

/-- The operation in flight is aborted: its ABORTED response fills the reserved place (R39). -/
def State.abortPage (s : State) : State :=
  match s.mc.state.aborted with
  | none => s
  | some (kind, owner, detail) => s.fillReserved kind owner .aborted [detail]

/-- The cross-connect after a switch restart: pages around the present management positions, patterns, schedule table, Map Controller and probes (R21, R22, R24, R129, R142, R160). -/
def State.rebuild (s : State) : State :=
  ((((s.withMc restartMc).withSwitch (blankSwitch s.link.locations)).withSchedule []).withProbes
    (Vector.replicate 4 restartProbe))

/-- A Restart of scope FULL is answered with a hold mark; the executor is HELD (R161). A scope neither FULL nor SWITCH is refused (R159). -/
def restartFull (r : Request) (s : State) : State :=
  match r.payload with
  | [scope] => if scope = 1 then s.answerHeld r [scope] else s.answer r .badValue [0]
  | _ => s.badLength r

/-- A Restart of scope SWITCH makes all its effects (R160). A scope neither FULL nor SWITCH is refused (R159). -/
def restartSwitch (r : Request) (s : State) : State :=
  match r.payload with
  | [scope] => if scope = 2 then s.abortPage.rebuild.answer r .ok [scope] else s.answer r .badValue [0]
  | _ => s.badLength r

/-- A Restart request that is not one of the other scope's (log 9). -/
def restartRow (other : Byte) (r : Request) : Bool :=
  r.kind = 0x03 && r.payload ≠ [other]

/-- RESTART_FULL (03h, R161). -/
def execRestartFull (s : State) : Host.Outcome State Fault Refusal :=
  .next (s.serve (restartRow 2) restartFull)

/-- RESTART_SWITCH (03h, R160). -/
def execRestartSwitch (s : State) : Host.Outcome State Fault Refusal :=
  .next (s.serve (restartRow 1) restartSwitch)

end Sys2Proof.Machine
end

