-- ==== Sys2Proof/Machine/Timing.lean ====
section
/-! DEFINITION. The Timing Unit: qualify counts, reference selection, stalls, Set Reference and Get Timing (chapter 6). -/

namespace Sys2Proof.Machine

/-! ### Reference selection -/

/-- A line's framer is ALIGNED (R100). -/
def State.aligned (s : State) (line : Line) : Bool :=
  (s.port line).rx.state = .aligned

/-- A qualify count brought up to date at a boundary (R100). -/
def Timing.qualifyAfter (t : Timing) (aligned : Line → Bool) (line : Line) : Nat :=
  if t.stall && t.selector.line = some line then 0
  else if aligned line then min Config.qualifyCount (t.qualify[line] + 1)
  else 0

/-- A line is qualified: its count, brought up to date, is 64 (R100). -/
def Timing.qualified (t : Timing) (aligned : Line → Bool) (line : Line) : Bool :=
  t.qualifyAfter aligned line = Config.qualifyCount

/-- The locked line is lost at a boundary (R106). -/
def Timing.lost (t : Timing) (aligned : Line → Bool) (line : Line) : Bool :=
  !aligned line || t.stall || (line != t.primary && t.secondary != some line)

/-- Lock on the secondary when it is named, passes the test and is qualified, else `otherwise` (R107). -/
def Timing.trySecondary (t : Timing) (aligned : Line → Bool) (test : Line → Bool)
    (otherwise : Selector) : Selector :=
  match t.secondary with
  | some l => if test l && t.qualified aligned l then .secondary l else otherwise
  | none => otherwise

/-- The evaluation's table, first row that applies (R107). -/
def Timing.select (t : Timing) (aligned : Line → Bool) : Selector :=
  match t.selector.line with
  | none =>
    if t.qualified aligned t.primary then .primary t.primary
    else t.trySecondary aligned (fun _ => true) .free
  | some l =>
    if t.lost aligned l then
      t.trySecondary aligned (fun m => m != l)
        (if t.qualified aligned t.primary then .primary t.primary else .free)
    else if l = t.primary then .primary l
    else if t.revertive && t.qualified aligned t.primary then .primary t.primary
    else .secondary l

/-- Lock pending after the evaluation: the locked line when it is newly locked (R103, R107). -/
def Timing.pendingAfter (t : Timing) (aligned : Line → Bool) : Option Line :=
  match (t.select aligned).line with
  | none => none
  | some l => if t.selector.line = some l then none else some l

/-- The Timing Unit takes a numbered boundary: SFN, counts, evaluation, marks, and the counts of section 6.3 for the frame that begins (R99, R100, R103, R105, R107). -/
def Timing.boundary (t : Timing) (aligned : Line → Bool) : Timing :=
  { t with
    selector := t.select aligned
    qualify := Vector.ofFn (t.qualifyAfter aligned)
    sfn := t.sfn + 1
    lockPending := t.pendingAfter aligned
    stall := false
    refclk := 0, periodInForce := t.freePeriod, lineBits := 0
    startSeen := false, pointReached := false, offLine := none }

/-- The line a REFERENCE event carries: the locked line after, or before a change to FREE (R108). -/
def referenceLine (before after : Selector) : Line :=
  match after.line, before.line with
  | some l, _ => l
  | none, some l => l
  | none, none => 0

/-- The REFERENCE event of an evaluation, when it changes the state or the locked line (R108). -/
def Timing.referenceEvents (t : Timing) (aligned : Line → Bool) : List Event :=
  let after := t.select aligned
  if after = t.selector then []
  else [.reference t.selector.name after.name (referenceLine t.selector after) (t.sfn + 1)]

/-- One REFCLK period passes, unless RESTART_N is low (R101, R113). -/
def State.refclkPeriod (s : State) : State :=
  if s.held then s else s.withTiming { s.timing with refclk := s.timing.refclk + 1 }

/-! ### Commands -/

/-- The locked line stalls: twice the free period in force has passed, and until then neither its point was reached nor did it stop supplying frame starts (R105). -/
def State.stalls (s : State) : Bool :=
  let t := s.timing
  t.selector.line.isSome && !s.held && !s.opening.isOpen && !t.stall && t.offLine.isNone
    && !t.pointReached && 2 * t.periodInForce.toNat ≤ t.refclk

/-- STALL (R105): the boundary is placed and the stall mark set. -/
def execStall (s : State) : Host.Outcome State Fault Refusal :=
  .next (if s.stalls then s.withTiming { s.timing with stall := true } else s)

/-- The settings of Set Reference, or the place of the first field out of range (R110). -/
def parseSetReference (p q v a b : Byte) : Except Nat (Line × Option Line × Bool × Half) :=
  match lineOf p with
  | none => .error 0
  | some primary =>
    if q ≠ 0xFF && (lineOf q).isNone then .error 1
    else if lineOf q = some primary then .error 1
    else
      match flagOf v with
      | none => .error 2
      | some revertive =>
        if (halfOf a b).toNat < 256 then .error 3
        else .ok (primary, lineOf q, revertive, halfOf a b)

/-- The octet of a line that may be absent, FFh when it is (R98, R112). -/
def optionalLine : Option Line → Byte
  | none => 0xFF
  | some l => octet l.val

/-- The four settings as octets (R204). -/
def Timing.settings (t : Timing) : List Byte :=
  [octet t.primary.val, optionalLine t.secondary, flagOctet t.revertive] ++ halfOctets t.freePeriod

/-- Set Reference (R110, R111). -/
def setReference (r : Request) (s : State) : State :=
  match r.payload with
  | [p, q, v, a, b] =>
    match parseSetReference p q v a b with
    | .error place => s.answer r .badValue [octet place]
    | .ok (primary, secondary, revertive, period) =>
      let t : Timing :=
        { s.timing with
          primary := primary, secondary := secondary, revertive := revertive
          freePeriod := period }
      (s.withTiming t).answer r .ok (t.settings ++ wordOctets (t.sfn + 1))
  | _ => s.badLength r

/-- SET_REFERENCE (10h, R111). -/
def execSetReference (s : State) : Host.Outcome State Fault Refusal :=
  .next (s.serve (ofKind 0x10) setReference)

/-- What Get Timing returns (R112, R204). The lock pending octet is the mark, which stands until the next boundary is taken (R103), also once R104 or R105 places that boundary and it is no lock boundary (log 25, DEDUCED). -/
def Timing.report (t : Timing) : List Byte :=
  [t.selector.name.code, optionalLine t.selector.line, optionalLine t.lockPending]
    ++ t.settings ++ wordOctets t.sfn ++ t.qualify.toList.map octet

/-- Get Timing (R112). -/
def getTiming (r : Request) (s : State) : State :=
  match r.payload with
  | [] => s.answer r .ok s.timing.report
  | _ => s.badLength r

/-- GET_TIMING (11h, R112). -/
def execGetTiming (s : State) : Host.Outcome State Fault Refusal :=
  .next (s.serve (ofKind 0x11) getTiming)

end Sys2Proof.Machine
end

