-- ==== Sys2Proof/Machine/Schedule.lean ====
section
/-! DEFINITION. The schedule table: firing, Add Schedule, Cancel Schedule, List Schedule (chapter 7). -/

namespace Sys2Proof.Machine

/-! ### Firing -/

/-- An entry's action is handed to its owner for boundary `n` (R8, R36, R37, R122, R123). -/
def State.handOver (s : State) (n : Word) : Action → State × FiredOutcome
  | .swap => if s.swapAllowed n then (s.swapAt n, .done) else (s, .pageBusy)
  | .pattern index value => (s.setPatternAt index { present := value, pending := none }, .done)

/-- The SCHEDULE_DONE event of a fired entry (R124). -/
def doneEvent (n : Word) (e : ScheduleEntry) (outcome : FiredOutcome) : Event :=
  .scheduleDone e.tag e.action.kind n outcome

/-- Entries handed over one at a time, in list order, with the events they raise (R121, R124). -/
def fireAll (n : Word) : List ScheduleEntry → State → State × List Event
  | [], s => (s, [])
  | e :: rest, s =>
    let handed := s.handOver n e.action
    let later := fireAll n rest handed.1
    (later.1, doneEvent n e handed.2 :: later.2)

/-- The entries due at boundary `n`, in list order (R121). -/
def State.due (s : State) (n : Word) : List ScheduleEntry :=
  s.schedule.filter fun e => e.due = n

/-- The table's share of boundary `n`: the entries due leave it and are handed over; the events are given back (R121). -/
def State.fire (s : State) (n : Word) : State × List Event :=
  fireAll n (s.due n) (s.withSchedule (s.schedule.filter fun e => e.due ≠ n))

/-- The Timing Unit takes the coming boundary ahead of BOUNDARY: SFN, qualify counts and evaluation, and in the same act the firing of the entries due; SCHEDULE_DONE is raised before REFERENCE (R99, R100, R107, R121, log 6). -/
def State.timingShare (s : State) : State :=
  let fired := s.fire s.comingFrame
  let taken := (fired.1.withTiming (s.timing.boundary s.aligned)).withOpening
    { fired.1.opening with isOpen := true, timingDone := true, lock := s.timing.lockBoundary }
  (taken.raiseAll fired.2).raiseAll (s.timing.referenceEvents s.aligned)

/-- SCHEDULE_FIRING (R121): the Timing Unit takes the coming boundary, at which some entry is due. -/
def execScheduleFiring (s : State) : Host.Outcome State Fault Refusal :=
  .next
    (if s.numberedDue && !s.opening.timingDone && !(s.due s.comingFrame).isEmpty then s.timingShare
    else s)

/-! ### Add Schedule -/

/-- The lowest tag from 1 to 255 that no entry holds (R116). -/
def freeTag (entries : List ScheduleEntry) : Nat :=
  ((List.range' 1 255).find? fun t => !entries.any fun e => e.tag = t).getD 0

/-- The list with an entry placed behind every entry whose distance ahead is equal or smaller (R117). -/
def insertEntry (sfn : Word) (e : ScheduleEntry) : List ScheduleEntry → List ScheduleEntry
  | [] => [e]
  | x :: rest =>
    if distanceAhead x.due sfn ≤ distanceAhead e.due sfn then x :: insertEntry sfn e rest
    else e :: x :: rest

/-- The action of an Add Schedule, or the place of the field out of range (R119, checks 4 and 5). -/
def parseAction (action index : Byte) (value : Word) : Except Nat Action :=
  if action = 0 then .ok .swap
  else if action = 1 then
    match patternOf index with
    | none => .error 2
    | some i => .ok (.pattern i value)
  else .error 1

/-- Add Schedule (R119, R120). -/
def addSchedule (r : Request) (s : State) : State :=
  match r.payload with
  | [f0, f1, f2, f3, action, index, v0, v1, v2, v3] =>
    let due := wordOf f0 f1 f2 f3
    let d := distanceAhead due s.timing.sfn
    if d ≤ 1 || Config.pastDistance < d then s.answer r .tooLate [0]
    else if Config.farthestAhead < d then s.answer r .tooFar [0]
    else if Config.scheduleEntries ≤ s.schedule.length then s.answer r .tableFull [8]
    else
      match parseAction action index (wordOf v0 v1 v2 v3) with
      | .error place => s.answer r .badValue [octet place]
      | .ok act =>
        let e : ScheduleEntry := { tag := freeTag s.schedule, due := due, action := act }
        let entries := insertEntry s.timing.sfn e s.schedule
        (s.withSchedule entries).answer r .ok
          ([octet e.tag] ++ wordOctets due ++ wordOctets (due - s.timing.sfn)
            ++ [octet entries.length])
  | _ => s.badLength r

/-- ADD_SCHEDULE (28h, R120). -/
def execAddSchedule (s : State) : Host.Outcome State Fault Refusal :=
  .next (s.serve (ofKind 0x28) addSchedule)

/-! ### Cancel Schedule and List Schedule -/

/-- An entry as reported: tag, action, pattern index, due frame (R125, R127). -/
def ScheduleEntry.octets (e : ScheduleEntry) : List Byte :=
  [octet e.tag, e.action.kind.code, e.action.indexOctet] ++ wordOctets e.due

/-- Cancel Schedule (R125). -/
def cancelSchedule (r : Request) (s : State) : State :=
  match r.payload with
  | [tag] =>
    match s.schedule.find? fun e => e.tag = tag.toNat with
    | none => s.answer r .notFound [0]
    | some e =>
      (s.withSchedule (s.schedule.eraseP fun x => x.tag = tag.toNat)).answer r .ok e.octets
  | _ => s.badLength r

/-- CANCEL_SCHEDULE (29h, R125). -/
def execCancelSchedule (s : State) : Host.Outcome State Fault Refusal :=
  .next (s.serve (ofKind 0x29) cancelSchedule)

/-- List Schedule (R127). -/
def listSchedule (r : Request) (s : State) : State :=
  match r.payload with
  | [] => s.answer r .ok (octet s.schedule.length :: s.schedule.flatMap ScheduleEntry.octets)
  | _ => s.badLength r

/-- LIST_SCHEDULE (2Ah, R127). -/
def execListSchedule (s : State) : Host.Outcome State Fault Refusal :=
  .next (s.serve (ofKind 0x2A) listSchedule)

end Sys2Proof.Machine
end

