-- ==== Sys2Proof/Machine/Boundary.lean ====
section
/-! DEFINITION. BOUNDARY: every block takes boundary N, in the order the command names (R99, 00_scope.md "How the blocks meet in time"). -/

namespace Sys2Proof.Machine

/-! ### The order -/

/-- The order in which shares the command does not name are taken. -/
def defaultOrder : List Taker :=
  [.store 0, .store 1, .store 2, .store 3, .store 4, .store 5, .store 6, .store 7, .timing,
    .schedule, .mapController, .notice, .link, .probe 0, .probe 1, .probe 2, .probe 3]

/-- Each key once, at its first place. -/
def keepFirst {α κ : Type} [DecidableEq κ] (key : α → κ) : List α → List α
  | [] => []
  | a :: rest => a :: (keepFirst key rest).filter fun b => key b ≠ key a

/-- The schedule table fires in the act in which the Timing Unit takes the boundary: naming one of the two names the other right behind it (R121). -/
def Taker.act : Taker → List Taker
  | .timing => [.timing, .schedule]
  | .schedule => [.schedule, .timing]
  | t => [t]

/-- A probe that can only observe after the link has placed its octets (R133, log 5). -/
def State.defers (s : State) : Taker → Bool
  | .probe i => !s.opening.linkDone && s.watchesControl i
  | _ => false

/-- The takers with those that wait for the link, where they stand before it, moved right behind it; `waiting` are those met so far. -/
def deferToLink (waits : Taker → Bool) : List Taker → List Taker → List Taker
  | waiting, [] => waiting
  | waiting, t :: rest =>
    if t = .link then t :: (waiting ++ rest)
    else if waits t then deferToLink waits (waiting ++ [t]) rest
    else t :: deferToLink waits waiting rest

/-- The order of the shares: those the command names first, then the others; a boundary is taken once by every block (R99). -/
def State.shareOrder (s : State) (order : List Taker) : List Taker :=
  deferToLink s.defers [] (keepFirst id ((order ++ defaultOrder).flatMap Taker.act))

/-! ### Framer events that fall together with the boundary -/

/-- The event comes right before the act of which this share is part. -/
def fallsBefore (c : Coincidence) (t : Taker) : Bool :=
  c.before.any fun u => (Taker.act u).contains t

/-- The event comes before this share. -/
def precedes (c : Coincidence) (shares : List Taker) (t : Taker) : Bool :=
  !(shares.takeWhile fun u => !fallsBefore c u).contains t

/-- The framer events that fall together with the boundary, one of a line. An event of the locked line whose point places the boundary comes after the Timing Unit has taken it, since one that came first would leave the boundary to REFCLK (R104). -/
def State.coincidences (s : State) (shares : List Taker) (within : List Coincidence) :
    List Coincidence :=
  (keepFirst Coincidence.line within).map fun c =>
    if s.timing.pointReached && s.timing.selector.line = some c.line && precedes c shares .timing then
      { c with before := none }
    else c

/-- The state as a taker finds it where it takes its share: the framer events before that share have come (R62, R90, R91, R100). -/
def State.foundBy (s : State) (shares : List Taker) (events : List Coincidence) (t : Taker) : State :=
  (events.filter fun c => precedes c shares t).foldl (fun u c => u.rxPeriod c.line c.sample) s

/-! ### What the boundary fixes by its number -/

/-- The Map Controller and the pattern table, with the schedule's actions not yet handed over (R7, R28, R30, R34). -/
def State.switchBoundary (s : State) : State :=
  s.promotePatterns.mcStep s.comingFrame

/-- The schedule table fires, when it has not fired at this boundary (R121). -/
def State.fireOnce (s : State) : State × List Event :=
  if s.opening.timingDone then (s, []) else s.fire s.comingFrame

/-- The Timing Unit after the boundary, which it takes once (R99). -/
def State.timingAfter (s : State) : Timing :=
  if s.opening.timingDone then s.timing else s.timing.boundary s.aligned

/-- The REFERENCE event that the Timing Unit has still to raise at the boundary (R108). -/
def State.referenceDue (s : State) : List Event :=
  if s.opening.timingDone then [] else s.timing.referenceEvents s.aligned

/-- The pages, patterns and Map Controller after the boundary, and the schedule table (R36, R123). -/
def State.mapEffects (s : State) : State :=
  s.switchBoundary.fireOnce.1

/-- The effects that the frame number fixes, whatever the order: patterns, Map Controller, schedule table, and stores and Timing Unit, each with the framer events that it has `found` (R36, R62, R89, R107, R123). -/
def State.numberedEffects (s : State) (found : Taker → State) : State :=
  (s.mapEffects.withStores (Vector.ofFn fun line => (found (.store line)).storeAfter line)).withTiming
    (found .timing).timingAfter

/-! ### What others see the order of -/

/-- The Notice Unit's timer at a boundary, when it was running before it (R194, R196). -/
def State.noticeBoundary (s : State) (ran : Bool) : State :=
  if ran && s.notices.state = .outstanding then s.withNotices s.notices.tick else s

/-- One share of the boundary: the events and responses of a block whose effects are fixed by number, or the act of a probe, the link or the Notice Unit. `before` is the state before the boundary, `found` as a taker finds it. -/
def State.takeShare (before : State) (found : Taker → State) (s : State) : Taker → State
  | .store line => s.raiseAll ((found (.store line)).storeSlips line)
  | .timing => s.raiseAll (found .timing).referenceDue
  | .schedule => s.raiseAll before.switchBoundary.fireOnce.2
  | .mapController => s.finishMc (before.mcFinal before.comingFrame)
  | .probe i => s.probeBoundary i
  | .link => if before.opening.linkDone then s else s.linkAct State.readFrame
  | .notice => s.noticeBoundary before.timerRuns

/-- A framer event at its place among the shares. The store of its line and the Timing Unit meet it as `before` the boundary where their own share comes later; what it does to them is then part of what they have `found` (R62, R90, R91, R100). -/
def State.meet (before : State) (shares : List Taker) (s : State) (c : Coincidence) : State :=
  let storeLater := precedes c shares (.store c.line)
  let timingLater := precedes c shares .timing
  let met :=
    ((if storeLater then s.setStore c.line (before.store c.line) else s).withTiming
      (if timingLater then before.timing else s.timing)).rxPeriod c.line c.sample
  (if storeLater then met.setStore c.line (s.store c.line) else met).withTiming
    (if timingLater then s.timing else met.timing)

/-- The shares are taken in this order, each after the framer events that come right before it. -/
def takeInTurn (meet : State → Coincidence → State) (share : State → Taker → State) :
    List Coincidence → List Taker → State → State
  | _, [], s => s
  | events, t :: rest, s =>
    takeInTurn meet share (events.filter fun c => !fallsBefore c t) rest
      (share ((events.filter fun c => fallsBefore c t).foldl meet s) t)

/-- A numbered boundary is taken by every block, the output frames begin, and the next boundary is not yet begun (R42, R70, R99); then come the framer events that fall after it. -/
def State.numberedBoundary (s : State) (order : BoundaryOrder) : State :=
  let shares := s.mapEffects.shareOrder order.takers
  let events := s.coincidences shares order.within
  let found := s.foundBy shares events
  let shared :=
    takeInTurn (State.meet s shares) (State.takeShare s found) events shares (s.numberedEffects found)
  (events.filter fun c => c.before.isNone).foldl (fun u c => u.rxPeriod c.line c.sample)
    (shared.beginFrames.withOpening closedOpening)

/-- The boundary that falls is taken: where it is the restart boundary, the full restart takes its place, with the strap levels as they last stood (R114, R161, log 16). The receive framers then start afresh with the first bit period after it, so no framer event falls together with it (R80, R81). -/
def State.takeBoundary (s : State) (order : BoundaryOrder) : State :=
  if s.restartDue then s.fullRestart s.straps .request false else s.numberedBoundary order

/-- The next bit period of the locked line is the one that places the next boundary (R102, R103). -/
def State.placesBoundary (s : State) (line : Line) : Bool :=
  let p := s.port line
  !s.held && !s.opening.isOpen && !s.timing.stall && p.rx.state = .aligned
    && s.timing.reaches line p.record.frameBits (p.rx.bits.length + 1)

/-- Among the bit periods given is the one of the locked line that places the boundary (R102, R103). -/
def State.placedWithin (s : State) (within : List Coincidence) : Bool :=
  s.timing.selector.line.any fun line =>
    s.placesBoundary line && within.any fun c => c.line = line

/-- The locked line's point has been reached (R102, R103). -/
def State.pointTaken (s : State) : State :=
  s.withTiming { s.timing with pointReached := true }

/-- BOUNDARY (R99): a boundary that is due, or that one of the bit periods falling together with it places (R102, R103). -/
def execBoundary (order : BoundaryOrder) (s : State) : Host.Outcome State Fault Refusal :=
  .next
    (if s.boundaryDue then s.takeBoundary order
    else if s.placedWithin order.within then s.pointTaken.takeBoundary order
    else s)

end Sys2Proof.Machine
end

