-- ==== Sys2Proof/Machine/Dispatch.lean ====
section
/-! DEFINITION. One arm per command. -/

namespace Sys2Proof.Machine

def exec (i : Instr) (s : State) : Host.Outcome State Fault Refusal :=
  match i with
  | .powerUp straps high => Sys2Proof.Machine.execPowerUp straps high s
  | .restartN straps => Sys2Proof.Machine.execRestartN straps s
  | .restartNRelease straps => Sys2Proof.Machine.execRestartNRelease straps s
  | .boundary order => Sys2Proof.Machine.execBoundary order s
  | .txFrameEnd line periods => Sys2Proof.Machine.execTxFrameEnd line periods s
  | .stall => Sys2Proof.Machine.execStall s
  | .copyComplete => Sys2Proof.Machine.execCopyComplete s
  | .clearComplete => Sys2Proof.Machine.execClearComplete s
  | .takePendingSwap => Sys2Proof.Machine.execTakePendingSwap s
  | .scheduleFiring => Sys2Proof.Machine.execScheduleFiring s
  | .requestIntake seq kind payload => Sys2Proof.Machine.execRequestIntake seq kind payload s
  | .noticeAck seq => Sys2Proof.Machine.execNoticeAck seq s
  | .foreignKind kind => Sys2Proof.Machine.execForeignKind kind s
  | .messageEnd => Sys2Proof.Machine.execMessageEnd s
  | .channelSwitch => Sys2Proof.Machine.execChannelSwitch s
  | .trialTimeout => Sys2Proof.Machine.execTrialTimeout s
  | .lineLostRevert => Sys2Proof.Machine.execLineLostRevert s
  | .retransmitTimeout => Sys2Proof.Machine.execRetransmitTimeout s
  | .pulse line before data => Sys2Proof.Machine.execPulse line before data s
  | .flywheelFrameEnd line before data => Sys2Proof.Machine.execFlywheelFrameEnd line before data s
  | .fullRestartBoundary straps => Sys2Proof.Machine.execFullRestartBoundary straps s
  | .echo => Sys2Proof.Machine.execEcho s
  | .identify => Sys2Proof.Machine.execIdentify s
  | .restartFull => Sys2Proof.Machine.execRestartFull s
  | .restartSwitch => Sys2Proof.Machine.execRestartSwitch s
  | .setLine => Sys2Proof.Machine.execSetLine s
  | .getLine => Sys2Proof.Machine.execGetLine s
  | .readStats => Sys2Proof.Machine.execReadStats s
  | .setReference => Sys2Proof.Machine.execSetReference s
  | .getTiming => Sys2Proof.Machine.execGetTiming s
  | .writeEntries => Sys2Proof.Machine.execWriteEntries s
  | .readEntries => Sys2Proof.Machine.execReadEntries s
  | .setPattern => Sys2Proof.Machine.execSetPattern s
  | .getPattern => Sys2Proof.Machine.execGetPattern s
  | .copyPage => Sys2Proof.Machine.execCopyPage s
  | .clearPage => Sys2Proof.Machine.execClearPage s
  | .swapPages => Sys2Proof.Machine.execSwapPages s
  | .getPages => Sys2Proof.Machine.execGetPages s
  | .addSchedule => Sys2Proof.Machine.execAddSchedule s
  | .cancelSchedule => Sys2Proof.Machine.execCancelSchedule s
  | .listSchedule => Sys2Proof.Machine.execListSchedule s
  | .setProbe => Sys2Proof.Machine.execSetProbe s
  | .readProbe => Sys2Proof.Machine.execReadProbe s
  | .moveChannel => Sys2Proof.Machine.execMoveChannel s
  | .getLink => Sys2Proof.Machine.execGetLink s
  | .setNotices => Sys2Proof.Machine.execSetNotices s
  | .getNotices => Sys2Proof.Machine.execGetNotices s
  | .unknownKind => Sys2Proof.Machine.execUnknownKind s

end Sys2Proof.Machine
end

