-- ==== Sys2Proof/Safety.lean ====
section
/-! DEFINITION. The laws of the part as predicates over State, and the words the statements are written in. -/

namespace Sys2Proof.Machine

/-! ### Laws -/

/-- The link's fields fit its state (R164), and a pending move holds the executor (R150, R176). -/
abbrev State.linkLaw (s : State) : Prop :=
  (s.link.state = .settled → s.link.former = none ∧ s.link.trialTimer = 0)
    ∧ (s.link.state = .trial →
        s.link.pendingMove = none ∧ s.link.former.isSome = true
          ∧ 1 ≤ s.link.trialTimer ∧ s.link.trialTimer ≤ 4096)
    ∧ (s.link.pendingMove.isSome = true → s.engine.executor = .held)

/-- In both pages CONTROL stands at the management positions and nowhere else (R4). -/
abbrev State.mapLaw (s : State) : Prop :=
  ∀ (line : Line) (slot : Slot),
    (entryAt s.switch.pageA line slot = .control ↔ s.management line slot = true)
      ∧ (entryAt s.switch.pageB line slot = .control ↔ s.management line slot = true)

/-- An entry's source is no management position and lies below its line's S (R6). -/
def State.sourceAllowed (s : State) : Entry → Bool
  | .slot line slot _ => !s.management line slot && slot.val < (s.port line).record.slots
  | _ => true

/-- No entry of either page has a source that R6 forbids. -/
abbrev State.sourceLaw (s : State) : Prop :=
  ∀ (line : Line) (slot : Slot),
    s.sourceAllowed (entryAt s.switch.pageA line slot) = true
      ∧ s.sourceAllowed (entryAt s.switch.pageB line slot) = true

/-- A store holds at most two unread frames, none while its framer is not ALIGNED, and then has taken none since (R84); the framer is OFF just while rx is off (R63), and with rx off the store is empty (R93). -/
abbrev State.storeLaw (s : State) : Prop :=
  ∀ line : Line,
    (s.store line).unread.length ≤ 2
      ∧ ((s.port line).rx.state ≠ .aligned →
          (s.store line).unread = [] ∧ (s.store line).taken = false)
      ∧ ((s.port line).rx.state = .off ↔ (s.port line).record.rxOn = false)
      ∧ ((s.port line).record.rxOn = false → (s.store line).current = none)

/-- A frame has the format of a record: S words of W bits (R46, R68). -/
abbrev LineRecord.fits (r : LineRecord) (frame : InputFrame) : Prop :=
  frame.length = r.slots ∧ ∀ w ∈ frame, w.toNat < 2 ^ r.width.bits

/-- Every frame a store holds has its line's present format, and a framer never holds more bits than a line frame (R46, R61); with rx off framer and store are empty (R63, R93). -/
abbrev State.formatLaw (s : State) : Prop :=
  ∀ line : Line,
    1 ≤ (s.port line).record.slots
      ∧ (∀ frame ∈ (s.store line).unread, (s.port line).record.fits frame)
      ∧ (∀ frame ∈ (s.store line).current.toList, (s.port line).record.fits frame)
      ∧ (s.port line).rx.bits.length ≤ (s.port line).record.frameBits
      ∧ ((s.port line).rx.state = .off ↔ (s.port line).record.rxOn = false)
      ∧ ((s.port line).rx.state = .off →
          (s.port line).rx.bits = [] ∧ (s.store line).unread = [] ∧ (s.store line).current = none)

/-- Line records are in range, and every location lies within its line's frame on a line with both sides on (R60, R164). -/
abbrev State.lineLaw (s : State) : Prop :=
  (∀ line : Line, 1 ≤ (s.port line).record.slots ∧ (s.port line).record.slots ≤ 64)
    ∧ ∀ loc ∈ s.link.locations,
        1 ≤ loc.width ∧ loc.width ≤ 4
          ∧ loc.first.val + loc.width ≤ (s.port loc.line).record.slots
          ∧ (s.port loc.line).record.rxOn = true ∧ (s.port loc.line).record.txOn = true

/-- The Timing Unit's record is in range; lock pending names the locked line (R98, R103); a locked line's framer is ALIGNED until the place of the next boundary is settled (R102 to R105). -/
abbrev State.timingLaw (s : State) : Prop :=
  256 ≤ s.timing.freePeriod.toNat ∧ s.timing.secondary ≠ some s.timing.primary
    ∧ (∀ line : Line, s.timing.qualify[line] ≤ 64)
    ∧ (∀ line, s.timing.lockPending = some line → s.timing.selector.line = some line)
    ∧ (∀ line, s.timing.selector.line = some line →
        s.timing.settled = true ∨ (s.port line).rx.state = .aligned)

/-- Between boundaries no block has taken a share of one (the model's own record, log 6). -/
abbrev State.openingLaw (s : State) : Prop :=
  s.opening.isOpen = false → s.opening = closedOpening

/-- Schedule entries: at most 8, tags from 1 to 255 that no two share, due 1 to 2^24 frames ahead, in order of distance (R115 to R118). -/
abbrev State.scheduleLaw (s : State) : Prop :=
  s.schedule.length ≤ 8
    ∧ (s.schedule.map ScheduleEntry.tag).Nodup
    ∧ (∀ e ∈ s.schedule, 1 ≤ e.tag ∧ e.tag ≤ 255)
    ∧ (∀ e ∈ s.schedule,
        1 ≤ distanceAhead e.due s.timing.sfn ∧ distanceAhead e.due s.timing.sfn ≤ 2 ^ 24)
    ∧ s.schedule.Pairwise fun a b =>
        distanceAhead a.due s.timing.sfn ≤ distanceAhead b.due s.timing.sfn

/-- The queues of the Request Engine keep their capacities, and a place is reserved just while a page operation is in flight (R25, R143). -/
abbrev State.queueLaw (s : State) : Prop :=
  s.engine.requests.length ≤ 4
    ∧ s.engine.responses.length + (if s.engine.reserved then 1 else 0) ≤ 6
    ∧ s.engine.cache.length ≤ 4
    ∧ (s.engine.reserved = true ↔ s.mc.state ≠ .idle)

/-- The sequence numbers of the queued requests, the page operation in flight and the waiting responses. -/
def State.heldSeqs (s : State) : List Byte :=
  s.engine.requests.map Request.seq ++ s.mc.state.owner.toList ++ s.engine.responses.map Response.seq

/-- No sequence number is held twice (R146), none is cached twice, and no cached one belongs to unfinished work (R154). -/
abbrev State.seqLaw (s : State) : Prop :=
  s.heldSeqs.Nodup
    ∧ (s.engine.cache.map Response.seq).Nodup
    ∧ ∀ seq ∈ s.engine.cache.map Response.seq,
        seq ∉ s.engine.requests.map Request.seq ++ s.mc.state.owner.toList

/-- A record is a SLIP of this line that was never sent (R190). -/
def NoticeRecord.openSlip (line : Line) (r : NoticeRecord) : Bool :=
  match r.event, r.number with
  | .slip l _ _ _, none => l = line
  | _, _ => false

/-- The notice queue and the sending state (R188, R190, R192 to R194): at most 16 records, only the head ever sent, one never-sent SLIP a line; each state with the head, send count and timer it allows; events are lost only from a full queue. -/
abbrev NoticeUnit.law (n : NoticeUnit) : Prop :=
  n.queue.length ≤ 16
    ∧ (∀ r ∈ n.queue.drop 1, r.number = none)
    ∧ (∀ line : Line, (n.queue.filter (NoticeRecord.openSlip line)).length ≤ 1)
    ∧ (n.lost ≠ 0 → n.queue.length = 16)
    ∧ 16 ≤ n.interval ∧ n.interval ≤ 4096
    ∧ n.mask &&& 0xC0 = 0
    ∧ (n.state = .idle ↔ n.queue = [])
    ∧ (n.state = .outstanding ∨ n.state = .stalled → n.headNumber.isSome = true)
    ∧ (n.state = .idle → n.sendCount = 0)
    ∧ (n.state = .waiting → n.sendCount ≤ 3)
    ∧ (n.state = .outstanding → 1 ≤ n.sendCount ∧ n.sendCount ≤ 4 ∧ 1 ≤ n.timer ∧ n.timer ≤ 4096)
    ∧ (n.state = .stalled → n.sendCount = 4)
    ∧ (n.state ≠ .outstanding → n.timer = 0)

/-- What the transmitter sends belongs to a queue's head: a notice to the waiting, started head record (R193), a response to the head of the response queue (R153); and some octet of it is left (R171). -/
abbrev State.sendLaw (s : State) : Prop :=
  match s.link.transmitter with
  | .sending m next =>
    next < m.octets.length
      ∧ match m.owner with
        | .notice => s.notices.state = .waiting ∧ s.notices.headNumber.isSome = true ∧ m.hold = false
        | .response =>
          s.engine.responses.head?.map Response.octets = some m.octets
            ∧ s.engine.responses.head?.map Response.hold = some m.hold
  | _ => True

/-- The executor is HELD just while one hold-marked response waits or the transmitter is STOPPED after it (R150, R174). -/
abbrev State.holdLaw (s : State) : Prop :=
  (s.engine.responses.filter Response.hold).length
      + (if s.link.transmitter = .stopped then 1 else 0)
    = if s.engine.executor = .held then 1 else 0

/-- The message a receiver collects has a length a message may have, and no more octets than that (R168). -/
abbrev Receiver.law : Receiver → Prop
  | .body len octets => 2 ≤ len.toNat ∧ len.toNat ≤ 62 ∧ octets.length < len.toNat
  | .check len octets _ => 2 ≤ len.toNat ∧ len.toNat ≤ 62 ∧ octets.length = len.toNat
  | _ => True

/-- Every waiting request, response and cached response fits a message: a payload of at most 60 octets (R167, R202). -/
abbrev State.payloadLaw (s : State) : Prop :=
  (∀ r ∈ s.engine.requests, r.payload.length ≤ 60)
    ∧ (∀ r ∈ s.engine.responses, r.payload.length ≤ 60)
    ∧ (∀ r ∈ s.engine.cache, r.payload.length ≤ 60)
    ∧ s.link.receiver.law
    ∧ s.schedule.length ≤ 8

/-! ### Words of the statements: requests -/

/-- The executor takes request `r`, leaving `rest`: not held, no boundary part way through, READY, an unreserved free place, `r` at the head (R149). -/
abbrev State.takes (s : State) (r : Request) (rest : List Request) : Prop :=
  s.held = false ∧ s.opening.isOpen = false ∧ s.engine.executor = .ready
    ∧ s.engine.responses.length + (if s.engine.reserved then 1 else 0) < 6
    ∧ s.engine.requests = r :: rest

/-- The final response to a request with `rest` left in the queue (R152). -/
def finalResponse (r : Request) (rest : List Request) (status : Status) (data : List Byte)
    (hold : Bool) : Response :=
  { kind := r.kind + 0x80, seq := r.seq, status := status
    credit := BitVec.ofNat 8 (4 - rest.length), data := data, hold := hold }

/-- The engine once a final response to the head request has been queued: it stands last in the response queue, and newest of at most four in the cache (R149, R153, R154). -/
def RequestEngine.answered (q : RequestEngine) (rest : List Request) (x : Response) : RequestEngine :=
  { q with
    requests := rest, responses := q.responses ++ [x]
    cache := if q.cache.length < 4 then q.cache ++ [x] else q.cache.drop 1 ++ [x] }

/-- The state in which nothing else has changed: the head request is answered (R149). -/
def State.answered (s : State) (r : Request) (rest : List Request) (status : Status)
    (data : List Byte) : State :=
  { s with engine := s.engine.answered rest (finalResponse r rest status data false) }

/-! ### Words of the statements: a full restart -/

/-- Every item of the part stands at its full-restart value (R20, R22, R80, R97, R113, R128, R142, R163, R185, R201), State holds the strap levels given, and the fields the model adds are at the values it names: the level RXSYNC is taken to have had (log 12), what is counted between boundaries (log 19), no share of a boundary taken (log 6). -/
def State.fullyRestarted (t : State) (straps : Straps) (cause : RestartCause) : Prop :=
  let width := if straps.ctlW then 2 else 1
  let location : Location := { line := straps.ctlLine, first := 0, width := width }
  (∀ line : Line,
      (t.port line).record =
          (if line = straps.ctlLine then
            { rxOn := true, txOn := true
              slots := if straps.ctlFmt = 2 then 16 else if straps.ctlFmt = 3 then 64 else 32
              width := if straps.ctlFmt = 1 then .w16 else if straps.ctlFmt = 2 then .w32 else .w8
              loss := .fill, lossPattern := 0 }
          else
            { rxOn := false, txOn := false, slots := 32, width := .w8
              loss := .fill, lossPattern := 0 })
        ∧ (t.port line).rx.state = (if line = straps.ctlLine then .hunt else .off)
        ∧ (t.port line).rx.confirm = 0 ∧ (t.port line).rx.miss = 0 ∧ (t.port line).rx.bits = []
        ∧ (t.port line).losses = 0 ∧ (t.port line).tx = .off
        ∧ (t.port line).txSync = .undriven ∧ (t.port line).txData = .undriven
        ∧ (t.store line).unread = [] ∧ (t.store line).current = none
        ∧ (t.store line).newly = false ∧ (t.store line).taken = false
        ∧ (t.store line).repeats = 0 ∧ (t.store line).deletes = 0
        ∧ t.timing.qualify[line] = 0 ∧ (t.port line).syncWas = false)
    ∧ t.straps = straps ∧ t.opening = closedOpening
    ∧ t.timing.selector = .free ∧ t.timing.primary = straps.ctlLine ∧ t.timing.secondary = none
    ∧ t.timing.revertive = false ∧ t.timing.freePeriod = 6144 ∧ t.timing.sfn = 0
    ∧ t.timing.lockPending = none ∧ t.timing.stall = false
    ∧ t.timing.refclk = 0 ∧ t.timing.periodInForce = 6144
    ∧ t.timing.lineBits = 0 ∧ t.timing.startSeen = false ∧ t.timing.pointReached = false
    ∧ t.timing.offLine = none
    ∧ t.schedule = []
    ∧ (∀ (name : PageName) (line : Line) (slot : Slot),
        entryAt (t.switch.page name) line slot =
          if line = straps.ctlLine ∧ slot.val < width then .control else .release)
    ∧ t.switch.active = .a
    ∧ (∀ i : PatternIndex, t.pattern i = { present := 0, pending := none })
    ∧ t.mc = { state := .idle, lastSwap := none, endFrame := none }
    ∧ (∀ p : ProbeIndex,
        t.probe p =
          { mode := .off, side := .rx, line := 0, slot := 0, value := 0, mask := 0
            hits := 0, last := none, capture := none })
    ∧ t.engine =
        { requests := [], executor := .ready, responses := [], reserved := false, cache := []
          droppedRequests := 0, droppedResends := 0 }
    ∧ t.link =
        { current := location, state := .settled, pendingMove := none, former := none
          lineLost := false, trialTimer := 0, receiver := .hunt, transmitter := .free, inARow := 0
          checkErrors := 0, lengthErrors := 0, foreignKinds := 0 }
    ∧ t.notices =
        { queue := [{ event := .restarted cause, number := none }], lost := 0, mask := 0x3F
          interval := 256, state := .waiting, sendCount := 0, timer := 0, nextNumber := 0 }

/-! ### Words of the statements: boundaries -/

/-- A numbered boundary falls now, and no share of it has been taken (R99, R114). -/
abbrev State.freshBoundary (s : State) : Prop :=
  s.numberedDue = true ∧ s.opening = closedOpening

/-- No move is pending or in trial, so a boundary changes no location (R165). -/
abbrev Link.resting (k : Link) : Prop :=
  k.state = .settled ∧ k.pendingMove = none ∧ k.former = none

/-- The coming boundary is neither the switch boundary nor one at which a trial ends by revert (R177, R178). -/
abbrev Link.steady (k : Link) : Prop :=
  (k.state = .settled → k.pendingMove = none ∨ k.transmitter ≠ .stopped)
    ∧ (k.state = .trial → k.lineLost = false ∧ 1 < k.trialTimer)

/-- The link changes no location and reads no frame at the coming boundary, so no notice is acknowledged at it (R165, R166). -/
abbrev State.quiet (s : State) : Prop :=
  s.link.resting ∧ s.takenFrame s.link.current.line = none

/-- The event stands in the notice queue, unless the queue is full (R189). -/
abbrev NoticeUnit.shows (n : NoticeUnit) (e : Event) : Prop :=
  (∃ r ∈ n.queue, r.event = e) ∨ 16 ≤ n.queue.length

/-- The link is SETTLED on this location: no other location, no mark, no timer (R179, R180). -/
abbrev Link.restsOn (k : Link) (loc : Location) : Prop :=
  k.current = loc ∧ k.state = .settled ∧ k.pendingMove = none ∧ k.former = none
    ∧ k.lineLost = false ∧ k.trialTimer = 0

/-- At the boundary that leads from `s` to `t` a location is given up and another kept: in both pages the positions given up become RELEASE (R5, R180; those the kept one covers too stay, log 18), and where no copy or clear is in flight every other entry stays. -/
abbrev State.givesUp (s t : State) (gone kept : Location) : Prop :=
  ∀ (name : PageName) (line : Line) (slot : Slot),
    if gone.covers line slot = true ∧ kept.covers line slot = false then
      entryAt (t.switch.page name) line slot = .release
    else
      s.mc.state.rewriting = false →
        entryAt (t.switch.page name) line slot = entryAt (s.switch.page name) line slot

/-! ### Words of the statements: map entries -/

/-- The status that refuses an entry of four octets for a target position, by the first check of R11 that fails; none when it passes. -/
def State.entryRefusal (s : State) (line : Line) (slot : Slot) (e : Byte × Byte × Byte × Byte) :
    Option Status :=
  let (kind, a, b, justify) := e
  let badJustify := 1 < justify.toNat
  if s.management line slot then some .reserved
  else if kind = 3 then some .reserved
  else if 3 < kind.toNat then some .badValue
  else if kind = 1 then
    if 8 ≤ a.toNat then some .badValue
    else if 64 ≤ b.toNat ∨ (s.port (Fin.ofNat 8 a.toNat)).record.slots ≤ b.toNat then some .badValue
    else if s.management (Fin.ofNat 8 a.toNat) (Fin.ofNat 64 b.toNat) then some .reserved
    else if badJustify then some .badValue
    else none
  else if kind = 2 then
    if 16 ≤ a.toNat then some .badValue else if badJustify then some .badValue else none
  else none

end Sys2Proof.Machine
end

