-- ==== Sys2Proof/Certificates/Slice0/Obligations.lean ====
section
/-! DEFINITION. The statements for the provers. -/

open Sys2Proof Sys2Proof.Machine

/-! ### The queue of commands and the restarts -/

/-- A step takes the command at the front of the queue and runs it on the state with the queue's rest.

On an empty queue one REFCLK period passes and nothing else happens; none passes while RESTART_N is low (R101, R113; that an empty queue means a REFCLK period is the model's choice, log 3). -/
def Obligations.StepRunsFrontCommand : Prop :=
  (∀ (c : Instr) (rest : List Instr) (s : State),
    s.pending = c :: rest → step s = exec c { s with pending := rest })
    ∧ (∀ s : State, s.pending = [] →
    (s.held = false →
        step s = .next { s with timing := { s.timing with refclk := s.timing.refclk + 1 } })
      ∧ (s.held = true → step s = .next s))

/-- The state after reset is the state after a full restart at power-up (the strap levels are the model's choice, log 10, and so are the values of the fields it adds, log 6, 12, 19).

Every law holds at reset. -/
def Obligations.ResetIsFullRestart : Prop :=
  (State.reset.fullyRestarted { ctlLine := 0, ctlW := false, ctlFmt := 0 } .powerOrPin
    ∧ State.reset.held = false ∧ State.reset.pending = [])
    ∧ (State.reset.linkLaw ∧ State.reset.mapLaw ∧ State.reset.sourceLaw ∧ State.reset.storeLaw
    ∧ State.reset.formatLaw ∧ State.reset.lineLaw ∧ State.reset.timingLaw
    ∧ State.reset.scheduleLaw ∧ State.reset.queueLaw ∧ State.reset.seqLaw
    ∧ State.reset.notices.law ∧ State.reset.sendLaw ∧ State.reset.holdLaw
    ∧ State.reset.payloadLaw ∧ State.reset.openingLaw)

/-- POWER_UP, RESTART_N and RESTART_N_RELEASE leave every item of the part at its full-restart value, with the straps they give and cause POWER_OR_PIN (that the levels given at the release replace those given at RESTART_N is the model's choice, log 11). State holds those levels, which a restart boundary taken by BOUNDARY reads again, and the fields the model adds are at the values it names (log 6, 12, 19).

At the restart boundary FULL_RESTART_BOUNDARY restarts everything with cause REQUEST; a BOUNDARY there does the same with the straps as they stand, whatever bit periods fall together with it: each framer starts from these values, the control line's hunting (R80, R81; that BOUNDARY takes that boundary too is the model's reading, log 16). -/
def Obligations.FullRestarts : Prop :=
  (∀ (s : State) (straps : Straps) (high : Bool),
    (∃ t, exec (.powerUp straps high) s = .next t ∧ t.fullyRestarted straps .powerOrPin
        ∧ t.held = !high ∧ t.pending = s.pending)
      ∧ (∃ t, exec (.restartN straps) s = .next t ∧ t.fullyRestarted straps .powerOrPin
        ∧ t.held = true ∧ t.pending = s.pending)
      ∧ (s.held = true →
        ∃ t, exec (.restartNRelease straps) s = .next t ∧ t.fullyRestarted straps .powerOrPin
          ∧ t.held = false ∧ t.pending = s.pending))
    ∧ (∀ (s : State) (straps : Straps) (order : BoundaryOrder),
    s.held = false → s.timing.placed = true → s.opening.isOpen = false →
    s.link.transmitter = .stopped → s.link.pendingMove = none →
    (∃ t, exec (.fullRestartBoundary straps) s = .next t ∧ t.fullyRestarted straps .request
        ∧ t.held = false ∧ t.pending = s.pending)
      ∧ ∃ t, exec (.boundary order) s = .next t ∧ t.fullyRestarted s.straps .request
        ∧ t.held = false ∧ t.pending = s.pending)

/-- While RESTART_N is low no command but POWER_UP, RESTART_N and RESTART_N_RELEASE does anything: no boundary falls, the receive framers ignore their pins, a transmit framer in OFF, as the restart leaves it, stays so, no request is taken (R70, R80, R113, R163).

In HELD, with no unreserved free place, or with an empty queue, no request command does anything (R149, R150; that it leaves the state alone is log 2). -/
def Obligations.HeldPartDoesNothing : Prop :=
  (∀ (s : State) (c : Instr), s.held = true →
    (∀ straps high, c ≠ .powerUp straps high) → (∀ straps, c ≠ .restartN straps) →
    (∀ straps, c ≠ .restartNRelease straps) →
    (∀ line periods, c = .txFrameEnd line periods → (s.port line).tx = .off) → exec c s = .next s)
    ∧ (∀ (s : State) (c : Instr),
    s.engine.executor = .held ∨ 6 ≤ s.engine.responses.length + (if s.engine.reserved then 1 else 0)
      ∨ s.engine.requests = [] →
    c ∈ ([.echo, .identify, .restartFull, .restartSwitch, .setLine, .getLine, .readStats,
      .setReference, .getTiming, .writeEntries, .readEntries, .setPattern, .getPattern, .copyPage,
      .clearPage, .swapPages, .getPages, .addSchedule, .cancelSchedule, .listSchedule, .setProbe,
      .readProbe, .moveChannel, .getLink, .setNotices, .getNotices, .unknownKind] : List Instr) →
    exec c s = .next s)

/-- Every command, in every state, ends in a next state: nothing stops the part. The spec names no event that does; that a command whose step cannot happen ends in the state it found is the model's choice (log 2). -/
def Obligations.NothingStopsThePart : Prop :=
  ∀ (c : Instr) (s : State), ∃ t, exec c s = .next t

/-! ### BOUNDARY: the Timing Unit -/

/-- A numbered boundary, whatever the order of the blocks: SFN rises by 1, the qualify counts are brought up to date, the selector takes its table's first row that applies, lock pending marks a newly locked line, the stall mark clears, the settings stay (R99, R100, R103, R105 to R107). The Timing Unit has not taken the boundary ahead (log 6).

The evaluation raises a REFERENCE event when it changes the selector state or the locked line, with the states, the line and the frame N, and none otherwise: unless that kind is disabled or the notice queue is full, it stands there after the boundary, whatever the link delivers at it (R108, R189). -/
def Obligations.BoundaryEvaluatesTheReference : Prop :=
  (∀ (s : State) (order : List Taker), s.numberedDue = true → s.opening.timingDone = false →
    let t := s.timing
    let aligned := fun line : Line => (s.port line).rx.state = .aligned
    let count := fun line : Line =>
      if t.stall = true ∧ t.selector.line = some line then 0
      else if aligned line then min 64 (t.qualify[line] + 1) else 0
    let lost := fun line : Line =>
      ¬ aligned line ∨ t.stall = true ∨ (line ≠ t.primary ∧ t.secondary ≠ some line)
    ∃ u, exec (.boundary ⟨order, []⟩) s = .next u
      ∧ u.timing.sfn = t.sfn + 1
      ∧ (∀ line : Line, u.timing.qualify[line] = count line)
      ∧ (t.selector.line = none →
          (count t.primary = 64 → u.timing.selector = .primary t.primary)
            ∧ (count t.primary ≠ 64 → ∀ m, t.secondary = some m → count m = 64 →
                u.timing.selector = .secondary m)
            ∧ (count t.primary ≠ 64 → (∀ m, t.secondary = some m → count m ≠ 64) →
                u.timing.selector = .free))
      ∧ (∀ line, t.selector.line = some line → lost line →
          (∀ m, t.secondary = some m → m ≠ line → count m = 64 →
              u.timing.selector = .secondary m)
            ∧ ((∀ m, t.secondary = some m → m ≠ line → count m ≠ 64) →
                (count t.primary = 64 → u.timing.selector = .primary t.primary)
                  ∧ (count t.primary ≠ 64 → u.timing.selector = .free)))
      ∧ (∀ line, t.selector.line = some line → ¬ lost line →
          (line = t.primary → u.timing.selector = .primary line)
            ∧ (line ≠ t.primary →
                (t.revertive = true ∧ count t.primary = 64 →
                    u.timing.selector = .primary t.primary)
                  ∧ (¬ (t.revertive = true ∧ count t.primary = 64) →
                    u.timing.selector = .secondary line)))
      ∧ u.timing.lockPending =
          (if u.timing.selector.line = t.selector.line then none else u.timing.selector.line)
      ∧ u.timing.stall = false ∧ u.timing.refclk = 0
      ∧ u.timing.periodInForce = t.freePeriod
      ∧ u.timing.primary = t.primary ∧ u.timing.secondary = t.secondary
      ∧ u.timing.revertive = t.revertive ∧ u.timing.freePeriod = t.freePeriod)
    ∧ (∀ (s : State) (order : List Taker), s.freshBoundary →
    let t := s.timing
    ∃ u, exec (.boundary ⟨order, []⟩) s = .next u
      ∧ (u.timing.selector ≠ t.selector → s.notices.mask.getLsbD 2 = true →
          u.notices.shows
            (.reference t.selector.name u.timing.selector.name
              (match u.timing.selector.line, t.selector.line with
              | some line, _ => line
              | none, some line => line
              | none, none => 0)
              (t.sfn + 1)))
      ∧ (u.timing.selector = t.selector → ∀ r ∈ u.notices.queue, ∀ before after line frame,
          r.event = .reference before after line frame →
          ∃ q ∈ s.notices.queue, q.event = r.event))

/-- Where a numbered boundary falls, with no share of it taken: in FREE once the free period in force has passed (R101); in a locked state at the line's point (R102, R103), at REFCLK after the line stopped supplying frame starts, in a period after that (R104), or at a stall (R105). Where it does not fall, BOUNDARY does nothing (log 2, log 4). A boundary at which the transmitter is STOPPED with no move pending is the restart boundary and is left to another statement.

The bit period of the locked line that lies half a line frame after a frame start that came since the last boundary, at a lock boundary at least half a line frame after that boundary, and within twice the free period, is one in which the boundary falls: BOUNDARY given that period takes the boundary as it would with the point reached, and then the period (R62, R91, R102 to R105). Given another bit period of that line, BOUNDARY does nothing where no boundary has been placed (log 2).

A bit period that falls together with a placed boundary and after it is the same as one that comes after BOUNDARY, whatever its line (R62, log 5). No bit period falls together with the restart boundary: the framers start afresh with the first one after it (R80). -/
def Obligations.BoundaryFallsWhereItIsPlaced : Prop :=
  let next := fun (s u : State) (line : Line) (x : RxSample) =>
    if s.link.transmitter = .stopped ∧ s.link.pendingMove = none then u else u.rxPeriod line x
  (∀ (s : State) (order : List Taker), s.held = false → s.opening.isOpen = false → s.openingLaw →
    s.link.transmitter ≠ .stopped ∨ s.link.pendingMove ≠ none →
    let falls := ∃ t, exec (.boundary ⟨order, []⟩) s = .next t ∧ t.timing.sfn = s.timing.sfn + 1
    let stays := exec (.boundary ⟨order, []⟩) s = .next s
    let fallsByRefclk := s.timing.periodInForce.toNat ≤ s.timing.refclk
    (s.timing.selector = .free → (fallsByRefclk → falls) ∧ (¬ fallsByRefclk → stays))
      ∧ (s.timing.selector ≠ .free → s.timing.stall = false → s.timing.offLine = none →
          (s.timing.pointReached = true → falls) ∧ (s.timing.pointReached = false → stays))
      ∧ (∀ count, s.timing.selector ≠ .free → s.timing.stall = false →
          s.timing.offLine = some count →
          (fallsByRefclk ∧ count < s.timing.refclk → falls)
            ∧ (¬ (fallsByRefclk ∧ count < s.timing.refclk) → stays))
      ∧ (s.timing.selector ≠ .free → s.timing.stall = true → falls))
    ∧ (∀ (s : State) (order : List Taker) (line : Line) (x : RxSample),
    s.held = false → s.opening.isOpen = false → s.openingLaw → s.timing.selector.line = some line →
    let t := s.timing
    let p := s.port line
    let half := p.record.frameBits / 2
    let places := t.stall = false ∧ p.rx.state = .aligned ∧ t.pointReached = false
      ∧ t.offLine = none ∧ t.refclk < 2 * t.periodInForce.toNat ∧ p.rx.bits.length = half
      ∧ (t.lockPending = some line → half ≤ t.lineBits)
      ∧ (t.lockPending ≠ some line → t.startSeen = true)
    (places →
        ∃ u, exec (.boundary ⟨order, []⟩) { s with timing := { t with pointReached := true } }
            = .next u
          ∧ exec (.boundary ⟨order, [⟨line, x, none⟩]⟩) s = .next (next s u line x))
      ∧ (¬ places → t.placed = false → ∀ before,
          exec (.boundary ⟨order, [⟨line, x, before⟩]⟩) s = .next s))
    ∧ (∀ (s : State) (order : List Taker) (line : Line) (x : RxSample),
    s.held = false → s.opening.isOpen = false → s.openingLaw → s.timing.placed = true →
    ∃ u, exec (.boundary ⟨order, []⟩) s = .next u
      ∧ exec (.boundary ⟨order, [⟨line, x, none⟩]⟩) s = .next (next s u line x))

/-- STALL: where twice the free period in force has passed, the locked line's point was not reached within it and the line did not stop supplying frame starts in it (offLine absent), the stall mark is set, and nothing else changes; the boundary it places is no lock boundary (R103, R105). -/
def Obligations.StallSetsTheMark : Prop :=
  ∀ (s : State) (line : Line), s.held = false → s.opening.isOpen = false →
    s.timing.selector.line = some line → s.timing.offLine = none → s.timing.pointReached = false →
    s.timing.stall = false → 2 * s.timing.periodInForce.toNat ≤ s.timing.refclk →
    let t := { s with timing := { s.timing with stall := true } }
    exec .stall s = .next t ∧ t.timing.placed = true ∧ t.timing.lockBoundary = none

/-! ### BOUNDARY: stores, pages, patterns, output frames, probes, notices -/

/-- Every elastic store handles a numbered boundary, whatever the order of the blocks: take the oldest frame, at the line's lock boundary the newest, else count a repeat slip, else apply the loss action (R86 to R88, R94). The stores have not taken the boundary ahead (log 6).

Where the stores take a boundary ahead, for the link, they do the same, and raise the SLIP events of repeat slips and of a lock boundary, line 0 first; nothing else changes but the model's own record (R87, R94; that they take it line 0 first is log 6).

BOUNDARY raises the SLIP event of a repeat slip, and of the frames a lock boundary discards, which merge into one record of the line: unless that kind is disabled or the notice queue is full, it stands there after the boundary, where no SLIP of the line was waiting to be sent (R87, R94, R189, R190). -/
def Obligations.BoundaryHandlesEveryStore : Prop :=
  (∀ (s : State) (order : List Taker) (line : Line), s.numberedDue = true →
    s.opening.storesDone = false → s.opening.timingDone = false →
    let e := s.store line
    let lock := s.timing.lockPending = some line ∧ s.timing.stall = false ∧ s.timing.offLine = none
    ∃ t, exec (.boundary ⟨order, []⟩) s = .next t
      ∧ (∀ oldest rest, e.unread = oldest :: rest → ¬ lock →
          t.store line =
            { e with unread := rest, current := some oldest, newly := true, taken := true })
      ∧ (∀ older newest, e.unread = older ++ [newest] → lock →
          t.store line =
            { e with
              unread := [], current := some newest, newly := true, taken := true
              deletes := BitVec.ofNat 16 (min 65535 (e.deletes.toNat + older.length)) })
      ∧ (e.unread = [] → e.taken = true →
          t.store line =
            { e with
              newly := false
              repeats := BitVec.ofNat 16 (min 65535 (e.repeats.toNat + 1)) })
      ∧ (e.unread = [] → e.taken = false →
          t.store line =
            { e with
              newly := false
              current := if (s.port line).record.loss = .hold then e.current else none }))
    ∧ (∀ (s : State) (order : List Taker), s.freshBoundary →
    let lock := fun line : Line =>
      s.timing.lockPending = some line ∧ s.timing.stall = false ∧ s.timing.offLine = none
    let n := s.timing.sfn + 1
    ∃ t, exec (.boundary ⟨order, []⟩) s = .next t
      ∧ s.takeStores =
        { s with
          stores := t.stores
          notices :=
            ((List.finRange 8).flatMap fun line =>
              let e := s.store line
              if e.unread = [] then (if e.taken then [Event.slip line 1 0 n] else [])
              else if lock line then List.replicate (e.unread.length - 1) (.slip line 0 1 n)
              else []).foldl NoticeUnit.raise s.notices
          opening := { closedOpening with isOpen := true, storesDone := true } })
    ∧ (∀ (s : State) (order : List Taker) (line : Line), s.freshBoundary →
    s.notices.mask.getLsbD 1 = true → (∀ r ∈ s.notices.queue, r.openSlip line = false) →
    let e := s.store line
    let lock := s.timing.lockPending = some line ∧ s.timing.stall = false ∧ s.timing.offLine = none
    ∃ t, exec (.boundary ⟨order, []⟩) s = .next t
      ∧ (e.unread = [] → e.taken = true → t.notices.shows (.slip line 1 0 (s.timing.sfn + 1)))
      ∧ (∀ older newest, e.unread = older ++ [newest] → older ≠ [] → lock →
          t.notices.shows
            (.slip line 0 (BitVec.ofNat 16 (min 65535 older.length)) (s.timing.sfn + 1))))

/-- A copy or clear makes one step at a numbered boundary: line L of the standby page becomes the active page's, or CONTROL at management positions and RELEASE elsewhere; progress rises to L+1; no other entry and no page name changes, whatever SWAP entry is due. No move is pending or in trial here (R28, R30, R36).

The step on line 7 ends the operation in the same act: the Map Controller is IDLE with its end frame kept, the reservation ends, and the final response OK with the page written and N is the newest of the cache (R25, R29, R31, R154). -/
def Obligations.CopyAndClearStepAtBoundary : Prop :=
  ∀ (s : State) (order : List Taker) (progress : Line) (owner : Byte),
    s.freshBoundary → s.link.resting →
    let kept := fun t : State =>
      t.mc.lastSwap = s.mc.lastSwap ∧ t.mc.endFrame = s.mc.endFrame
        ∧ t.switch.active = s.switch.active ∧ t.switch.activePage = s.switch.activePage
    let ended := fun (t : State) (kind : Byte) =>
      if progress = 7 then
        t.mc.state = .idle ∧ t.engine.reserved = false
          ∧ ∃ credit : Byte,
            let response : Response := {
              kind := kind, seq := owner, status := .ok, credit := credit
              data := s.switch.active.other.code :: wordOctets (s.timing.sfn + 1), hold := false }
            t.engine.cache =
              if s.engine.cache.length < 4 then s.engine.cache ++ [response]
              else s.engine.cache.drop 1 ++ [response]
      else t.engine.cache = s.engine.cache ∧ t.engine.reserved = s.engine.reserved
    (s.mc.state = .copying progress owner →
      ∃ t, exec (.boundary ⟨order, []⟩) s = .next t ∧ kept t ∧ ended t 0xA0
        ∧ (progress ≠ 7 → t.mc.state = .copying (progress + 1) owner)
        ∧ ∀ (line : Line) (slot : Slot),
            entryAt t.switch.standbyPage line slot =
              if line = progress then entryAt s.switch.activePage line slot
              else entryAt s.switch.standbyPage line slot)
      ∧ (s.mc.state = .clearing progress owner →
        ∃ t, exec (.boundary ⟨order, []⟩) s = .next t ∧ kept t ∧ ended t 0xA1
          ∧ (progress ≠ 7 → t.mc.state = .clearing (progress + 1) owner)
          ∧ ∀ (line : Line) (slot : Slot),
              entryAt t.switch.standbyPage line slot =
                if line = progress then
                  (if s.link.current.covers line slot = true then .control else .release)
                else entryAt s.switch.standbyPage line slot)

/-- At a numbered boundary every pattern takes the value of the last PATTERN entry due for it, else its pending value, else keeps its present one; nothing stays pending (R7, R8, R123). The table has not fired ahead (log 6). -/
def Obligations.BoundarySetsPatterns : Prop :=
  ∀ (s : State) (order : List Taker) (i : PatternIndex), s.numberedDue = true →
    s.opening.timingDone = false →
    let scheduled := (s.schedule.filter fun e => e.due = s.timing.sfn + 1).reverse.findSome? fun e =>
      match e.action with
      | .pattern j v => if j = i then some v else none
      | .swap => none
    ∃ t, exec (.boundary ⟨order, []⟩) s = .next t
      ∧ t.pattern i =
        { present := (scheduled <|> (s.pattern i).pending).getD (s.pattern i).present
          pending := none }

/-- At a numbered boundary at most one swap takes effect: the pending swap at its target, else the first SWAP entry due when the Map Controller is IDLE. The pages keep their entries. No move is pending or in trial here, and no copy or clear is in flight (R34, R36, R37).

While a copy or clear is in flight, its last step included, or the manager's swap takes effect, every SWAP entry due is refused: the indicator and last swap frame are as without it, and SCHEDULE_DONE reports PAGE_BUSY, which stands in the notice queue after the boundary unless that kind is disabled or the queue is full; a move or a trial changes none of this (R36, R37, R122, R124). -/
def Obligations.BoundarySwapsAtMostOnce : Prop :=
  (∀ (s : State) (order : List Taker), s.freshBoundary → s.link.resting →
    s.mc.state.rewriting = false →
    let n := s.timing.sfn + 1
    let scheduled := ∃ e ∈ s.schedule, e.due = n ∧ e.action = .swap
    let manager := ∃ owner, s.mc.state = .swapPending n owner
    ∃ t, exec (.boundary ⟨order, []⟩) s = .next t
      ∧ t.switch.pageA = s.switch.pageA ∧ t.switch.pageB = s.switch.pageB
      ∧ (manager ∨ (s.mc.state = .idle ∧ scheduled) →
          t.switch.active = s.switch.active.other ∧ t.mc.lastSwap = some n ∧ t.mc.state = .idle)
      ∧ (¬ manager → ¬ (s.mc.state = .idle ∧ scheduled) →
          t.switch.active = s.switch.active ∧ t.mc = s.mc)
      ∧ t.mc.endFrame = s.mc.endFrame)
    ∧ (∀ (s : State) (order : List Taker), s.freshBoundary →
    let n := s.timing.sfn + 1
    let manager := ∃ owner, s.mc.state = .swapPending n owner
    s.mc.state.rewriting = true ∨ manager →
    ∃ t, exec (.boundary ⟨order, []⟩) s = .next t
      ∧ (s.mc.state.rewriting = true →
          t.switch.active = s.switch.active ∧ t.mc.lastSwap = s.mc.lastSwap)
      ∧ (manager → t.switch.active = s.switch.active.other ∧ t.mc.lastSwap = some n)
      ∧ ∀ e ∈ s.schedule, e.due = n → e.action = .swap → s.notices.mask.getLsbD 3 = true →
          t.notices.shows (.scheduleDone e.tag .swap n .pageBusy))

/-- At a numbered boundary with tx on, the transmit framer begins output frame N from its first bit, with the line's S slots at its W, each filled by the source kind of its entry in the page then active, from the stores and patterns as they then stand; with tx off it is OFF and its pins undriven (R42, R45, R48, R50, R54, R70, R73).

A slot that is a management position when the boundary comes is filled as CONTROL, also where its location is given up at it, by a confirm or a revert (R5, R54; that the frame being built still has CONTROL there is the model's reading, log 17).

A CONTROL slot carries an octet in its upper 8 bits: in the location current after the boundary, slot k of it carries the k-th octet from where the message being sent stands, or from its first octet where a trial ends by revert, then what a message started after its end gives from its first octet on, and idle fill 00h where nothing is being sent; in the pending, the former and the given-up location idle fill (R54, R171, R181). -/
def Obligations.BoundaryBuildsOutputFrames : Prop :=
  ∀ (s : State) (order : List Taker) (line : Line), s.freshBoundary →
    s.linkLaw → s.mapLaw → s.lineLaw →
    (∀ m next, s.link.transmitter = .sending m next → next < m.octets.length) →
    let record := (s.port line).record
    let reverts := s.link.state = .trial ∧ (s.link.lineLost = true ∨ s.link.trialTimer = 1)
    ∃ t, exec (.boundary ⟨order, []⟩) s = .next t
      ∧ (t.port line).record = record ∧ (t.port line).rx = (s.port line).rx
      ∧ (record.txOn = false →
          (t.port line).tx = .off ∧ (t.port line).txSync = .undriven
            ∧ (t.port line).txData = .undriven)
      ∧ (record.txOn = true →
          ∃ slots : List SlotValue,
            (t.port line).tx =
                .sending { number := s.timing.sfn + 1, width := record.width, slots := slots } 0
              ∧ slots.length = record.slots
              ∧ ∀ slot : Slot, slot.val < record.slots →
                  match (if s.management line slot = true then .control
                    else entryAt t.switch.activePage line slot) with
                  | .release => slots[slot.val]? = some .released
                  | .slot l u justify =>
                    slots[slot.val]? =
                      some (.word
                        (match (t.store l).current with
                        | some frame =>
                          convert (s.port l).record.width record.width justify (frame.getD u.val 0)
                        | none =>
                          convert .w32 record.width justify
                            (t.pattern (s.port l).record.lossPattern).present))
                  | .pattern i justify =>
                    slots[slot.val]? =
                      some (.word (convert .w32 record.width justify (t.pattern i).present))
                  | .control =>
                    ∃ octet : Byte,
                      slots[slot.val]? =
                          some (.word (octet.setWidth 32 <<< (record.width.bits - 8)))
                        ∧ (t.link.current.covers line slot = false → octet = 0)
                        ∧ (t.link.current.covers line slot = true →
                          let k := slot.val - t.link.current.first.val
                          let started := fun k : Nat =>
                            (∀ m next, t.link.transmitter = .sending m next →
                                m.octets[k]? = some octet)
                              ∧ ((∀ m next, t.link.transmitter ≠ .sending m next) → octet = 0)
                          (∀ m next, s.link.transmitter = .sending m next →
                              let place := (if reverts then 0 else next) + k
                              (∀ b, m.octets[place]? = some b → octet = b)
                                ∧ (m.octets.length ≤ place → started (place - m.octets.length)))
                            ∧ ((∀ m next, s.link.transmitter ≠ .sending m next) → started k)))

/-- At a numbered boundary an RX probe observes the word of its slot in the frame newly taken at N, and nothing otherwise; in MATCH mode it hits when the masked bits agree, in CHANGE mode when the last sample is present and differs; each hit is counted and the first is captured (R132, R135 to R137).

A TX probe observes its slot's value in output frame N, and hits, counts and captures alike; off the frame or with tx off it observes nothing. No move is pending or in trial here (R133, R135 to R137).

The hit that sets the capture record raises PROBE_MATCH, with the probe, N and the observation: unless that kind is disabled or the notice queue is full, it stands there after the boundary (R137, R189). -/
def Obligations.ProbesObserveOncePerBoundary : Prop :=
  (∀ (s : State) (order : List Taker) (i : ProbeIndex), s.freshBoundary →
    (s.probe i).mode ≠ .off → (s.probe i).side = .rx →
    ∃ t, exec (.boundary ⟨order, []⟩) s = .next t
      ∧ let p := s.probe i
        let e := t.store p.line
        let seen := (e.current.getD []).getD p.slot.val 0
        let observes :=
          p.slot.val < (s.port p.line).record.slots ∧ e.newly = true ∧ e.current.isSome = true
        let hit :=
          (p.mode = .matching ∧ (seen ^^^ p.value) &&& p.mask = 0)
            ∨ (p.mode = .change ∧ p.last.isSome = true ∧ p.last ≠ some (.word seen))
        (¬ observes → t.probe i = p)
          ∧ (observes → ¬ hit → t.probe i = { p with last := some (.word seen) })
          ∧ (observes → hit →
            t.probe i =
              { p with
                last := some (.word seen)
                hits := if p.hits = 0xFFFFFFFF then p.hits else p.hits + 1
                capture :=
                  match p.capture with
                  | some c => some c
                  | none => some { frame := s.timing.sfn + 1, seen := .word seen } }))
    ∧ (∀ (s : State) (order : List Taker) (i : ProbeIndex), s.freshBoundary → s.link.resting →
    (∀ l : Line, (s.port l).record.slots ≤ 64) →
    (s.probe i).mode ≠ .off → (s.probe i).side = .tx →
    let p := s.probe i
    ∃ t, exec (.boundary ⟨order, []⟩) s = .next t
      ∧ ((s.port p.line).record.txOn = false ∨ (s.port p.line).record.slots ≤ p.slot.val →
          t.probe i = p)
      ∧ ((s.port p.line).record.txOn = true → p.slot.val < (s.port p.line).record.slots →
          ∃ frame seen, (t.port p.line).tx = .sending frame 0
            ∧ frame.slots[p.slot.val]? = some seen
            ∧ let hit :=
                (p.mode = .matching ∧ ∃ w, seen = .word w ∧ (w ^^^ p.value) &&& p.mask = 0)
                  ∨ (p.mode = .change ∧ p.last.isSome = true ∧ p.last ≠ some seen)
              (¬ hit → t.probe i = { p with last := some seen })
                ∧ (hit →
                  t.probe i =
                    { p with
                      last := some seen
                      hits := if p.hits = 0xFFFFFFFF then p.hits else p.hits + 1
                      capture :=
                        match p.capture with
                        | some c => some c
                        | none => some { frame := s.timing.sfn + 1, seen := seen } })))
    ∧ (∀ (s : State) (order : List Taker) (i : ProbeIndex), s.freshBoundary →
    (s.probe i).capture = none → s.notices.mask.getLsbD 4 = true →
    ∃ t, exec (.boundary ⟨order, []⟩) s = .next t
      ∧ ∀ record, (t.probe i).capture = some record →
          t.notices.shows (.probeMatch i (s.timing.sfn + 1) record.seen))

/-- While a notice is outstanding its timer falls by 1 at a numbered boundary, whatever the link reads, unless it reads the ack that removes the head; at 0 the head is offered again below four sends, and the unit stalls after the fourth (R194, R196). A stall may end at this same boundary, where the link reads a good message after the timer has reached 0 (R196, R197). A location is at most four slots wide (R164), so a send begun at this boundary does not end at it.

RETRANSMIT_TIMEOUT: the timer of an outstanding notice reaches 0; below four sends the head is offered again, at four the unit is STALLED; nothing else of the part changes (R196; that the Notice Unit takes the boundary ahead of the others, and the record of it, is log 6). -/
def Obligations.RetransmitTimer : Prop :=
  (∀ (s : State) (order : List Taker), s.freshBoundary →
    s.sendLaw → (∀ loc ∈ s.link.locations, loc.width ≤ 4) → s.notices.state = .outstanding →
    s.takeStores.headParts.readFrame.notices.state = .outstanding →
    let stalled :=
      { s.takeStores with notices := { s.notices with timer := 0, state := .stalled } }
    let released := stalled.headParts.readFrame.notices.state = .waiting
    ∃ t, exec (.boundary ⟨order, []⟩) s = .next t
      ∧ (1 < s.notices.timer →
          t.notices.state = .outstanding ∧ t.notices.timer = s.notices.timer - 1
            ∧ t.notices.sendCount = s.notices.sendCount)
      ∧ (s.notices.timer = 1 → t.notices.timer = 0)
      ∧ (s.notices.timer = 1 → s.notices.sendCount < 4 →
          t.notices.state = .waiting ∧ t.notices.sendCount = s.notices.sendCount)
      ∧ (s.notices.timer = 1 → 4 ≤ s.notices.sendCount →
          (t.notices.state = .stalled ∧ t.notices.sendCount = s.notices.sendCount)
            ∨ (released ∧ t.notices.state = .waiting ∧ t.notices.sendCount = 0)))
    ∧ (∀ s : State, s.freshBoundary → s.notices.state = .outstanding → s.notices.timer ≤ 1 →
    exec .retransmitTimeout s = .next { s with
      notices :=
        { s.notices with
          timer := 0, state := if s.notices.sendCount < 4 then .waiting else .stalled }
      opening := { closedOpening with isOpen := true } })

/-! ### Shares of a boundary taken ahead -/

/-- COPY_COMPLETE and CLEAR_COMPLETE: the step on line 7 ends the operation: line 7 of the standby page is written, the Map Controller is IDLE, the end frame stays, the final response OK with the page written and the boundary's number fills the reserved place and joins the cache (R25, R28 to R31, R154). That the Map Controller takes the boundary ahead of the others, and the record of it, is the model's choice (log 6). -/
def Obligations.LastStepEndsCopyAndClear : Prop :=
  ∀ (s : State) (owner : Byte), s.freshBoundary →
    let page := s.switch.active.other.code
    let response := fun kind : Byte => ({
      kind := kind, seq := owner, status := .ok
      credit := BitVec.ofNat 8 (4 - s.engine.requests.length)
      data := page :: wordOctets (s.timing.sfn + 1), hold := false } : Response)
    let done := fun (page : Page) (kind : Byte) => { s with
      switch := s.switch.withStandby page
      mc := { s.mc with state := .idle }
      engine := { s.engine.answered s.engine.requests (response kind) with reserved := false }
      opening := { closedOpening with isOpen := true, stepped := true } }
    (s.mc.state = .copying 7 owner →
        ∃ p, exec .copyComplete s = .next (done p 0xA0)
          ∧ ∀ (line : Line) (slot : Slot),
              entryAt p line slot =
                if line = 7 then entryAt s.switch.activePage line slot
                else entryAt s.switch.standbyPage line slot)
      ∧ (s.mc.state = .clearing 7 owner →
        ∃ p, exec .clearComplete s = .next (done p 0xA1)
          ∧ ∀ (line : Line) (slot : Slot),
              entryAt p line slot =
                if line = 7 then
                  (if s.management line slot = true then .control else .release)
                else entryAt s.switch.standbyPage line slot)

/-- TAKE_PENDING_SWAP: at the target boundary the indicator changes to the standby page, last swap frame becomes N, the Map Controller is IDLE, and the final response OK with N and the page now active fills the reserved place (R25, R34, R154). That the Map Controller takes the boundary ahead of the others, and the record of it, is the model's choice (log 6). -/
def Obligations.PendingSwapTakesEffect : Prop :=
  ∀ (s : State) (owner : Byte), s.freshBoundary →
    s.mc.state = .swapPending (s.timing.sfn + 1) owner →
    let n := s.timing.sfn + 1
    exec .takePendingSwap s = .next { s with
      switch := { s.switch with active := s.switch.active.other }
      mc := { s.mc with state := .idle, lastSwap := some n }
      engine :=
        { s.engine.answered s.engine.requests
            { kind := 0xA2, seq := owner, status := .ok
              credit := BitVec.ofNat 8 (4 - s.engine.requests.length)
              data := wordOctets n ++ [s.switch.active.other.code], hold := false } with
          reserved := false }
      opening := { closedOpening with isOpen := true, swapped := true } }

/-- SCHEDULE_FIRING with one entry due: the entry leaves the list; a SWAP is carried out when the Map Controller is IDLE and refused otherwise, a PATTERN sets its present value; SCHEDULE_DONE reports it. In the same act the Timing Unit takes the boundary, as BOUNDARY has it do, and raises REFERENCE when its evaluation changes the selector (R36, R37, R108, R121 to R124).

Two SWAP entries due at one boundary: the first takes effect, the second is refused with PAGE_BUSY, in list order (R36, R122, R124).

BOUNDARY, whatever the order: the entries due leave the list and the others stay in their order; each one due raises its SCHEDULE_DONE, which stands in the notice queue after the boundary unless that kind is disabled or the queue is full: DONE for every PATTERN and for the first SWAP where the Map Controller was IDLE, PAGE_BUSY for every other SWAP (R36, R121 to R124).

That the Timing Unit takes the boundary ahead of the others in SCHEDULE_FIRING, SCHEDULE_DONE before REFERENCE, and the record of it, is the model's choice (log 6). -/
def Obligations.DueEntriesFire : Prop :=
  (∀ (s : State) (order : List Taker) (e : ScheduleEntry), s.freshBoundary →
    let n := s.timing.sfn + 1
    (s.schedule.filter fun x => x.due = n) = [e] →
    ∃ u, exec (.boundary ⟨order, []⟩) s = .next u ∧
    let judged := fun notices : NoticeUnit =>
      if u.timing.selector = s.timing.selector then notices
      else
        notices.raise
          (.reference s.timing.selector.name u.timing.selector.name
            (match u.timing.selector.line, s.timing.selector.line with
            | some line, _ => line
            | none, some line => line
            | none, none => 0)
            n)
    let taken := { s with
      schedule := s.schedule.filter fun x => x.due ≠ n
      timing := u.timing
      opening :=
        { closedOpening with
          isOpen := true, timingDone := true
          lock :=
            if s.timing.stall = true ∨ s.timing.offLine.isSome = true then none
            else s.timing.lockPending } }
    (e.action = .swap → s.mc.state = .idle →
        exec .scheduleFiring s = .next { taken with
          switch := { s.switch with active := s.switch.active.other }
          mc := { s.mc with lastSwap := some n }
          notices := judged (s.notices.raise (.scheduleDone e.tag .swap n .done))
          opening := { taken.opening with swapped := true } })
      ∧ (e.action = .swap → s.mc.state ≠ .idle →
        exec .scheduleFiring s = .next { taken with
          notices := judged (s.notices.raise (.scheduleDone e.tag .swap n .pageBusy)) })
      ∧ (∀ i v, e.action = .pattern i v →
        exec .scheduleFiring s = .next { taken with
          switch :=
            { s.switch with patterns := s.switch.patterns.set i { present := v, pending := none } }
          notices := judged (s.notices.raise (.scheduleDone e.tag .pattern n .done)) }))
    ∧ (∀ (s : State) (a b : ScheduleEntry), s.freshBoundary →
    let n := s.timing.sfn + 1
    (s.schedule.filter fun x => x.due = n) = [a, b] → a.action = .swap → b.action = .swap →
    s.mc.state = .idle →
    ∃ t, exec .scheduleFiring s = .next t
      ∧ t.switch.active = s.switch.active.other ∧ t.mc.lastSwap = some n
      ∧ t.schedule = s.schedule.filter (fun x => x.due ≠ n) ∧ t.timing.sfn = n
      ∧ (t.timing.selector = s.timing.selector →
          t.notices = (s.notices.raise (.scheduleDone a.tag .swap n .done)).raise
            (.scheduleDone b.tag .swap n .pageBusy)))
    ∧ (∀ (s : State) (order : List Taker), s.freshBoundary →
    let n := s.timing.sfn + 1
    let fired := s.schedule.filter fun x => x.due = n
    let swaps := fired.filter fun x => x.action = .swap
    ∃ t, exec (.boundary ⟨order, []⟩) s = .next t ∧
    let reported := fun (e : ScheduleEntry) (kind : ActionKind) (outcome : FiredOutcome) =>
      s.notices.mask.getLsbD 3 = true → t.notices.shows (.scheduleDone e.tag kind n outcome)
    t.schedule = s.schedule.filter (fun x => x.due ≠ n)
      ∧ (∀ e ∈ fired, ∀ i v, e.action = .pattern i v → reported e .pattern .done)
      ∧ (∀ e rest, s.mc.state = .idle → swaps = e :: rest →
          reported e .swap .done ∧ ∀ x ∈ rest, reported x .swap .pageBusy)
      ∧ (s.mc.state ≠ .idle → ∀ e ∈ swaps, reported e .swap .pageBusy))

/-- CHANNEL_SWITCH at the switch boundary with the mark clear: the pending location becomes current and the current one former, TRIAL begins with the timer at 4096, the receiver hunts, the transmitter is FREE, the executor READY, and neither page is written; then the link reads and fills the new location at this same boundary (R165, R177).

CHANNEL_SWITCH at the switch boundary with the mark set: the pending location is given up and its positions become RELEASE, the link stays on the current location, CHANNEL(reverted, LINE_LOST) is raised; then the link reads and fills the current location (R165, R177, R180).

BOUNDARY at the switch boundary, whatever the order: it leaves the link on the pending location in TRIAL with the timer at 4096, the mark clear, the pages unwritten; or with the mark set SETTLED on the current location, the pending one given up and CHANNEL(reverted, LINE_LOST) in the notice queue unless that kind is disabled or the queue is full. The executor is READY, the transmitter STOPPED no more. A location is at most four slots wide (R164), so no message is complete in the octets read or placed at this boundary (R165, R177, R180).

That CHANNEL_SWITCH takes the link's act ahead of the others but for the stores, and the record of it, is the model's choice (log 6). -/
def Obligations.ChannelSwitches : Prop :=
  (∀ (s : State) (pending : Location), s.freshBoundary → s.link.state = .settled →
    s.link.pendingMove = some pending → s.link.transmitter = .stopped → s.link.lineLost = false →
    let u := { s.takeStores with
      link :=
        { s.link with
          current := pending, former := some s.link.current, pendingMove := none
          state := .trial, trialTimer := 4096, receiver := .hunt, transmitter := .free }
      engine := { s.engine with executor := .ready } }
    exec .channelSwitch s = .next u.readFrame.fillFrame.linkTaken)
    ∧ (∀ (s : State) (pending : Location), s.freshBoundary → s.link.state = .settled →
    s.link.pendingMove = some pending → s.link.transmitter = .stopped → s.link.lineLost = true →
    let b := s.takeStores
    ∃ u : State, exec .channelSwitch s = .next u.readFrame.fillFrame.linkTaken
      ∧ u.link =
        { s.link with
          pendingMove := none, former := none, lineLost := false, trialTimer := 0
          receiver := .hunt, transmitter := .free }
      ∧ u.engine = { s.engine with executor := .ready }
      ∧ u.notices = b.notices.raise (.channel true .lineLost s.link.current)
      ∧ (∀ (name : PageName) (line : Line) (slot : Slot),
          entryAt (u.switch.page name) line slot =
            if pending.covers line slot = true ∧ s.link.current.covers line slot = false then .release
            else entryAt (s.switch.page name) line slot)
      ∧ u.switch.active = s.switch.active ∧ u.switch.patterns = s.switch.patterns
      ∧ u.ports = s.ports ∧ u.stores = b.stores ∧ u.timing = s.timing
      ∧ u.schedule = s.schedule ∧ u.mc = s.mc ∧ u.probes = s.probes
      ∧ u.opening = { b.opening with givenUp := some pending })
    ∧ (∀ (s : State) (order : List Taker) (pending : Location), s.freshBoundary →
    s.link.state = .settled → s.link.pendingMove = some pending → s.link.transmitter = .stopped →
    s.link.current.width ≤ 4 → pending.width ≤ 4 →
    ∃ t, exec (.boundary ⟨order, []⟩) s = .next t
      ∧ t.engine.executor = .ready ∧ t.link.transmitter ≠ .stopped
      ∧ (s.link.lineLost = false →
          t.link.current = pending ∧ t.link.former = some s.link.current
            ∧ t.link.pendingMove = none ∧ t.link.state = .trial ∧ t.link.trialTimer = 4096
            ∧ t.link.lineLost = false
            ∧ (s.mc.state.rewriting = false →
              t.switch.pageA = s.switch.pageA ∧ t.switch.pageB = s.switch.pageB))
      ∧ (s.link.lineLost = true →
          t.link.restsOn s.link.current ∧ s.givesUp t pending s.link.current
            ∧ (s.notices.mask.getLsbD 5 = true →
              t.notices.shows (.channel true .lineLost s.link.current))))

/-- TRIAL_TIMEOUT and LINE_LOST_REVERT: the former location becomes current, the positions given up become RELEASE in both pages, the receiver hunts, a message begun is sent again from its first octet, CHANNEL(reverted) is raised with the reason; then the link reads and fills the restored location at this same boundary (R165, R178, R180, R181).

BOUNDARY at such a boundary, whatever the order: it leaves the link SETTLED on the former location, the current one given up, the executor as it was, and CHANNEL(reverted) with the reason in the notice queue unless that kind is disabled or the queue is full (R165, R178, R180).

That one of the two rows takes the link's act, and so that the link takes the boundary ahead of the others but for the stores, and the record of it, is the model's choice (log 6). -/
def Obligations.TrialEndsByRevert : Prop :=
  (∀ (s : State) (former : Location), s.freshBoundary → s.link.state = .trial →
    s.link.pendingMove = none → s.link.former = some former →
    let b := s.takeStores
    let reverted := fun (reason : MoveReason) (u : State) =>
      u.link =
          { s.link with
            current := former, state := .settled, former := none, lineLost := false
            trialTimer := 0, receiver := .hunt
            transmitter :=
              match s.link.transmitter with
              | .sending m _ => .sending m 0
              | other => other }
        ∧ u.notices = b.notices.raise (.channel true reason former)
        ∧ (∀ (name : PageName) (line : Line) (slot : Slot),
            entryAt (u.switch.page name) line slot =
              if s.link.current.covers line slot = true ∧ former.covers line slot = false then
                .release
              else entryAt (s.switch.page name) line slot)
        ∧ u.switch.active = s.switch.active ∧ u.switch.patterns = s.switch.patterns
        ∧ u.ports = s.ports ∧ u.stores = b.stores ∧ u.timing = s.timing
        ∧ u.schedule = s.schedule ∧ u.mc = s.mc ∧ u.probes = s.probes ∧ u.engine = s.engine
        ∧ u.opening = { b.opening with givenUp := some s.link.current }
    (s.link.lineLost = false → s.link.trialTimer = 1 →
        ∃ u : State, exec .trialTimeout s = .next u.readFrame.fillFrame.linkTaken ∧ reverted .timeout u)
      ∧ (s.link.lineLost = true →
        ∃ u : State, exec .lineLostRevert s = .next u.readFrame.fillFrame.linkTaken
          ∧ reverted .lineLost u))
    ∧ (∀ (s : State) (order : List Taker) (former : Location), s.freshBoundary →
    s.link.state = .trial → s.link.former = some former →
    s.link.lineLost = true ∨ s.link.trialTimer = 1 →
    let reason := if s.link.lineLost = true then MoveReason.lineLost else .timeout
    ∃ t, exec (.boundary ⟨order, []⟩) s = .next t
      ∧ t.link.restsOn former ∧ t.engine.executor = s.engine.executor
      ∧ s.givesUp t s.link.current former
      ∧ (s.notices.mask.getLsbD 5 = true → t.notices.shows (.channel true reason former)))

/-- REQUEST_INTAKE at a boundary at which the link reads a frame and neither switches nor reverts: the message is discarded, answered from the cache, dropped and counted, appended, answered QUEUE_FULL, or dropped and counted, by the first step that applies; a hold or a trial changes none of this (R144, R145, R150, R170). With no trial a stall ends, and nothing else changes but the receiver, which hunts (R197). Then the link fills its slots (R165).

At a boundary at which it reads no frame, switches or reverts, no message is delivered: the command changes nothing (R166, R169, R179; that it then leaves the state alone is log 2).

That the command delivers a whole message in any state of the receiver is the model's choice (log 7), and so is that the link takes the boundary ahead of the others but for the stores (log 6). -/
def Obligations.IntakeClassifiesBySeq : Prop :=
  (∀ (s : State) (seq kind : Byte) (payload : List Byte), s.freshBoundary → s.link.steady →
    (s.takenFrame s.link.current.line).isSome = true →
    1 ≤ kind.toNat → kind.toNat ≤ 0x3F → payload.length ≤ 60 →
    let b := s.takeStores
    let q := s.engine
    let place := q.responses.length + (if q.reserved then 1 else 0) < 6
    let credit : Byte := BitVec.ofNat 8 (4 - q.requests.length)
    let answering := seq ∈ q.responses.map Response.seq
    let working := seq ∈ q.requests.map Request.seq ∨ s.mc.state.owner = some seq
    ∃ u : State, exec (.requestIntake seq kind payload) s = .next u.fillFrame.linkTaken
      ∧ (answering ∨ working → u.engine = q)
      ∧ (∀ c, ¬ answering → ¬ working → q.cache.find? (fun x => x.seq = seq) = some c → place →
          u.engine =
            { q with responses := q.responses ++ [{ c with credit := credit, hold := false }] })
      ∧ (∀ c, ¬ answering → ¬ working → q.cache.find? (fun x => x.seq = seq) = some c → ¬ place →
          u.engine =
            { q with droppedResends := BitVec.ofNat 16 (min 65535 (q.droppedResends.toNat + 1)) })
      ∧ (¬ answering → ¬ working → seq ∉ q.cache.map Response.seq →
          (q.requests.length < 4 →
              u.engine =
                { q with
                  requests := q.requests ++ [{ seq := seq, kind := kind, payload := payload }] })
            ∧ (4 ≤ q.requests.length → place →
              u.engine =
                { q with
                  responses := q.responses ++
                    [{ kind := kind + 0x80, seq := seq, status := .queueFull, credit := 0
                       data := [0], hold := false }] })
            ∧ (4 ≤ q.requests.length → ¬ place →
              u.engine =
                { q with
                  droppedRequests := BitVec.ofNat 16 (min 65535 (q.droppedRequests.toNat + 1)) }))
      ∧ (s.link.state = .settled →
          u.notices =
              (if b.notices.state = .stalled then { b.notices with sendCount := 0, state := .waiting }
              else b.notices)
            ∧ u.link = { s.link with receiver := .hunt } ∧ u.switch = s.switch
            ∧ u.opening = b.opening)
      ∧ u.ports = s.ports ∧ u.stores = b.stores ∧ u.timing = s.timing ∧ u.schedule = s.schedule
      ∧ u.mc = s.mc ∧ u.probes = s.probes)
    ∧ (∀ (s : State) (seq kind : Byte) (payload : List Byte), s.freshBoundary →
    ¬ s.link.steady ∨ s.takenFrame s.link.current.line = none →
    exec (.requestIntake seq kind payload) s = .next s ∧ exec (.noticeAck seq) s = .next s
      ∧ exec (.foreignKind kind) s = .next s)

/-- In TRIAL a delivered request or Notice Ack confirms the move: the former location goes and its positions become RELEASE in both pages, the link is SETTLED, CHANNEL(moved, CONFIRMED) is raised; and then the Notice Unit learns of the message, whatever its state: an ack of the outstanding or stalled head removes it, any other message ends a stall (R5, R170, R179, R195, R197). Then the link fills its slots (R165). A foreign kind does not confirm: it is counted, and nothing else of the trial changes but its timer (R170, R178, R179, R183).

BOUNDARY in a trial that does not end by revert, whatever the order: unless the octets it reads bring a good message the trial goes on with the timer 1 lower, and always where it reads no frame; a good message, such as one whose last check octet is the first octet read, confirms the move as above, CHANNEL(moved, CONFIRMED) standing in the notice queue unless that kind is disabled or the queue is full. The executor stays as it was (R165, R169, R178, R179).

That the commands of a message deliver it whole in any state of the receiver is the model's choice (log 7), and so is that the link takes the boundary ahead of the others but for the stores (log 6). -/
def Obligations.GoodMessageConfirmsTheTrial : Prop :=
  (∀ (s : State) (former : Location) (seq kind : Byte) (payload : List Byte), s.freshBoundary →
    s.link.state = .trial → s.link.pendingMove = none → s.link.former = some former →
    s.link.lineLost = false → 1 < s.link.trialTimer →
    (s.takenFrame s.link.current.line).isSome = true →
    1 ≤ kind.toNat → kind.toNat ≤ 0x3F → payload.length ≤ 60 →
    let b := s.takeStores
    let n := b.notices.raise (.channel false .confirmed s.link.current)
    let released := if n.state = .stalled then { n with sendCount := 0, state := .waiting } else n
    let rest := n.queue.drop 1
    let acked : NoticeUnit :=
      { n with
        queue :=
          if n.lost = 0 then rest else rest ++ [{ event := .eventsLost n.lost, number := none }]
        lost := 0, timer := 0, sendCount := 0
        state := if n.lost = 0 ∧ rest = [] then .idle else .waiting }
    let confirmed := fun u : State =>
      u.link =
          { s.link with state := .settled, former := none, trialTimer := 0, receiver := .hunt }
        ∧ (∀ (name : PageName) (line : Line) (slot : Slot),
            entryAt (u.switch.page name) line slot =
              if former.covers line slot = true ∧ s.link.current.covers line slot = false then
                .release
              else entryAt (s.switch.page name) line slot)
        ∧ u.switch.active = s.switch.active ∧ u.switch.patterns = s.switch.patterns
        ∧ u.mc = s.mc ∧ u.ports = s.ports ∧ u.stores = b.stores ∧ u.timing = s.timing
        ∧ u.schedule = s.schedule ∧ u.probes = s.probes
        ∧ u.opening = { b.opening with givenUp := some former }
    (∃ u : State, exec (.requestIntake seq kind payload) s = .next u.fillFrame.linkTaken
        ∧ confirmed u ∧ u.notices = released)
      ∧ ∃ u : State, exec (.noticeAck seq) s = .next u.fillFrame.linkTaken
        ∧ confirmed u ∧ u.engine = s.engine
        ∧ ((n.state = .outstanding ∨ n.state = .stalled) ∧ n.headNumber = some seq →
            u.notices = acked)
        ∧ (¬ ((n.state = .outstanding ∨ n.state = .stalled) ∧ n.headNumber = some seq) →
            u.notices = released))
    ∧ (∀ (s : State) (kind : Byte), s.freshBoundary → s.link.state = .trial →
    s.link.lineLost = false → 1 < s.link.trialTimer →
    (s.takenFrame s.link.current.line).isSome = true → kind = 0 ∨ 0x3F < kind.toNat → kind ≠ 0x60 →
    let u := { s.takeStores with
      link :=
        { s.link with
          trialTimer := s.link.trialTimer - 1, receiver := .hunt
          foreignKinds := BitVec.ofNat 16 (min 65535 (s.link.foreignKinds.toNat + 1)) } }
    exec (.foreignKind kind) s = .next u.fillFrame.linkTaken)
    ∧ (∀ (s : State) (order : List Taker) (former : Location), s.freshBoundary →
    s.link.state = .trial → s.link.pendingMove = none → s.link.former = some former →
    s.link.lineLost = false → 1 < s.link.trialTimer →
    let loc := s.link.current
    let goesOn := s.takeStores.headParts.readFrame.link.state = .trial
    ∃ t, exec (.boundary ⟨order, []⟩) s = .next t ∧ t.engine.executor = s.engine.executor
      ∧ (goesOn →
          t.link.current = loc ∧ t.link.former = some former ∧ t.link.pendingMove = none
            ∧ t.link.state = .trial ∧ t.link.lineLost = false
            ∧ t.link.trialTimer = s.link.trialTimer - 1)
      ∧ (¬ goesOn →
          t.link.restsOn loc ∧ s.givesUp t former loc
            ∧ (s.notices.mask.getLsbD 5 = true →
              t.notices.shows (.channel false .confirmed loc)))
      ∧ (s.takenFrame loc.line = none → goesOn)
      ∧ ∀ (frame : InputFrame) (len seq kind high : Byte) (payload : List Byte),
          s.takenFrame loc.line = some frame → 1 ≤ loc.width → loc.first.val < frame.length →
          s.link.receiver = .check len (seq :: kind :: payload) (some high) →
          let low : Byte :=
            ((frame.getD loc.first.val 0)
              >>> ((s.port loc.line).record.width.bits - 8)).setWidth 8
          high ++ low = crc (len :: seq :: kind :: payload) →
          (1 ≤ kind.toNat ∧ kind.toNat ≤ 0x3F) ∨ kind = 0x60 → ¬ goesOn)

/-- NOTICE_ACK in SETTLED, during the hold of a move too, at a boundary at which the link reads a frame and does not switch: the outstanding or stalled head with this number is removed, EVENTS_LOST taking its place when events were lost; any other ack ends a stall and is otherwise ignored; the link's receiver hunts. Then the link fills its slots (R165, R191, R195, R197).

FOREIGN_KIND there: a KIND that is no request kind and not Notice Ack is discarded and counted, and a stall does not end (R170, R183, R197).

That the command delivers a whole message in any state of the receiver is the model's choice (log 7), and so is that the link takes the boundary ahead of the others but for the stores (log 6). -/
def Obligations.AcksAndForeignKinds : Prop :=
  (∀ (s : State) (seq : Byte), s.freshBoundary → s.link.state = .settled → s.link.steady →
    (s.takenFrame s.link.current.line).isSome = true →
    let b := s.takeStores
    let n := b.notices
    let rest := n.queue.drop 1
    let after := fun n' : NoticeUnit =>
      let u := { b with notices := n', link := { s.link with receiver := .hunt } }
      exec (.noticeAck seq) s = .next u.fillFrame.linkTaken
    (n.state = .outstanding ∨ n.state = .stalled → n.headNumber = some seq →
        (n.lost = 0 →
            after { n with
              queue := rest, timer := 0, sendCount := 0
              state := if rest = [] then .idle else .waiting })
          ∧ (n.lost ≠ 0 →
            after { n with
              queue := rest ++ [{ event := .eventsLost n.lost, number := none }], timer := 0
              sendCount := 0, lost := 0, state := .waiting }))
      ∧ (n.state = .stalled → n.headNumber ≠ some seq →
          after { n with sendCount := 0, state := .waiting })
      ∧ (n.state = .outstanding → n.headNumber ≠ some seq → after n)
      ∧ (n.state = .idle ∨ n.state = .waiting → after n))
    ∧ (∀ (s : State) (kind : Byte), s.freshBoundary → s.link.state = .settled → s.link.steady →
    (s.takenFrame s.link.current.line).isSome = true → kind = 0 ∨ 0x3F < kind.toNat → kind ≠ 0x60 →
    let u := { s.takeStores with
      link :=
        { s.link with
          receiver := .hunt
          foreignKinds := BitVec.ofNat 16 (min 65535 (s.link.foreignKinds.toNat + 1)) } }
    exec (.foreignKind kind) s = .next u.fillFrame.linkTaken)

/-- MESSAGE_END, where the link neither switches nor reverts, also with a move pending or in trial: the frame is read, and then the rest of the message is placed in the first slots of the frame being built; a response leaves its queue, a notice becomes OUTSTANDING with one more send and its timer set; a hold mark stops the transmitter; then the slots left are filled (R165, R171, R172, R174, R194). That the link takes the boundary ahead of the others but for the stores, and the record of it, is the model's choice (log 6).

Filling one slot, whatever the state: SENDING places the next octet of its message; the last octet ends the message in the same act; STOPPED, and FREE with nothing to send, place idle fill 00h (R171, R172, R174).

FREE with something to send starts it and places its first octet: the head response, unless a notice waits too and four responses were started since the last one, else the waiting head notice. Starting a response counts it; starting a notice clears the count and gives a never-sent record the next notice number, which is the message's SEQ (R152, R173, R193, R205).

Filling a frame fills as many slots as the current location is wide (R171). -/
def Obligations.LastOctetEndsTheMessage : Prop :=
  (∀ (s : State) (m : OutMessage) (next : Nat), s.freshBoundary → s.link.steady →
    s.link.transmitter = .sending m next →
    next < m.octets.length → m.octets.length - next ≤ s.link.current.width →
    let timer := if s.link.state = .trial then s.link.trialTimer - 1 else s.link.trialTimer
    let b := State.readFrame { s.takeStores with link := { s.link with trialTimer := timer } }
    let u := { b with
      link := { b.link with transmitter := if m.hold then .stopped else .free }
      engine :=
        match m.owner with
        | .response => { b.engine with responses := b.engine.responses.drop 1 }
        | .notice => b.engine
      notices :=
        match m.owner with
        | .response => b.notices
        | .notice =>
          { b.notices with
            state := .outstanding, sendCount := b.notices.sendCount + 1
            timer := b.notices.interval }
      opening :=
        { b.opening with
          noticeEnded := decide (m.owner = .notice), placed := m.octets.drop next } }
    exec .messageEnd s =
      .next (State.fillSlots (s.link.current.width - (m.octets.length - next)) u).linkTaken)
    ∧ (∀ s : State,
    let idle := { s with opening := { s.opening with placed := s.opening.placed ++ [0] } }
    (∀ m next octet, s.link.transmitter = .sending m next → m.octets[next]? = some octet →
        let put := { s with opening := { s.opening with placed := s.opening.placed ++ [octet] } }
        (next + 1 < m.octets.length →
            s.fillSlot = { put with link := { s.link with transmitter := .sending m (next + 1) } })
          ∧ (next + 1 = m.octets.length →
            let freed := { put with
              link := { s.link with transmitter := if m.hold then .stopped else .free } }
            (m.owner = .response →
                s.fillSlot = { freed with
                  engine := { s.engine with responses := s.engine.responses.drop 1 } })
              ∧ (m.owner = .notice →
                s.fillSlot = { freed with
                  notices :=
                    { s.notices with
                      state := .outstanding, sendCount := s.notices.sendCount + 1
                      timer := s.notices.interval }
                  opening := { put.opening with noticeEnded := true } })))
      ∧ (s.link.transmitter = .stopped → s.fillSlot = idle)
      ∧ (s.link.transmitter = .free → s.engine.responses = [] →
          ¬ (s.notices.state = .waiting ∧ s.notices.queue ≠ []) → s.fillSlot = idle))
    ∧ (∀ s : State, s.link.transmitter = .free →
    let offered := s.notices.state = .waiting ∧ s.notices.queue ≠ []
    (∀ r rest, s.engine.responses = r :: rest → ¬ offered ∨ s.link.inARow < 4 →
        s.fillSlot = State.fillSlot { s with
          link :=
            { s.link with
              transmitter := .sending
                { owner := .response, hold := r.hold
                  octets := messageOctets r.seq r.kind (r.status.code :: r.credit :: r.data) } 0
              inARow := min 4 (s.link.inARow + 1) } })
      ∧ (∀ r rest, s.notices.queue = r :: rest → s.notices.state = .waiting →
          s.engine.responses = [] ∨ 4 ≤ s.link.inARow →
          let started := fun (number : Byte) (n : NoticeUnit) =>
            s.fillSlot = State.fillSlot { s with
              notices := n
              link :=
                { s.link with
                  transmitter := .sending
                    { owner := .notice, hold := false
                      octets := messageOctets number r.event.kind r.event.payload } 0
                  inARow := 0 } }
          (∀ number, r.number = some number → started number s.notices)
            ∧ (r.number = none →
              started s.notices.nextNumber
                { s.notices with
                  queue := { r with number := some s.notices.nextNumber } :: rest
                  nextNumber := s.notices.nextNumber + 1 })))
    ∧ ∀ s : State, s.fillFrame = State.fillSlots s.link.current.width s
      ∧ State.fillSlots 0 s = s ∧ ∀ n, State.fillSlots (n + 1) s = State.fillSlots n s.fillSlot

/-- An event reaching the Notice Unit: discarded when its kind is disabled; merged when it is a SLIP and its line has a never-sent SLIP record; else appended while there is room, IDLE becoming WAITING; else counted as lost (R189, R190).

Each event has the kind and, as its notice's payload, the fields of its rule, a line, slot, tag or probe as one octet (R187, R205); bits 0 to 5 of the mask stand for the kinds C2h to C7h, and C1h and C8h cannot be disabled (R187, R203). -/
def Obligations.EventsReachTheNoticeQueue : Prop :=
  (∀ (n : NoticeUnit) (e : Event),
    (e.enabled n.mask = false → n.raise e = n)
      ∧ (e.enabled n.mask = true →
        (∀ line a d f a' d' f' before after,
            e = .slip line a d f →
            n.queue = before ++ { event := .slip line a' d' f', number := none } :: after →
            (∀ r ∈ before, r.openSlip line = false) →
            n.raise e =
              { n with
                queue := before ++
                  { event :=
                      .slip line (BitVec.ofNat 16 (min 65535 (a'.toNat + a.toNat)))
                        (BitVec.ofNat 16 (min 65535 (d'.toNat + d.toNat))) f'
                    number := none } :: after })
          ∧ ((∀ line a d f, e = .slip line a d f → ∀ r ∈ n.queue, r.openSlip line = false) →
            (n.queue.length < 16 →
                n.raise e =
                  { n with
                    queue := n.queue ++ [{ event := e, number := none }]
                    state := if n.state = .idle then .waiting else n.state })
              ∧ (16 ≤ n.queue.length →
                n.raise e = { n with lost := BitVec.ofNat 16 (min 65535 (n.lost.toNat + 1)) }))))
    ∧ ∀ (mask : Byte) (e : Event),
      let is := fun (kind : Byte) (payload : List Byte) (enabled : Bool) =>
        e.kind = kind ∧ e.payload = payload ∧ e.enabled mask = enabled
      match e with
      | .restarted cause => is 0xC1 [match cause with | .powerOrPin => 0 | .request => 1] true
      | .alignment line gained frame =>
        is 0xC2 ([BitVec.ofNat 8 line.val, if gained then 1 else 0] ++ wordOctets frame)
          (mask.getLsbD 0)
      | .slip line repeats deletes first =>
        is 0xC3
          ([BitVec.ofNat 8 line.val] ++ halfOctets repeats ++ halfOctets deletes ++ wordOctets first)
          (mask.getLsbD 1)
      | .reference before after line frame =>
        is 0xC4 ([before.code, after.code, BitVec.ofNat 8 line.val] ++ wordOctets frame)
          (mask.getLsbD 2)
      | .scheduleDone tag action frame outcome =>
        is 0xC5
          ([BitVec.ofNat 8 tag, match action with | .swap => 0 | .pattern => 1] ++ wordOctets frame
            ++ [match outcome with | .done => 0 | .pageBusy => 1])
          (mask.getLsbD 3)
      | .probeMatch probe frame seen =>
        is 0xC6
          ([BitVec.ofNat 8 probe.val] ++ wordOctets frame
            ++ (match seen with | .word w => 1 :: wordOctets w | .released => [2, 0, 0, 0, 0]))
          (mask.getLsbD 4)
      | .channel reverted reason loc =>
        is 0xC7
          [if reverted then 1 else 0,
            match reason with | .confirmed => 0 | .timeout => 1 | .lineLost => 2,
            BitVec.ofNat 8 loc.line.val, BitVec.ofNat 8 loc.first.val, BitVec.ofNat 8 loc.width]
          (mask.getLsbD 5)
      | .eventsLost count => is 0xC8 (halfOctets count) true

/-! ### The message frame -/

/-- CHECK over the nine octets 31h to 39h is 29B1h, and a message is lead-in, LEN, SEQ, KIND, payload and CHECK over LEN to the last payload octet, high octet first (R167). -/
def Obligations.MessagesCarryTheirCheck : Prop :=
  crc [0x31, 0x32, 0x33, 0x34, 0x35, 0x36, 0x37, 0x38, 0x39] = 0x29B1
    ∧ ∀ (seq kind : Byte) (payload : List Byte),
        let covered := BitVec.ofNat 8 (payload.length + 2) :: seq :: kind :: payload
        ∃ high low : Byte,
          high ++ low = crc covered
            ∧ messageOctets seq kind payload = 0xD5 :: covered ++ [high, low]

/-- The receiver, hunting, reads back every message the part can send: its octets, taken one at a time, deliver exactly its SEQ, KIND and payload and leave the receiver hunting (R167 to R170).

At a boundary the link takes one octet from each slot of the current location in the newly taken frame, in slot order: the upper 8 bits of the slot's word; from a frame not newly taken it takes none (R89, R166).

A BOUNDARY in the middle of a message with no move pending: the receiver in BODY goes on with those octets (R165, R166, R168). -/
def Obligations.ReceiverReadsEveryMessage : Prop :=
  (∀ (s : State) (seq kind : Byte) (payload : List Byte),
    s.link.receiver = .hunt → payload.length ≤ 60 →
    (messageOctets seq kind payload).foldl State.receive s = s.deliver seq kind payload)
    ∧ (∀ s : State,
    let loc := s.link.current
    let e := s.store loc.line
    let width := (s.port loc.line).record.width
    (e.newly = false ∨ e.current = none → s.readFrame = s)
      ∧ (∀ frame, e.newly = true → e.current = some frame →
          loc.first.val + loc.width ≤ frame.length →
          s.readFrame =
            ((List.range loc.width).map fun k =>
              ((frame.getD (loc.first.val + k) 0) >>> (width.bits - 8)).setWidth 8).foldl
                State.receive s))
    ∧ (∀ (s : State) (order : List Taker) (frame : InputFrame) (len : Byte) (octets : List Byte),
    s.freshBoundary → s.link.resting →
    let loc := s.link.current
    s.takenFrame loc.line = some frame → loc.first.val + loc.width ≤ frame.length →
    s.link.receiver = .body len octets → octets.length + loc.width < len.toNat →
    ∃ t, exec (.boundary ⟨order, []⟩) s = .next t
      ∧ t.link.receiver =
        .body len (octets ++ (List.range loc.width).map fun k =>
          ((frame.getD (loc.first.val + k) 0)
            >>> ((s.port loc.line).record.width.bits - 8)).setWidth 8))

/-- A message whose two check octets disagree with its CRC is counted as a check error and delivered nowhere (R169, R183).

The receiver hunting drops every octet but the lead-in D5h; in LENGTH an octet outside 2 to 62 is counted and it hunts again (R168, R183). -/
def Obligations.ReceiverCountsDamage : Prop :=
  (∀ (s : State) (body : List Byte) (high low : Byte),
    s.link.receiver = .hunt → 2 ≤ body.length → body.length ≤ 62 →
    high ++ low ≠ crc (BitVec.ofNat 8 body.length :: body) →
    (0xD5 :: BitVec.ofNat 8 body.length :: body ++ [high, low]).foldl State.receive s =
      { s with
        link :=
          { s.link with
            checkErrors := BitVec.ofNat 16 (min 65535 (s.link.checkErrors.toNat + 1)) } })
    ∧ (∀ (s : State) (b : Byte),
    (s.link.receiver = .hunt → b ≠ 0xD5 → s.receive b = s)
      ∧ (s.link.receiver = .hunt → b = 0xD5 →
          s.receive b = { s with link := { s.link with receiver := .length } })
      ∧ (s.link.receiver = .length → 2 ≤ b.toNat → b.toNat ≤ 62 →
          s.receive b = { s with link := { s.link with receiver := .body b [] } })
      ∧ (s.link.receiver = .length → b.toNat < 2 ∨ 62 < b.toNat →
          s.receive b = { s with
            link :=
              { s.link with
                receiver := .hunt
                lengthErrors := BitVec.ofNat 16 (min 65535 (s.link.lengthErrors.toNat + 1)) } }))

/-! ### Line time -/

/-- Several bit periods are the one-period commands one after the other: a PULSE or FLYWHEEL_FRAME_END with bit periods before it does what those periods do first (R62).

A bit period of a line changes nothing of any other line's port or store, and of the switch, the Map Controller, the schedule, the probes, the engine and the SFN it changes nothing at all (R62). -/
def Obligations.BitPeriods : Prop :=
  (∀ (s : State) (line : Line) (x : RxSample) (xs : List RxSample) (data : Bool),
    ∃ t,
      exec (if x.sync then .pulse line [] x.data else .flywheelFrameEnd line [] x.data) s = .next t
        ∧ exec (.pulse line (x :: xs) data) s = exec (.pulse line xs data) t
        ∧ exec (.flywheelFrameEnd line (x :: xs) data) s = exec (.flywheelFrameEnd line xs data) t)
    ∧ (∀ (s : State) (line : Line) (sync data : Bool),
    ∃ t, exec (if sync then .pulse line [] data else .flywheelFrameEnd line [] data) s = .next t
      ∧ (∀ other : Line, other ≠ line → t.port other = s.port other ∧ t.store other = s.store other)
      ∧ (t.port line).record = (s.port line).record ∧ (t.port line).tx = (s.port line).tx
      ∧ (t.port line).txSync = (s.port line).txSync ∧ (t.port line).txData = (s.port line).txData
      ∧ t.switch = s.switch ∧ t.mc = s.mc ∧ t.schedule = s.schedule ∧ t.probes = s.probes
      ∧ t.engine = s.engine ∧ t.opening = s.opening ∧ t.pending = s.pending
      ∧ t.straps = s.straps ∧ t.held = s.held
      ∧ t.timing.sfn = s.timing.sfn ∧ t.timing.selector = s.timing.selector
      ∧ t.timing.qualify = s.timing.qualify ∧ t.timing.lockPending = s.timing.lockPending
      ∧ t.timing.refclk = s.timing.refclk ∧ t.timing.stall = s.timing.stall)

/-- The locked line's half-frame point: a bit period of an ALIGNED frame in progress on the locked line reaches it when it lies half a line frame after the frame start, and a frame start has come since the last boundary, or with lock pending half a line frame has passed since it; and this within twice the free period in force, after which the line has stalled (R102, R103, R105).

A frame start that counts is one the framer keeps in ALIGNED: a pulse at the expected position, or the expected position passing without one before the third miss (R66, R102). A bit period of another line reaches nothing. -/
def Obligations.HalfFramePointPlacesTheBoundary : Prop :=
  ∀ (s : State) (line : Line) (sync data : Bool), s.held = false →
    (s.port line).rx.state = .aligned → s.timing.offLine = none →
    let t := s.timing
    let p := s.port line
    let half := p.record.frameBits / 2
    let bits := p.rx.bits.length
    let pulse := sync = true ∧ p.syncWas = false
    let period : Instr := if sync then .pulse line [] data else .flywheelFrameEnd line [] data
    (t.selector.line = some line → 1 ≤ bits → bits < p.record.frameBits →
        ¬ pulse ∨ p.rx.miss ≤ 1 →
        ∃ u, exec period s = .next u
          ∧ u.timing.lineBits = t.lineBits + 1 ∧ u.timing.startSeen = t.startSeen
          ∧ u.timing.offLine = none
          ∧ (u.timing.pointReached = true ↔
              t.pointReached = true
                ∨ (bits = half ∧ t.refclk < 2 * t.periodInForce.toNat
                  ∧ ((t.lockPending ≠ some line ∧ t.startSeen = true)
                    ∨ (t.lockPending = some line ∧ half ≤ t.lineBits)))))
      ∧ (t.selector.line = some line → p.record.frameBits ≤ bits → 1 ≤ half →
          pulse ∨ p.rx.miss ≤ 1 →
        ∃ u, exec period s = .next u
          ∧ u.timing.lineBits = t.lineBits + 1 ∧ u.timing.startSeen = true
          ∧ u.timing.offLine = none ∧ u.timing.pointReached = t.pointReached)
      ∧ (t.selector.line ≠ some line → ∃ u, exec period s = .next u ∧ u.timing = t)

/-- In OFF the framer takes no notice of RXSYNC and RXDATA: it has no frame start, collects no bits, raises nothing and hands nothing on (R63). That the level of RXSYNC is sampled in OFF too, so that a line turned on while it is high sees no pulse, is the model's choice (log 12).

In HUNT a pulse moves the framer to CONFIRM with its frame start in that bit period and confirm count 0, raising nothing; without a pulse it stays (R64).

In CONFIRM: the second and third pulses at the expected position raise the confirm count and bring ALIGNED with ALIGNMENT(gained); a misplaced pulse restarts CONFIRM; the expected position passing without one returns to HUNT; any other bit is collected. RXSYNC held high gives no second pulse (R62). No frame is handed on (R65). -/
def Obligations.HuntingAndConfirmingFramer : Prop :=
  (∀ (s : State) (line : Line) (sync data : Bool), s.held = false →
    (s.port line).rx.state = .off →
    ∃ t, exec (if sync then .pulse line [] data else .flywheelFrameEnd line [] data) s = .next t
      ∧ t.port line = { s.port line with syncWas := sync }
      ∧ t.stores = s.stores ∧ t.notices = s.notices ∧ t.link = s.link
      ∧ t.timing.startSeen = s.timing.startSeen ∧ t.timing.pointReached = s.timing.pointReached
      ∧ t.timing.offLine = s.timing.offLine)
    ∧ (∀ (s : State) (line : Line) (data : Bool), s.held = false →
    (s.port line).rx.state = .hunt →
    let p := s.port line
    (p.syncWas = false →
        ∃ t, exec (.pulse line [] data) s = .next t
          ∧ t.port line =
            { p with
              rx := { state := .confirm, confirm := 0, miss := 0, bits := [data] }, syncWas := true }
          ∧ t.stores = s.stores ∧ t.notices = s.notices ∧ t.link = s.link)
      ∧ (p.syncWas = true →
        ∃ t, exec (.pulse line [] data) s = .next t ∧ t.port line = p
          ∧ t.stores = s.stores ∧ t.notices = s.notices)
      ∧ ∃ t, exec (.flywheelFrameEnd line [] data) s = .next t
          ∧ t.port line = { p with syncWas := false }
          ∧ t.stores = s.stores ∧ t.notices = s.notices ∧ t.link = s.link)
    ∧ (∀ (s : State) (line : Line) (data : Bool), s.held = false →
    (s.port line).rx.state = .confirm →
    let p := s.port line
    let atEnd := p.record.frameBits ≤ p.rx.bits.length
    (p.syncWas = false →
        ∃ t, exec (.pulse line [] data) s = .next t ∧ t.stores = s.stores ∧ t.link = s.link
          ∧ (atEnd → p.rx.confirm = 0 →
              t.port line =
                  { p with
                    rx := { state := .confirm, confirm := 1, miss := 0, bits := [data] }
                    syncWas := true }
                ∧ t.notices = s.notices)
          ∧ (atEnd → p.rx.confirm = 1 →
              t.port line =
                  { p with
                    rx := { state := .aligned, confirm := 0, miss := 0, bits := [data] }
                    syncWas := true }
                ∧ t.notices = s.notices.raise (.alignment line true s.timing.sfn))
          ∧ (¬ atEnd →
              t.port line =
                  { p with
                    rx := { state := .confirm, confirm := 0, miss := 0, bits := [data] }
                    syncWas := true }
                ∧ t.notices = s.notices))
      ∧ ∀ sync : Bool, (sync = true → p.syncWas = true) →
          ∃ t, exec (if sync then .pulse line [] data else .flywheelFrameEnd line [] data) s = .next t
            ∧ t.stores = s.stores ∧ t.link = s.link ∧ t.notices = s.notices
            ∧ (atEnd →
                t.port line =
                  { p with
                    rx := { state := .hunt, confirm := 0, miss := 0, bits := [] }, syncWas := sync })
            ∧ (¬ atEnd →
                t.port line =
                  { p with rx := { p.rx with bits := p.rx.bits ++ [data] }, syncWas := sync }))

/-- A frame end in ALIGNED, at a pulse or a flywheel one, hands the S samples of W bits collected to the store; with two frames unread the oldest is discarded as a delete slip and SLIP is raised with the SFN as it stands. A pulse clears the miss count, a flywheel end raises it, also where RXSYNC is held high and so gives no pulse (R62, R66, R68, R85). -/
def Obligations.FrameEndHandsOnTheFrame : Prop :=
  ∀ (s : State) (line : Line) (sync data : Bool), s.held = false →
    let p := s.port line
    let e := s.store line
    let pulse := sync = true ∧ p.syncWas = false
    p.rx.state = .aligned → p.record.frameBits ≤ p.rx.bits.length → pulse ∨ p.rx.miss ≤ 1 →
    let frame := frameWords p.record.width.bits p.record.slots p.rx.bits
    ∃ t, exec (if sync then .pulse line [] data else .flywheelFrameEnd line [] data) s = .next t
      ∧ t.port line =
        { p with
          rx :=
            { state := .aligned, confirm := 0, miss := if pulse then 0 else p.rx.miss + 1
              bits := [data] }
          syncWas := sync }
      ∧ t.link = s.link
      ∧ (e.unread.length < 2 →
          t.store line = { e with unread := e.unread ++ [frame] } ∧ t.notices = s.notices)
      ∧ (2 ≤ e.unread.length →
          t.store line =
              { e with
                unread := e.unread.drop 1 ++ [frame]
                deletes := BitVec.ofNat 16 (min 65535 (e.deletes.toNat + 1)) }
            ∧ t.notices = s.notices.raise (.slip line 0 1 s.timing.sfn))

/-- The bits a frame is made of: sample `slot` of a completed frame has, at bit position W-1-k, the k-th bit collected in that slot, the first sampled bit most significant (R68). -/
def Obligations.SamplesKeepTheirBits : Prop :=
  ∀ (width slots : Nat) (bits : List Bool), width ≤ 32 → bits.length = slots * width →
    (frameWords width slots bits).length = slots
      ∧ ∀ (slot k : Nat), slot < slots → k < width →
          ((frameWords width slots bits).getD slot 0).getLsbD (width - 1 - k) =
            bits.getD (slot * width + k) false

/-- The third miss in ALIGNED, a misplaced pulse or an expected position without one, loses alignment: the framer hunts with counts 0 and its frame discarded, the loss is counted, ALIGNMENT(lost) is raised, the store is flushed and keeps its current frame, the receiver of a control line hunts, the watched line's mark is set (R67, R92, R169, R178). Where it is the locked line, REFCLK places the next boundary, unless its place was settled before: by its point, an earlier loss or twice the free period (R104, R105).

A bit period of ALIGNED before the expected position, which is no third miss: its bit is collected into the frame in progress; without a pulse, RXSYNC low or held high, the miss count stays, and a misplaced pulse raises it by 1; nothing is handed on or raised (R62, R66, R68).

A third miss that falls together with boundary N, after the line's store and the Timing Unit have taken it and before the link has: the frame taken at N stands, the evaluation at N is as without the loss, and on the current location's line the octets of N reach a receiver put in HUNT. ALIGNMENT(lost) carries N (R62, R91, R100, R169). -/
def Obligations.MissesLoseAlignment : Prop :=
  (∀ (s : State) (line : Line) (sync data : Bool), s.held = false →
    let p := s.port line
    let pulse := sync = true ∧ p.syncWas = false
    p.rx.state = .aligned → p.rx.miss = 2 →
    (pulse ↔ p.rx.bits.length < p.record.frameBits) →
    let watched :=
      (s.link.state = .settled ∧ s.link.pendingMove.map Location.line = some line)
        ∨ (s.link.state = .trial ∧ s.link.current.line = line)
    ∃ t, exec (if sync then .pulse line [] data else .flywheelFrameEnd line [] data) s = .next t
      ∧ t.port line =
        { p with
          rx := { state := .hunt, confirm := 0, miss := 0, bits := [] }, syncWas := sync
          losses := BitVec.ofNat 16 (min 65535 (p.losses.toNat + 1)) }
      ∧ t.store line = { s.store line with unread := [], taken := false }
      ∧ t.notices = s.notices.raise (.alignment line false s.timing.sfn)
      ∧ t.link.receiver = (if s.link.current.line = line then .hunt else s.link.receiver)
      ∧ (t.link.lineLost = true ↔ s.link.lineLost = true ∨ watched)
      ∧ t.timing.pointReached = s.timing.pointReached
      ∧ t.timing.offLine =
        (if s.timing.selector.line = some line ∧ s.timing.pointReached = false
            ∧ s.timing.offLine = none ∧ s.timing.refclk < 2 * s.timing.periodInForce.toNat then
          some s.timing.refclk
        else s.timing.offLine))
    ∧ (∀ (s : State) (line : Line) (sync data : Bool), s.held = false →
    let p := s.port line
    let pulse := sync = true ∧ p.syncWas = false
    p.rx.state = .aligned → p.rx.bits.length < p.record.frameBits → ¬ pulse ∨ p.rx.miss ≤ 1 →
    ∃ t, exec (if sync then .pulse line [] data else .flywheelFrameEnd line [] data) s = .next t
      ∧ t.port line =
        { p with
          rx :=
            { p.rx with
              miss := if pulse then p.rx.miss + 1 else p.rx.miss, bits := p.rx.bits ++ [data] }
          syncWas := sync }
      ∧ t.stores = s.stores ∧ t.notices = s.notices ∧ t.link = s.link)
    ∧ (∀ (s : State) (order : List Taker) (x : RxSample), s.freshBoundary → s.link.resting →
    let line := s.link.current.line
    let p := s.port line
    p.rx.state = .aligned → p.rx.miss = 2 →
    (x.sync = true ∧ p.syncWas = false ↔ p.rx.bits.length < p.record.frameBits) →
    1 ≤ p.rx.bits.length →
    let takers := .store line :: .timing :: order
    let hunting := { s with link := { s.link with receiver := .hunt } }
    ∃ u t, exec (.boundary ⟨takers, []⟩) hunting = .next u
      ∧ exec (.boundary ⟨takers, [⟨line, x, some .link⟩]⟩) s = .next t
      ∧ t.link.receiver = u.link.receiver ∧ t.link.checkErrors = u.link.checkErrors
      ∧ t.link.lengthErrors = u.link.lengthErrors ∧ t.link.foreignKinds = u.link.foreignKinds
      ∧ (t.port line).rx = { state := .hunt, confirm := 0, miss := 0, bits := [] }
      ∧ (t.port line).losses = BitVec.ofNat 16 (min 65535 (p.losses.toNat + 1))
      ∧ t.store line = { u.store line with unread := [], taken := false }
      ∧ t.timing.sfn = s.timing.sfn + 1 ∧ t.timing.selector = u.timing.selector
      ∧ t.timing.qualify = u.timing.qualify
      ∧ (s.notices.mask.getLsbD 0 = true →
          t.notices.shows (.alignment line false (s.timing.sfn + 1))))

/-- TX_FRAME_END: a framer that is SENDING sends as many more bits as periods begin; its pins show the last one sent, the frame's last bit included, TXSYNC high in the frame's first bit alone. The period after the last bit finds the frame ended: WAITING, TXSYNC low and TXDATA undriven. OFF and WAITING stay. Nothing else changes (R70 to R72; that the pins keep a bit until the next period begins is log 14, that tx turned off meanwhile changes nothing here is log 23). -/
def Obligations.TransmitFramerSendsItsFrame : Prop :=
  ∀ (s : State) (line : Line) (periods : Nat),
    let p := s.port line
    let put := fun p' : LinePort =>
      exec (.txFrameEnd line periods) s = .next { s with ports := s.ports.set line p' }
    (p.tx = .off ∨ p.tx = .waiting ∨ periods = 0 → exec (.txFrameEnd line periods) s = .next s)
      ∧ (∀ f next, p.tx = .sending f next → next ≤ f.slots.length * f.width.bits →
        (f.slots.length * f.width.bits < next + periods →
            put { p with tx := .waiting, txSync := .low, txData := .undriven })
          ∧ (1 ≤ periods → next + periods ≤ f.slots.length * f.width.bits →
            put
              { p with
                tx := .sending f (next + periods)
                txSync := if next + periods = 1 then .high else .low
                txData :=
                  match f.slots[(next + periods - 1) / f.width.bits]? with
                  | some (.word w) =>
                    if w.getLsbD (f.width.bits - 1 - (next + periods - 1) % f.width.bits) then
                      .high
                    else .low
                  | _ => .undriven }))

/-- Width conversion: HIGH keeps or left-places the most significant bits, LOW keeps or right-places the least significant ones. A SLOT entry with a current frame converts from its source line's W, loss fill and a PATTERN entry from 32 bits (R48). -/
def Obligations.WidthConversion : Prop :=
  (∀ (ws wd : Width) (x : Word), x.toNat < 2 ^ ws.bits →
    (convert ws wd .high x).toNat =
        (if wd.bits ≤ ws.bits then x.toNat / 2 ^ (ws.bits - wd.bits)
        else x.toNat * 2 ^ (wd.bits - ws.bits))
      ∧ (convert ws wd .low x).toNat = (if wd.bits ≤ ws.bits then x.toNat % 2 ^ wd.bits else x.toNat))
    ∧ ∀ (s : State) (source : Line) (slot : Slot) (wd : Width) (justify : Justify),
      (∀ frame, (s.store source).current = some frame →
          s.sourceWord source slot wd justify =
            convert (s.port source).record.width wd justify (frame.getD slot.val 0))
        ∧ ((s.store source).current = none →
          s.sourceWord source slot wd justify =
            convert .w32 wd justify (s.pattern (s.port source).record.lossPattern).present)
        ∧ ∀ i, s.patternWord i wd justify = convert .w32 wd justify (s.pattern i).present

/-! ### Requests: shared rules -/

/-- A payload of a length the kind does not accept is answered BAD_LENGTH with the length received, and changes nothing else: every kind of fixed length (R149, R204).

A kind that is not among the request kinds is answered UNKNOWN_KIND, DETAIL 00h (R149).

A field out of range refuses Get Line, Read Stats, Read Entries, Get Pattern, Read Probe and Get Link with BAD_VALUE and the DETAIL its rule gives, and changes nothing else (R15, R19, R79, R96, R140, R184).

That either of the two Restart rows answers a Restart of another length is the model's choice (log 9), and so is that a Read Stats or a Read Probe with both fields out of range is refused for the first (log 24). -/
def Obligations.UnfitRequestsAreRefused : Prop :=
  (∀ (s : State) (r : Request) (rest : List Request), s.takes r rest →
    ∀ row ∈ ([(.identify, 0x02, 0), (.restartFull, 0x03, 1), (.restartSwitch, 0x03, 1),
        (.setLine, 0x08, 7), (.getLine, 0x09, 1), (.readStats, 0x0A, 2), (.setReference, 0x10, 5),
        (.getTiming, 0x11, 0), (.readEntries, 0x19, 4), (.setPattern, 0x1A, 5),
        (.getPattern, 0x1B, 1), (.copyPage, 0x20, 0), (.clearPage, 0x21, 0), (.swapPages, 0x22, 0),
        (.getPages, 0x23, 0), (.addSchedule, 0x28, 10), (.cancelSchedule, 0x29, 1),
        (.listSchedule, 0x2A, 0), (.setProbe, 0x30, 13), (.readProbe, 0x31, 2),
        (.moveChannel, 0x38, 3), (.getLink, 0x39, 1), (.setNotices, 0x3C, 3),
        (.getNotices, 0x3D, 0)] : List (Instr × Byte × Nat)),
      r.kind = row.2.1 → r.payload.length ≠ row.2.2 →
      exec row.1 s = .next (s.answered r rest .badLength [BitVec.ofNat 8 r.payload.length]))
    ∧ (∀ (s : State) (r : Request) (rest : List Request), s.takes r rest →
    r.kind ∉ ([0x01, 0x02, 0x03, 0x08, 0x09, 0x0A, 0x10, 0x11, 0x18, 0x19, 0x1A, 0x1B, 0x20, 0x21,
      0x22, 0x23, 0x28, 0x29, 0x2A, 0x30, 0x31, 0x38, 0x39, 0x3C, 0x3D] : List Byte) →
    exec .unknownKind s = .next (s.answered r rest .unknownKind [0]))
    ∧ (∀ (s : State) (r : Request) (rest : List Request), s.takes r rest →
    let bad := fun (c : Instr) (detail : Byte) =>
      exec c s = .next (s.answered r rest .badValue [detail])
    (∀ line, r.kind = 0x09 → r.payload = [line] → 8 ≤ line.toNat → bad .getLine 0)
      ∧ (∀ line clear, r.kind = 0x0A → r.payload = [line, clear] →
          (8 ≤ line.toNat → bad .readStats 0)
            ∧ (line.toNat < 8 → 2 ≤ clear.toNat → bad .readStats 1))
      ∧ (∀ page line start count, r.kind = 0x19 → r.payload = [page, line, start, count] →
          2 ≤ page.toNat ∨ 8 ≤ line.toNat ∨ count.toNat < 1 ∨ 13 < count.toNat
            ∨ 64 ≤ start.toNat ∨ 64 < start.toNat + count.toNat → bad .readEntries 0)
      ∧ (∀ index, r.kind = 0x1B → r.payload = [index] → 16 ≤ index.toNat → bad .getPattern 0)
      ∧ (∀ probe rearm, r.kind = 0x31 → r.payload = [probe, rearm] →
          (4 ≤ probe.toNat → bad .readProbe 0)
            ∧ (probe.toNat < 4 → 2 ≤ rearm.toNat → bad .readProbe 1))
      ∧ (∀ clear, r.kind = 0x39 → r.payload = [clear] → 2 ≤ clear.toNat → bad .getLink 0))

/-- Echo of up to 58 octets answers OK with the same octets; a longer one is answered BAD_LENGTH. Nothing else changes (R157). -/
def Obligations.EchoReturnsItsPayload : Prop :=
  ∀ (s : State) (r : Request) (rest : List Request), s.takes r rest → r.kind = 0x01 →
    (r.payload.length ≤ 58 → exec .echo s = .next (s.answered r rest .ok r.payload))
      ∧ (58 < r.payload.length →
          exec .echo s = .next (s.answered r rest .badLength [BitVec.ofNat 8 r.payload.length]))

/-- Identify answers the fixed values of the part (R158). -/
def Obligations.IdentifyNamesThePart : Prop :=
  ∀ (s : State) (r : Request) (rest : List Request), s.takes r rest → r.kind = 0x02 →
    (r.payload = [] →
        exec .identify s =
          .next (s.answered r rest .ok [0x80, 0x64, 0x01, 8, 64, 16, 4, 8, 4, 6, 16]))
      ∧ (r.payload ≠ [] →
          exec .identify s = .next (s.answered r rest .badLength [BitVec.ofNat 8 r.payload.length]))

/-- The status codes, and the STATUS octet, first of a response's payload, carries them (R206).

Fields of two and four octets are sent high octet first, and pages, justify values, loss actions, word lengths, framer states, selector states, Map Controller states, probe modes and sides, observations, link states and sending states carry the codes their chapters give, and so do the restart causes, scheduled actions, outcomes and reasons that notices carry (R2, R23, R60, R79, R112, R130, R140, R184, R187, R200, R202). -/
def Obligations.StatusCodes : Prop :=
  (∀ r : Response, r.payload = [r.status.code, r.credit] ++ r.data)
    ∧ [Status.ok, .queueFull, .unknownKind, .badLength, .badValue, .reserved, .inUse, .lineActive,
    .notReady, .pageBusy, .tableFull, .notFound, .tooLate, .tooFar, .overlap, .moveBusy,
    .aborted].map Status.code
    = [0x00, 0x01, 0x02, 0x03, 0x04, 0x05, 0x06, 0x07, 0x08, 0x09, 0x0A, 0x0B, 0x0C, 0x0D, 0x0E,
      0x0F, 0x10]
    ∧ (∀ a b c d : Byte, halfOctets (a ++ b) = [a, b] ∧ wordOctets (a ++ b ++ c ++ d) = [a, b, c, d])
    ∧ [PageName.a, .b].map PageName.code = [0, 1]
    ∧ [Justify.low, .high].map Justify.code = [0, 1]
    ∧ [LossAction.hold, .fill].map LossAction.code = [0, 1]
    ∧ [FramerState.off, .hunt, .confirm, .aligned].map FramerState.code = [0, 1, 2, 3]
    ∧ [SelectorName.free, .lockedPrimary, .lockedSecondary].map SelectorName.code = [0, 1, 2]
    ∧ (∀ (progress : Line) (owner : Byte) (target : Word),
          [McState.idle, .copying progress owner, .clearing progress owner,
            .swapPending target owner].map McState.code = [0, 1, 2, 3])
    ∧ [ActionKind.swap, .pattern].map ActionKind.code = [0, 1]
    ∧ [FiredOutcome.done, .pageBusy].map FiredOutcome.code = [0, 1]
    ∧ [ProbeMode.off, .change, .matching].map ProbeMode.code = [0, 1, 2]
    ∧ [Side.rx, .tx].map Side.code = [0, 1]
    ∧ [LinkState.settled, .trial].map LinkState.code = [0, 1]
    ∧ [SendState.idle, .waiting, .outstanding, .stalled].map SendState.code = [0, 1, 2, 3]
    ∧ [RestartCause.powerOrPin, .request].map RestartCause.code = [0, 1]
    ∧ [MoveReason.confirmed, .timeout, .lineLost].map MoveReason.code = [0, 1, 2]
    ∧ [Width.w8, .w16, .w24, .w32].map Width.bits = [8, 16, 24, 32]
    ∧ (∀ w : Word,
          [none, some (.word w), some .released].map sampleCode = [0, 1, 2]
            ∧ [none, some (.word w), some .released].map sampleWord = [0, w, 0])

/-! ### Requests: reports -/

/-- Get Line, Get Timing, Get Pattern, Get Pages, List Schedule and Get Notices answer OK with the fields of their rules and change nothing else (R19, R38, R79, R112, R127, R200). That the lock pending octet is the mark, also while the next boundary is placed as no lock boundary, is the model's reading (log 25).

Read Entries answers the page read, line, start, count and each entry's four octets, 0 where its kind uses none, from the active page in every Map Controller state and from the standby page unless it is being rewritten (R15, R16, R203). -/
def Obligations.ReportsReadTheState : Prop :=
  (∀ (s : State) (r : Request) (rest : List Request), s.takes r rest →
    (∀ line : Line, r.kind = 0x09 → r.payload = [BitVec.ofNat 8 line.val] →
        let p := s.port line
        exec .getLine s = .next (s.answered r rest .ok
          [BitVec.ofNat 8 line.val, if p.record.rxOn then 1 else 0, if p.record.txOn then 1 else 0,
            BitVec.ofNat 8 p.record.slots, BitVec.ofNat 8 p.record.width.bits, p.record.loss.code,
            BitVec.ofNat 8 p.record.lossPattern.val, p.rx.state.code, BitVec.ofNat 8 p.rx.confirm,
            BitVec.ofNat 8 p.rx.miss, BitVec.ofNat 8 (s.store line).unread.length,
            if (s.store line).current.isSome then 1 else 0]))
      ∧ (r.kind = 0x11 → r.payload = [] →
        let t := s.timing
        let lineOctet := fun line : Option Line =>
          match line with
          | none => (0xFF : Byte)
          | some l => BitVec.ofNat 8 l.val
        exec .getTiming s = .next (s.answered r rest .ok
          ([t.selector.name.code, lineOctet t.selector.line, lineOctet t.lockPending,
              BitVec.ofNat 8 t.primary.val, lineOctet t.secondary, if t.revertive then 1 else 0]
            ++ halfOctets t.freePeriod ++ wordOctets t.sfn
            ++ (List.finRange 8).map fun line => BitVec.ofNat 8 t.qualify[line])))
      ∧ (∀ i : PatternIndex, r.kind = 0x1B → r.payload = [BitVec.ofNat 8 i.val] →
        let p := s.pattern i
        exec .getPattern s = .next (s.answered r rest .ok
          ([BitVec.ofNat 8 i.val] ++ wordOctets p.present
            ++ [if p.pending.isSome then 1 else 0] ++ wordOctets (p.pending.getD 0))))
      ∧ (r.kind = 0x23 → r.payload = [] →
        exec .getPages s = .next (s.answered r rest .ok
          ([s.switch.active.code, s.mc.state.code]
            ++ (match s.mc.state with
              | .idle => [0, 0, 0, 0, 0, 0]
              | .copying progress owner => [BitVec.ofNat 8 progress.val, owner, 0, 0, 0, 0]
              | .clearing progress owner => [BitVec.ofNat 8 progress.val, owner, 0, 0, 0, 0]
              | .swapPending target owner => [0, owner] ++ wordOctets target)
            ++ [if s.mc.endFrame.isSome then 1 else 0] ++ wordOctets (s.mc.endFrame.getD 0)
            ++ [if s.mc.lastSwap.isSome then 1 else 0] ++ wordOctets (s.mc.lastSwap.getD 0))))
      ∧ (r.kind = 0x2A → r.payload = [] →
        exec .listSchedule s = .next (s.answered r rest .ok
          ([BitVec.ofNat 8 s.schedule.length]
            ++ s.schedule.flatMap fun e =>
              (match e.action with
                | .swap => [BitVec.ofNat 8 e.tag, 0, 0]
                | .pattern i _ => [BitVec.ofNat 8 e.tag, 1, BitVec.ofNat 8 i.val])
              ++ wordOctets e.due)))
      ∧ (r.kind = 0x3D → r.payload = [] →
        exec .getNotices s = .next (s.answered r rest .ok
          ([s.notices.mask] ++ halfOctets (BitVec.ofNat 16 s.notices.interval)
            ++ [s.notices.state.code, BitVec.ofNat 8 s.notices.queue.length]
            ++ halfOctets s.notices.lost ++ [s.notices.nextNumber]))))
    ∧ (∀ (s : State) (r : Request) (rest : List Request) (standby : Bool) (line : Line)
    (start count : Nat),
    s.takes r rest → r.kind = 0x19 → 1 ≤ count → count ≤ 13 → start + count ≤ 64 →
    r.payload = [if standby then 1 else 0, BitVec.ofNat 8 line.val, BitVec.ofNat 8 start,
      BitVec.ofNat 8 count] →
    let name := if standby then s.switch.active.other else s.switch.active
    let slots := (List.finRange 64).filter fun t => start ≤ t.val ∧ t.val < start + count
    (standby = false ∨ s.mc.state.rewriting = false →
        exec .readEntries s = .next (s.answered r rest .ok
          ([name.code, BitVec.ofNat 8 line.val, BitVec.ofNat 8 start, BitVec.ofNat 8 count]
            ++ slots.flatMap fun t => (entryAt (s.switch.page name) line t).octets)))
      ∧ (standby = true → s.mc.state.rewriting = true →
        exec .readEntries s = .next (s.answered r rest .pageBusy [0])))
    ∧ (∀ (line : Line) (slot : Slot) (index : PatternIndex) (justify : Justify),
          [Entry.release, .slot line slot justify, .pattern index justify, .control].map Entry.octets
            = [[0, 0, 0, 0],
                [1, BitVec.ofNat 8 line.val, BitVec.ofNat 8 slot.val, justify.code],
                [2, BitVec.ofNat 8 index.val, 0, justify.code], [3, 0, 0, 0]])

/-- Read Stats answers the line's three counters, and with its clear flag sets them to 0 in the same act (R96).

Get Link answers the link's state, locations, timer and counters with the engine's drop counters, and with its clear flag sets the five counters to 0 in the same act (R156, R184).

Read Probe answers the probe's record, and with its rearm flag re-arms it in the same act (R130, R140). -/
def Obligations.ReadsThatClear : Prop :=
  (∀ (s : State) (r : Request) (rest : List Request) (line : Line) (clear : Bool),
    s.takes r rest → r.kind = 0x0A →
    r.payload = [BitVec.ofNat 8 line.val, if clear then 1 else 0] →
    let p := s.port line
    let e := s.store line
    let data := [BitVec.ofNat 8 line.val] ++ halfOctets p.losses ++ halfOctets e.repeats
      ++ halfOctets e.deletes
    exec .readStats s = .next
      (if clear then
        { s with
          ports := s.ports.set line { p with losses := 0 }
          stores := s.stores.set line { e with repeats := 0, deletes := 0 }
          engine := s.engine.answered rest (finalResponse r rest .ok data false) }
      else s.answered r rest .ok data))
    ∧ (∀ (s : State) (r : Request) (rest : List Request) (clear : Bool),
    s.takes r rest → r.kind = 0x39 → r.payload = [if clear then 1 else 0] →
    let k := s.link
    let place := fun loc : Location =>
      [BitVec.ofNat 8 loc.line.val, BitVec.ofNat 8 loc.first.val, BitVec.ofNat 8 loc.width]
    let data : List Byte :=
      [if k.state = .trial then 1 else 0] ++ place k.current
        ++ (match k.former with
          | some loc => place loc
          | none => [0, 0, 0])
        ++ halfOctets (BitVec.ofNat 16 k.trialTimer) ++ halfOctets k.checkErrors
        ++ halfOctets k.lengthErrors ++ halfOctets k.foreignKinds
        ++ halfOctets s.engine.droppedRequests ++ halfOctets s.engine.droppedResends
    exec .getLink s = .next
      (if clear then
        { s with
          link := { k with checkErrors := 0, lengthErrors := 0, foreignKinds := 0 }
          engine :=
            { s.engine.answered rest (finalResponse r rest .ok data false) with
              droppedRequests := 0, droppedResends := 0 } }
      else s.answered r rest .ok data))
    ∧ (∀ (s : State) (r : Request) (rest : List Request) (i : ProbeIndex) (rearm : Bool),
    s.takes r rest → r.kind = 0x31 →
    r.payload = [BitVec.ofNat 8 i.val, if rearm then 1 else 0] →
    let p := s.probe i
    let sample := fun seen : Option SlotValue =>
      match seen with
      | none => ((0 : Byte), (0 : Word))
      | some (.word w) => (1, w)
      | some .released => (2, 0)
    let captured := sample (p.capture.map Capture.seen)
    let data : List Byte :=
      [BitVec.ofNat 8 i.val, p.mode.code, p.side.code, BitVec.ofNat 8 p.line.val,
          BitVec.ofNat 8 p.slot.val]
        ++ wordOctets p.value ++ wordOctets p.mask ++ wordOctets p.hits
        ++ [(sample p.last).1] ++ wordOctets (sample p.last).2
        ++ [captured.1] ++ wordOctets ((p.capture.map Capture.frame).getD 0)
        ++ wordOctets captured.2
    exec .readProbe s = .next
      (if rearm then
        { s with
          probes := s.probes.set i { p with hits := 0, last := none, capture := none }
          engine := s.engine.answered rest (finalResponse r rest .ok data false) }
      else s.answered r rest .ok data))

/-! ### Requests: settings -/

/-- An accepted Set Line writes the record; rx turned on starts the framer hunting, rx turned off empties framer and store and, on the locked line, leaves the next boundary to REFCLK unless its place was settled before; nothing else changes (R63, R74 to R77, R93, R104).

A field out of range refuses Set Line with BAD_VALUE, DETAIL the place of the first one (R75, check 1).

Set Line is refused, and changes nothing, when it would break a line of the management channel (RESERVED), change the format of a line in service (LINE_ACTIVE with the sides on), or cut off a source an entry names (IN_USE with the lowest such transmit line) (R75, R76). -/
def Obligations.SetLineWritesTheRecord : Prop :=
  (∀ (s : State) (r : Request) (rest : List Request) (line : Line) (record : LineRecord),
    s.takes r rest → r.kind = 0x08 → 1 ≤ record.slots → record.slots ≤ 64 →
    let p := s.port line
    let old := p.record
    let data : List Byte :=
      [BitVec.ofNat 8 line.val, if record.rxOn then 1 else 0, if record.txOn then 1 else 0,
        BitVec.ofNat 8 record.slots, BitVec.ofNat 8 record.width.bits, record.loss.code,
        BitVec.ofNat 8 record.lossPattern.val]
    r.payload = data →
    (∀ loc ∈ s.link.locations, loc.line = line →
        record.slots = old.slots ∧ record.width = old.width
          ∧ (old.rxOn = true → record.rxOn = true) ∧ (old.txOn = true → record.txOn = true)) →
    (record.slots ≠ old.slots ∨ record.width ≠ old.width → old.rxOn = false ∧ old.txOn = false) →
    (record.slots < old.slots →
        ∀ (name : PageName) (l : Line) (t u : Slot) (justify : Justify),
          entryAt (s.switch.page name) l t = .slot line u justify → u.val < record.slots) →
    let off := old.rxOn = true ∧ record.rxOn = false
    exec .setLine s = .next { s with
      ports := s.ports.set line
        { p with
          record := record
          rx :=
            if off then { state := .off, confirm := 0, miss := 0, bits := [] }
            else if old.rxOn = false ∧ record.rxOn = true then
              { state := .hunt, confirm := 0, miss := 0, bits := [] }
            else p.rx }
      stores :=
        if off then
          s.stores.set line
            { s.store line with unread := [], current := none, newly := false, taken := false }
        else s.stores
      timing :=
        if off ∧ s.timing.selector.line = some line ∧ s.timing.pointReached = false
            ∧ s.timing.offLine = none ∧ s.timing.refclk < 2 * s.timing.periodInForce.toNat then
          { s.timing with offLine := some s.timing.refclk }
        else s.timing
      engine := s.engine.answered rest (finalResponse r rest .ok data false) })
    ∧ (∀ (s : State) (r : Request) (rest : List Request) (line : Line) (record : LineRecord),
    s.takes r rest → r.kind = 0x08 → 1 ≤ record.slots → record.slots ≤ 64 →
    let old := (s.port line).record
    r.payload =
      [BitVec.ofNat 8 line.val, if record.rxOn then 1 else 0, if record.txOn then 1 else 0,
        BitVec.ofNat 8 record.slots, BitVec.ofNat 8 record.width.bits, record.loss.code,
        BitVec.ofNat 8 record.lossPattern.val] →
    let format := record.slots ≠ old.slots ∨ record.width ≠ old.width
    let channel := ∃ loc ∈ s.link.locations, loc.line = line
    let breaks := format ∨ (old.rxOn = true ∧ record.rxOn = false)
      ∨ (old.txOn = true ∧ record.txOn = false)
    let beyond := fun l : Line => ∃ (name : PageName) (t u : Slot) (justify : Justify),
      entryAt (s.switch.page name) l t = .slot line u justify ∧ record.slots ≤ u.val
    (channel → breaks → exec .setLine s = .next (s.answered r rest .reserved [0]))
      ∧ (¬ channel → format → old.rxOn = true ∨ old.txOn = true →
          exec .setLine s = .next (s.answered r rest .lineActive
            [if old.rxOn = true ∧ old.txOn = true then 3 else if old.rxOn = true then 1 else 2]))
      ∧ (∀ lowest : Line, ¬ channel → old.rxOn = false → old.txOn = false →
          record.slots < old.slots → beyond lowest → (∀ l, l < lowest → ¬ beyond l) →
          exec .setLine s = .next (s.answered r rest .inUse [BitVec.ofNat 8 lowest.val])))
    ∧ (∀ (s : State) (r : Request) (rest : List Request) (line rx tx slots width loss pattern : Byte)
    (place : Nat), s.takes r rest → r.kind = 0x08 →
    r.payload = [line, rx, tx, slots, width, loss, pattern] →
    [decide (line.toNat ≤ 7), decide (rx.toNat ≤ 1), decide (tx.toNat ≤ 1),
        decide (1 ≤ slots.toNat ∧ slots.toNat ≤ 64), decide (width.toNat ∈ [8, 16, 24, 32]),
        decide (loss.toNat ≤ 1), decide (pattern.toNat ≤ 15)].idxOf? false = some place →
    exec .setLine s = .next (s.answered r rest .badValue [BitVec.ofNat 8 place]))

/-- An accepted Set Reference writes the four settings and answers them with the from frame; the selector state, the locked line, the mark, the counts and the SFN stay (R110, R111).

An accepted Set Pattern sets the pending value of its pattern and answers the index and the from frame; the present value stays (R18).

An accepted Set Probe replaces the configuration of its probe and re-arms it (R138, R139).

A field out of range refuses Set Reference, Set Pattern and Set Probe with BAD_VALUE and the DETAIL of the first check that fails; no field changes (R18, R110, R138). -/
def Obligations.SettingsAreWritten : Prop :=
  (∀ (s : State) (r : Request) (rest : List Request) (primary : Line) (secondary : Option Line)
    (revertive : Bool) (period : Half),
    s.takes r rest → r.kind = 0x10 → secondary ≠ some primary → 256 ≤ period.toNat →
    let octets : List Byte :=
      [BitVec.ofNat 8 primary.val,
          match secondary with
          | none => 0xFF
          | some l => BitVec.ofNat 8 l.val,
          if revertive then 1 else 0]
        ++ halfOctets period
    r.payload = octets →
    exec .setReference s = .next { s with
      timing :=
        { s.timing with
          primary := primary, secondary := secondary, revertive := revertive
          freePeriod := period }
      engine := s.engine.answered rest
        (finalResponse r rest .ok (octets ++ wordOctets (s.timing.sfn + 1)) false) })
    ∧ (∀ (s : State) (r : Request) (rest : List Request) (i : PatternIndex) (value : Word),
    s.takes r rest → r.kind = 0x1A → r.payload = BitVec.ofNat 8 i.val :: wordOctets value →
    exec .setPattern s = .next { s with
      switch :=
        { s.switch with
          patterns := s.switch.patterns.set i
            { present := (s.pattern i).present, pending := some value } }
      engine := s.engine.answered rest
        (finalResponse r rest .ok (BitVec.ofNat 8 i.val :: wordOctets (s.timing.sfn + 1)) false) })
    ∧ (∀ (s : State) (r : Request) (rest : List Request) (i : ProbeIndex) (mode : ProbeMode)
    (side : Side) (line : Line) (slot : Slot) (value mask : Word),
    s.takes r rest → r.kind = 0x30 →
    r.payload =
      [BitVec.ofNat 8 i.val, mode.code, side.code, BitVec.ofNat 8 line.val,
          BitVec.ofNat 8 slot.val] ++ wordOctets value ++ wordOctets mask →
    exec .setProbe s = .next { s with
      probes := s.probes.set i
        { mode := mode, side := side, line := line, slot := slot, value := value, mask := mask
          hits := 0, last := none, capture := none }
      engine := s.engine.answered rest
        (finalResponse r rest .ok (BitVec.ofNat 8 i.val :: wordOctets (s.timing.sfn + 1)) false) })
    ∧ (∀ (s : State) (r : Request) (rest : List Request), s.takes r rest →
    (∀ (primary secondary revertive high low : Byte) (check : Nat), r.kind = 0x10 →
        r.payload = [primary, secondary, revertive, high, low] →
        [decide (primary.toNat ≤ 7), decide (secondary.toNat ≤ 7 ∨ secondary = 0xFF),
            decide (secondary ≠ primary), decide (revertive.toNat ≤ 1),
            decide (256 ≤ 256 * high.toNat + low.toNat)].idxOf? false = some check →
        exec .setReference s =
          .next (s.answered r rest .badValue [([0, 1, 1, 2, 3] : List Byte).getD check 0]))
      ∧ (∀ (index : Byte) (value : Word), r.kind = 0x1A → r.payload = index :: wordOctets value →
          16 ≤ index.toNat → exec .setPattern s = .next (s.answered r rest .badValue [0]))
      ∧ (∀ (probe mode side line slot : Byte) (value mask : Word) (place : Nat), r.kind = 0x30 →
          r.payload = [probe, mode, side, line, slot] ++ wordOctets value ++ wordOctets mask →
          [decide (probe.toNat ≤ 3), decide (mode.toNat ≤ 2), decide (side.toNat ≤ 1),
              decide (line.toNat ≤ 7), decide (slot.toNat ≤ 63)].idxOf? false = some place →
          exec .setProbe s = .next (s.answered r rest .badValue [BitVec.ofNat 8 place])))

/-- Set Notices writes mask and interval, and nothing else of the Notice Unit; a mask that names another kind or an interval outside 16 to 4096 is refused (R198, R199). That a request with both bad is refused for the mask is the model's choice (log 24). -/
def Obligations.SetNoticesWritesMaskAndInterval : Prop :=
  ∀ (s : State) (r : Request) (rest : List Request) (mask : Byte) (interval : Half),
    s.takes r rest → r.kind = 0x3C → r.payload = mask :: halfOctets interval →
    (mask &&& 0xC0 = 0 → 16 ≤ interval.toNat → interval.toNat ≤ 4096 →
        exec .setNotices s = .next { s with
          notices := { s.notices with mask := mask, interval := interval.toNat }
          engine := s.engine.answered rest
            (finalResponse r rest .ok (mask :: halfOctets interval) false) })
      ∧ (mask &&& 0xC0 ≠ 0 → exec .setNotices s = .next (s.answered r rest .badValue [0]))
      ∧ (mask &&& 0xC0 = 0 → interval.toNat < 16 ∨ 4096 < interval.toNat →
          exec .setNotices s = .next (s.answered r rest .badValue [1]))

/-! ### Requests: the map -/

/-- An accepted Write Entries stores its entries in the standby page from the start slot on and leaves every other entry; it answers OK with the page written (R9 to R12).

Write Entries is refused and writes nothing: BAD_LENGTH when the payload is under 3 octets or count and length disagree, BAD_VALUE with FFh out of range, PAGE_BUSY with FFh unless IDLE (R9, R10).

The entries are checked in turn, each target, kind, source and justify in the order of R11; the first entry that fails refuses the whole request with the status of the check and the entry's index (R11). -/
def Obligations.WriteEntriesStoresItsEntries : Prop :=
  (∀ (s : State) (r : Request) (rest : List Request) (line : Line) (start : Nat)
    (entries : List Entry),
    s.takes r rest → r.kind = 0x18 → 1 ≤ entries.length → entries.length ≤ 14 →
    start + entries.length ≤ 64 → s.mc.state = .idle →
    r.payload = [BitVec.ofNat 8 line.val, BitVec.ofNat 8 start, BitVec.ofNat 8 entries.length]
      ++ entries.flatMap Entry.octets →
    (∀ slot : Slot, start ≤ slot.val → slot.val < start + entries.length →
        s.management line slot = false) →
    (∀ e ∈ entries, e ≠ .control ∧ s.sourceAllowed e = true) →
    ∃ page, exec .writeEntries s = .next { s with
        switch := s.switch.withStandby page
        engine := s.engine.answered rest
          (finalResponse r rest .ok [s.switch.active.other.code] false) }
      ∧ ∀ (l : Line) (t : Slot),
          entryAt page l t =
            if l = line ∧ start ≤ t.val ∧ t.val < start + entries.length then
              entries.getD (t.val - start) .release
            else entryAt s.switch.standbyPage l t)
    ∧ (∀ (s : State) (r : Request) (rest : List Request) (line start count : Byte)
    (octets : List Byte),
    s.takes r rest → r.kind = 0x18 → r.payload = line :: start :: count :: octets →
    let fits := octets.length = 4 * count.toNat ∧ 1 ≤ count.toNat ∧ count.toNat ≤ 14
    let inRange := line.toNat < 8 ∧ start.toNat < 64 ∧ start.toNat + count.toNat ≤ 64
    (¬ fits →
        exec .writeEntries s =
          .next (s.answered r rest .badLength [BitVec.ofNat 8 r.payload.length]))
      ∧ (fits → ¬ inRange → exec .writeEntries s = .next (s.answered r rest .badValue [0xFF]))
      ∧ (fits → inRange → s.mc.state ≠ .idle →
          exec .writeEntries s = .next (s.answered r rest .pageBusy [0xFF]))
      ∧ (∀ (l : Line) (k : Nat) (status : Status), fits → inRange → s.mc.state = .idle →
          l.val = line.toNat → k < count.toNat →
          let refusal := fun j => s.entryRefusal l (Fin.ofNat 64 (start.toNat + j))
            (octets.getD (4 * j) 0, octets.getD (4 * j + 1) 0, octets.getD (4 * j + 2) 0,
              octets.getD (4 * j + 3) 0)
          (∀ j, j < k → refusal j = none) → refusal k = some status →
          exec .writeEntries s = .next (s.answered r rest status [BitVec.ofNat 8 k])))
    ∧ (∀ (s : State) (r : Request) (rest : List Request), s.takes r rest → r.kind = 0x18 →
    r.payload.length < 3 →
    exec .writeEntries s = .next (s.answered r rest .badLength [BitVec.ofNat 8 r.payload.length]))

/-- Copy Page, Clear Page and Swap Pages in IDLE are handed to the Map Controller: progress 0 and end frame SFN+8, or target SFN+1; the SEQ becomes its owner, a response place is reserved, and nothing is answered yet (R25 to R27, R30, R33, R151).

A page operation in flight refuses the next one with PAGE_BUSY and the Map Controller's state code, and is left as it is (R26, R32, R35). -/
def Obligations.PageOperationsAreAccepted : Prop :=
  (∀ (s : State) (r : Request) (rest : List Request), s.takes r rest → r.payload = [] →
    s.mc.state = .idle →
    let accepted := fun mc : MapController => { s with
      mc := mc, engine := { s.engine with requests := rest, reserved := true } }
    (r.kind = 0x20 →
        exec .copyPage s = .next (accepted
          { s.mc with state := .copying 0 r.seq, endFrame := some (s.timing.sfn + 8) }))
      ∧ (r.kind = 0x21 →
        exec .clearPage s = .next (accepted
          { s.mc with state := .clearing 0 r.seq, endFrame := some (s.timing.sfn + 8) }))
      ∧ (r.kind = 0x22 →
        exec .swapPages s = .next (accepted
          { s.mc with state := .swapPending (s.timing.sfn + 1) r.seq })))
    ∧ (∀ (s : State) (r : Request) (rest : List Request), s.takes r rest → r.payload = [] →
    s.mc.state ≠ .idle →
    let busy := s.answered r rest .pageBusy
      [match s.mc.state with
        | .idle => 0
        | .copying _ _ => 1
        | .clearing _ _ => 2
        | .swapPending _ _ => 3]
    (r.kind = 0x20 → exec .copyPage s = .next busy)
      ∧ (r.kind = 0x21 → exec .clearPage s = .next busy)
      ∧ (r.kind = 0x22 → exec .swapPages s = .next busy))

/-! ### Requests: the schedule -/

/-- An accepted Add Schedule adds one entry with the lowest free tag behind every entry due no later and before every entry due later, and answers tag, due frame, distance and the number of entries (R116, R117, R119, R120).

Add Schedule is refused and changes nothing: TOO_LATE at distance 0, 1 or above 2^31, TOO_FAR above 2^24, TABLE_FULL at eight entries, BAD_VALUE for the action or the index, in this order (R119). -/
def Obligations.AddScheduleInsertsInOrder : Prop :=
  (∀ (s : State) (r : Request) (rest : List Request) (due : Word) (action : Action)
    (index : Byte) (value : Word),
    s.takes r rest → r.kind = 0x28 → s.scheduleLaw → s.schedule.length < 8 →
    2 ≤ (due - s.timing.sfn).toNat → (due - s.timing.sfn).toNat ≤ 2 ^ 24 →
    r.payload = wordOctets due
      ++ (match action with
        | .swap => [0, index] ++ wordOctets value
        | .pattern i v => [1, BitVec.ofNat 8 i.val] ++ wordOctets v) →
    ∃ (tag : Nat) (before after : List ScheduleEntry),
      s.schedule = before ++ after ∧ 1 ≤ tag ∧ tag ≤ 255
        ∧ (∀ e ∈ s.schedule, e.tag ≠ tag)
        ∧ (∀ u, 1 ≤ u → u < tag → ∃ e ∈ s.schedule, e.tag = u)
        ∧ (∀ e ∈ before, distanceAhead e.due s.timing.sfn ≤ distanceAhead due s.timing.sfn)
        ∧ (∀ e ∈ after, distanceAhead due s.timing.sfn < distanceAhead e.due s.timing.sfn)
        ∧ exec .addSchedule s = .next { s with
            schedule := before ++ { tag := tag, due := due, action := action } :: after
            engine := s.engine.answered rest
              (finalResponse r rest .ok
                ([BitVec.ofNat 8 tag] ++ wordOctets due ++ wordOctets (due - s.timing.sfn)
                  ++ [BitVec.ofNat 8 (s.schedule.length + 1)]) false) })
    ∧ (∀ (s : State) (r : Request) (rest : List Request) (due value : Word) (action index : Byte),
    s.takes r rest → r.kind = 0x28 →
    r.payload = wordOctets due ++ [action, index] ++ wordOctets value →
    let d := (due - s.timing.sfn).toNat
    let inWindow := 2 ≤ d ∧ d ≤ 2 ^ 24
    (d ≤ 1 ∨ 2 ^ 31 < d → exec .addSchedule s = .next (s.answered r rest .tooLate [0]))
      ∧ (2 ^ 24 < d → d ≤ 2 ^ 31 → exec .addSchedule s = .next (s.answered r rest .tooFar [0]))
      ∧ (inWindow → 8 ≤ s.schedule.length →
          exec .addSchedule s = .next (s.answered r rest .tableFull [8]))
      ∧ (inWindow → s.schedule.length < 8 → 2 ≤ action.toNat →
          exec .addSchedule s = .next (s.answered r rest .badValue [1]))
      ∧ (inWindow → s.schedule.length < 8 → action = 1 → 16 ≤ index.toNat →
          exec .addSchedule s = .next (s.answered r rest .badValue [2])))

/-- Cancel Schedule removes the entry that holds the tag and describes it; with no such entry it is refused NOT_FOUND and the table stays (R125). -/
def Obligations.CancelScheduleRemovesTheEntry : Prop :=
  ∀ (s : State) (r : Request) (rest : List Request) (tag : Byte),
    s.takes r rest → r.kind = 0x29 → r.payload = [tag] →
    (∀ (before after : List ScheduleEntry) (e : ScheduleEntry),
        s.schedule = before ++ e :: after → e.tag = tag.toNat →
        (∀ x ∈ before, x.tag ≠ tag.toNat) →
        exec .cancelSchedule s = .next { s with
          schedule := before ++ after
          engine := s.engine.answered rest
            (finalResponse r rest .ok
              ((match e.action with
                  | .swap => [tag, 0, 0]
                  | .pattern i _ => [tag, 1, BitVec.ofNat 8 i.val])
                ++ wordOctets e.due) false) })
      ∧ ((∀ e ∈ s.schedule, e.tag ≠ tag.toNat) →
          exec .cancelSchedule s = .next (s.answered r rest .notFound [0]))

/-! ### Requests: the channel and the restarts -/

/-- An accepted Move Channel makes its location pending and CONTROL in both pages, clears the mark, answers OK with a hold mark and holds the executor (R150, R174 to R176).

Move Channel is refused and changes nothing: MOVE_BUSY in TRIAL, OVERLAP with the current location, NOT_READY with the sides that are off or 04h when the line is not ALIGNED (R175, checks 2 to 4); IN_USE, 00h where a transmit position of the location is not RELEASE in some page, else 01h where an entry of some page has a receive position of it as source (R175, check 5).

A field out of range refuses it with BAD_VALUE and the DETAIL of the first check that fails: line, first slot, width, fit in S (R175, check 1). -/
def Obligations.MoveChannelIsAccepted : Prop :=
  (∀ (s : State) (r : Request) (rest : List Request) (loc : Location),
    s.takes r rest → r.kind = 0x38 →
    r.payload = [BitVec.ofNat 8 loc.line.val, BitVec.ofNat 8 loc.first.val,
      BitVec.ofNat 8 loc.width] →
    let p := s.port loc.line
    1 ≤ loc.width → loc.width ≤ 4 → loc.first.val + loc.width ≤ p.record.slots →
    s.link.state = .settled →
    (∀ slot : Slot, loc.covers loc.line slot = true →
        s.link.current.covers loc.line slot = false) →
    loc.first.val + loc.width ≤ 64 →
    p.record.rxOn = true → p.record.txOn = true → p.rx.state = .aligned →
    (∀ (name : PageName) (slot : Slot), loc.covers loc.line slot = true →
        entryAt (s.switch.page name) loc.line slot = .release) →
    (∀ (name : PageName) (l : Line) (t u : Slot) (source : Line) (justify : Justify),
        entryAt (s.switch.page name) l t = .slot source u justify → loc.covers source u = false) →
    s.link.current.first.val + s.link.current.width ≤ 64 → 1 ≤ s.link.current.width →
    ∃ t, exec .moveChannel s = .next t
      ∧ t.link = { s.link with pendingMove := some loc, lineLost := false }
      ∧ t.engine =
        { s.engine.answered rest (finalResponse r rest .ok r.payload true) with executor := .held }
      ∧ (∀ (name : PageName) (l : Line) (u : Slot),
          entryAt (t.switch.page name) l u =
            if loc.covers l u = true then .control else entryAt (s.switch.page name) l u)
      ∧ t.switch.active = s.switch.active ∧ t.switch.patterns = s.switch.patterns
      ∧ t.ports = s.ports ∧ t.stores = s.stores ∧ t.timing = s.timing ∧ t.schedule = s.schedule
      ∧ t.mc = s.mc ∧ t.probes = s.probes ∧ t.notices = s.notices ∧ t.opening = s.opening)
    ∧ (∀ (s : State) (r : Request) (rest : List Request) (loc : Location),
    s.takes r rest → r.kind = 0x38 →
    r.payload = [BitVec.ofNat 8 loc.line.val, BitVec.ofNat 8 loc.first.val,
      BitVec.ofNat 8 loc.width] →
    let p := s.port loc.line
    let k := s.link.current
    1 ≤ loc.width → loc.width ≤ 4 → loc.first.val + loc.width ≤ p.record.slots →
    let overlap := k.line = loc.line ∧ loc.first.val < k.first.val + k.width
      ∧ k.first.val < loc.first.val + loc.width
    (s.link.state = .trial → exec .moveChannel s = .next (s.answered r rest .moveBusy [0]))
      ∧ (s.link.state = .settled → overlap →
          exec .moveChannel s = .next (s.answered r rest .overlap [0]))
      ∧ (s.link.state = .settled → ¬ overlap → p.record.rxOn = false ∨ p.record.txOn = false →
          exec .moveChannel s = .next (s.answered r rest .notReady
            [if p.record.rxOn = false ∧ p.record.txOn = false then 3
              else if p.record.rxOn = false then 1 else 2]))
      ∧ (s.link.state = .settled → ¬ overlap → p.record.rxOn = true → p.record.txOn = true →
          p.rx.state ≠ .aligned → exec .moveChannel s = .next (s.answered r rest .notReady [4]))
      ∧ (s.link.state = .settled → ¬ overlap → p.record.rxOn = true → p.record.txOn = true →
          p.rx.state = .aligned → loc.first.val + loc.width ≤ 64 →
          let taken := ∃ (name : PageName) (slot : Slot), loc.covers loc.line slot = true
            ∧ entryAt (s.switch.page name) loc.line slot ≠ .release
          let named := ∃ (name : PageName) (l : Line) (t u : Slot) (source : Line)
            (justify : Justify), entryAt (s.switch.page name) l t = .slot source u justify
              ∧ loc.covers source u = true
          (taken → exec .moveChannel s = .next (s.answered r rest .inUse [0]))
            ∧ (¬ taken → named → exec .moveChannel s = .next (s.answered r rest .inUse [1]))))
    ∧ (∀ (s : State) (r : Request) (rest : List Request) (line first width : Byte) (check : Nat),
    s.takes r rest → r.kind = 0x38 → r.payload = [line, first, width] →
    [decide (line.toNat ≤ 7), decide (first.toNat ≤ 63),
        decide (1 ≤ width.toNat ∧ width.toNat ≤ 4),
        decide (first.toNat + width.toNat ≤
          (s.port (Fin.ofNat 8 line.toNat)).record.slots)].idxOf? false = some check →
    exec .moveChannel s =
      .next (s.answered r rest .badValue [([0, 1, 2, 1] : List Byte).getD check 0]))

/-- Restart of scope FULL answers OK with a hold mark, holds the executor and restarts nothing in that act (R150, R159, R161).

A Restart of any other scope is refused BAD_VALUE, DETAIL 00h, and restarts nothing, whichever of the two rows carries it out (R159; that both rows may is log 9). -/
def Obligations.RestartFullOnlyAnswersAndHolds : Prop :=
  (∀ (s : State) (r : Request) (rest : List Request), s.takes r rest → r.kind = 0x03 →
    r.payload = [1] →
    exec .restartFull s = .next { s with
      engine :=
        { s.engine.answered rest (finalResponse r rest .ok [1] true) with executor := .held } })
    ∧ (∀ (s : State) (r : Request) (rest : List Request) (scope : Byte), s.takes r rest →
    r.kind = 0x03 → r.payload = [scope] → scope ≠ 1 → scope ≠ 2 →
    exec .restartFull s = .next (s.answered r rest .badValue [0])
      ∧ exec .restartSwitch s = .next (s.answered r rest .badValue [0]))

/-- Restart of scope SWITCH aborts the page operation in flight with an ABORTED response, rebuilds both pages around the management positions with page A active, empties patterns, schedule table and probes, and answers OK; lines, stores, timing, link and notices stay (R21, R22, R39, R129, R142, R160). -/
def Obligations.RestartSwitchRebuildsTheCrossConnect : Prop :=
  ∀ (s : State) (r : Request) (rest : List Request), s.takes r rest → r.kind = 0x03 →
    r.payload = [2] →
    ∃ t, exec .restartSwitch s = .next t
      ∧ (∀ (name : PageName) (line : Line) (slot : Slot),
          entryAt (t.switch.page name) line slot =
            if s.management line slot = true then .control else .release)
      ∧ t.switch.active = .a
      ∧ (∀ i : PatternIndex, t.pattern i = { present := 0, pending := none })
      ∧ t.schedule = []
      ∧ t.mc = { state := .idle, lastSwap := none, endFrame := none }
      ∧ (∀ i : ProbeIndex,
          t.probe i =
            { mode := .off, side := .rx, line := 0, slot := 0, value := 0, mask := 0
              hits := 0, last := none, capture := none })
      ∧ (let aborted := fun (kind owner detail : Byte) => ({
            kind := kind, seq := owner, status := .aborted
            credit := BitVec.ofNat 8 (4 - rest.length), data := [detail], hold := false } : Response)
        let ok := finalResponse r rest .ok [2] false
        match s.mc.state with
        | .idle => t.engine = s.engine.answered rest ok
        | .copying progress owner =>
          t.engine =
            { (s.engine.answered rest (aborted 0xA0 owner (BitVec.ofNat 8 progress.val))).answered
                rest ok with reserved := false }
        | .clearing progress owner =>
          t.engine =
            { (s.engine.answered rest (aborted 0xA1 owner (BitVec.ofNat 8 progress.val))).answered
                rest ok with reserved := false }
        | .swapPending _ owner =>
          t.engine =
            { (s.engine.answered rest (aborted 0xA2 owner 0)).answered rest ok with
              reserved := false })
      ∧ t.ports = s.ports ∧ t.stores = s.stores ∧ t.timing = s.timing ∧ t.link = s.link
      ∧ t.notices = s.notices ∧ t.held = s.held ∧ t.opening = s.opening

/-! ### Laws every step keeps -/

/-- Every step keeps the link's fields fitting its state, and CONTROL exactly at the management positions of both pages (R4, R5, R164).

Every step keeps the law on sources: no entry takes one from a management position or from beyond its line's S (R6). -/
def Obligations.StepsKeepTheMapLaw : Prop :=
  (∀ s t : State, s.linkLaw ∧ s.mapLaw → step s = .next t → t.linkLaw ∧ t.mapLaw)
    ∧ (∀ s t : State, s.linkLaw ∧ s.sourceLaw → step s = .next t → t.sourceLaw)

/-- Every step keeps the law of the elastic stores (R84).

Every step keeps every stored frame in its line's present format (R46, R61). -/
def Obligations.StepsKeepTheStoreLaw : Prop :=
  (∀ s t : State, s.storeLaw → step s = .next t → t.storeLaw)
    ∧ (∀ s t : State, s.formatLaw → step s = .next t → t.formatLaw)

/-- Every step keeps the channel's lines in service and its locations within their frames (R60).

Every step keeps the Timing Unit's record lawful where the store law holds too, by which a framer is OFF just while its receive side is (R63, R98, R102 to R105).

Every step leaves the model's own record of shares taken ahead empty between boundaries (log 6). -/
def Obligations.StepsKeepTheLineAndTimingLaws : Prop :=
  (∀ s t : State, s.lineLaw → step s = .next t → t.lineLaw)
    ∧ (∀ s t : State, s.storeLaw ∧ s.timingLaw → step s = .next t → t.timingLaw)
    ∧ (∀ s t : State, s.openingLaw → step s = .next t → t.openingLaw)

/-- Every step keeps the schedule table lawful: capacity, tags, window and order (R115 to R118). -/
def Obligations.StepsKeepTheScheduleLaw : Prop :=
  ∀ s t : State, s.scheduleLaw → step s = .next t → t.scheduleLaw

/-- Every step keeps the queues within their capacities and each sequence number in one place (R25, R143, R146, R154).

Every step keeps every queued request, waiting response and cached response within a message (R167, R168, R202). -/
def Obligations.StepsKeepTheSequenceLaw : Prop :=
  (∀ s t : State, s.queueLaw ∧ s.seqLaw → step s = .next t → t.queueLaw ∧ t.seqLaw)
    ∧ (∀ s t : State, s.payloadLaw → step s = .next t → t.payloadLaw)

/-- Every step keeps the Notice Unit lawful and the transmitter on a queue's head (R188, R190, R192 to R194). -/
def Obligations.StepsKeepTheNoticeLaw : Prop :=
  ∀ s t : State, s.notices.law ∧ s.sendLaw → step s = .next t → t.notices.law ∧ t.sendLaw

/-- Every step keeps the executor HELD just while a hold-marked response waits or has stopped the transmitter (R150, R174). -/
def Obligations.StepsKeepTheHoldLaw : Prop :=
  ∀ s t : State, s.sendLaw ∧ s.holdLaw ∧ s.linkLaw → step s = .next t → t.holdLaw

/-- A capture record, once present, stays as it is through every step but a Set Probe, a Read Probe, a restart and a power-up (R137).

Outside the restarts the SFN moves by at most 1, and at BOUNDARY alone (R99), or at SCHEDULE_FIRING, whose act is the Timing Unit's (R121; that a command takes that act ahead of BOUNDARY is log 6). A BOUNDARY that falls moves it by 1, unless SCHEDULE_FIRING has. -/
def Obligations.WhatOnlySomeCommandsChange : Prop :=
  (∀ (s t : State) (c : Instr) (i : ProbeIndex) (record : Capture),
    (s.probe i).capture = some record → exec c s = .next t →
    (∀ straps high, c ≠ .powerUp straps high) → (∀ straps, c ≠ .restartN straps) →
    (∀ straps, c ≠ .restartNRelease straps) → (∀ straps, c ≠ .fullRestartBoundary straps) →
    (∀ order, c = .boundary order → s.restartDue = false) →
    c ≠ .setProbe → c ≠ .readProbe → c ≠ .restartSwitch →
    (t.probe i).capture = some record)
    ∧ (∀ (s t : State) (c : Instr), exec c s = .next t →
    (∀ straps high, c ≠ .powerUp straps high) → (∀ straps, c ≠ .restartN straps) →
    (∀ straps, c ≠ .restartNRelease straps) → (∀ straps, c ≠ .fullRestartBoundary straps) →
    (∀ order, c = .boundary order → s.restartDue = false) →
    let same := t.timing.sfn = s.timing.sfn
    let next := t.timing.sfn = s.timing.sfn + 1
    (same ∨ next)
      ∧ ((∀ order, c ≠ .boundary order) → c ≠ .scheduleFiring → same)
      ∧ (∀ order, c = .boundary ⟨order, []⟩ → s.boundaryDue = true →
          (s.opening.timingDone = false → next) ∧ (s.opening.timingDone = true → same))
      ∧ (∀ order line c', c = .boundary order → c' ∈ order.within → c'.line = line →
          s.timing.selector.line = some line → s.placesBoundary line = true →
          s.opening.timingDone = false → next)
      ∧ (c = .scheduleFiring → s.numberedDue = true → s.opening.timingDone = false →
          (∃ e ∈ s.schedule, e.due = s.timing.sfn + 1) → next))
end

