-- ==== Sys2Proof/Laws/State.lean ====
section
/-! SUPPORT. One lemma per field per update of State, so that no later proof unfolds a record update. -/

namespace Sys2Proof.Machine

@[simp] theorem State.withPorts_straps (s : State) (v : Vector LinePort 8) :
    (s.withPorts v).straps = s.straps := rfl
@[simp] theorem State.withPorts_held (s : State) (v : Vector LinePort 8) :
    (s.withPorts v).held = s.held := rfl
@[simp] theorem State.withPorts_ports (s : State) (v : Vector LinePort 8) :
    (s.withPorts v).ports = v := rfl
@[simp] theorem State.withPorts_stores (s : State) (v : Vector LinePort 8) :
    (s.withPorts v).stores = s.stores := rfl
@[simp] theorem State.withPorts_timing (s : State) (v : Vector LinePort 8) :
    (s.withPorts v).timing = s.timing := rfl
@[simp] theorem State.withPorts_schedule (s : State) (v : Vector LinePort 8) :
    (s.withPorts v).schedule = s.schedule := rfl
@[simp] theorem State.withPorts_switch (s : State) (v : Vector LinePort 8) :
    (s.withPorts v).switch = s.switch := rfl
@[simp] theorem State.withPorts_mc (s : State) (v : Vector LinePort 8) :
    (s.withPorts v).mc = s.mc := rfl
@[simp] theorem State.withPorts_probes (s : State) (v : Vector LinePort 8) :
    (s.withPorts v).probes = s.probes := rfl
@[simp] theorem State.withPorts_engine (s : State) (v : Vector LinePort 8) :
    (s.withPorts v).engine = s.engine := rfl
@[simp] theorem State.withPorts_link (s : State) (v : Vector LinePort 8) :
    (s.withPorts v).link = s.link := rfl
@[simp] theorem State.withPorts_notices (s : State) (v : Vector LinePort 8) :
    (s.withPorts v).notices = s.notices := rfl
@[simp] theorem State.withPorts_opening (s : State) (v : Vector LinePort 8) :
    (s.withPorts v).opening = s.opening := rfl
@[simp] theorem State.withPorts_pending (s : State) (v : Vector LinePort 8) :
    (s.withPorts v).pending = s.pending := rfl

@[simp] theorem State.withStores_straps (s : State) (v : Vector Store 8) :
    (s.withStores v).straps = s.straps := rfl
@[simp] theorem State.withStores_held (s : State) (v : Vector Store 8) :
    (s.withStores v).held = s.held := rfl
@[simp] theorem State.withStores_ports (s : State) (v : Vector Store 8) :
    (s.withStores v).ports = s.ports := rfl
@[simp] theorem State.withStores_stores (s : State) (v : Vector Store 8) :
    (s.withStores v).stores = v := rfl
@[simp] theorem State.withStores_timing (s : State) (v : Vector Store 8) :
    (s.withStores v).timing = s.timing := rfl
@[simp] theorem State.withStores_schedule (s : State) (v : Vector Store 8) :
    (s.withStores v).schedule = s.schedule := rfl
@[simp] theorem State.withStores_switch (s : State) (v : Vector Store 8) :
    (s.withStores v).switch = s.switch := rfl
@[simp] theorem State.withStores_mc (s : State) (v : Vector Store 8) :
    (s.withStores v).mc = s.mc := rfl
@[simp] theorem State.withStores_probes (s : State) (v : Vector Store 8) :
    (s.withStores v).probes = s.probes := rfl
@[simp] theorem State.withStores_engine (s : State) (v : Vector Store 8) :
    (s.withStores v).engine = s.engine := rfl
@[simp] theorem State.withStores_link (s : State) (v : Vector Store 8) :
    (s.withStores v).link = s.link := rfl
@[simp] theorem State.withStores_notices (s : State) (v : Vector Store 8) :
    (s.withStores v).notices = s.notices := rfl
@[simp] theorem State.withStores_opening (s : State) (v : Vector Store 8) :
    (s.withStores v).opening = s.opening := rfl
@[simp] theorem State.withStores_pending (s : State) (v : Vector Store 8) :
    (s.withStores v).pending = s.pending := rfl

@[simp] theorem State.withTiming_straps (s : State) (v : Timing) :
    (s.withTiming v).straps = s.straps := rfl
@[simp] theorem State.withTiming_held (s : State) (v : Timing) :
    (s.withTiming v).held = s.held := rfl
@[simp] theorem State.withTiming_ports (s : State) (v : Timing) :
    (s.withTiming v).ports = s.ports := rfl
@[simp] theorem State.withTiming_stores (s : State) (v : Timing) :
    (s.withTiming v).stores = s.stores := rfl
@[simp] theorem State.withTiming_timing (s : State) (v : Timing) :
    (s.withTiming v).timing = v := rfl
@[simp] theorem State.withTiming_schedule (s : State) (v : Timing) :
    (s.withTiming v).schedule = s.schedule := rfl
@[simp] theorem State.withTiming_switch (s : State) (v : Timing) :
    (s.withTiming v).switch = s.switch := rfl
@[simp] theorem State.withTiming_mc (s : State) (v : Timing) :
    (s.withTiming v).mc = s.mc := rfl
@[simp] theorem State.withTiming_probes (s : State) (v : Timing) :
    (s.withTiming v).probes = s.probes := rfl
@[simp] theorem State.withTiming_engine (s : State) (v : Timing) :
    (s.withTiming v).engine = s.engine := rfl
@[simp] theorem State.withTiming_link (s : State) (v : Timing) :
    (s.withTiming v).link = s.link := rfl
@[simp] theorem State.withTiming_notices (s : State) (v : Timing) :
    (s.withTiming v).notices = s.notices := rfl
@[simp] theorem State.withTiming_opening (s : State) (v : Timing) :
    (s.withTiming v).opening = s.opening := rfl
@[simp] theorem State.withTiming_pending (s : State) (v : Timing) :
    (s.withTiming v).pending = s.pending := rfl

@[simp] theorem State.withSchedule_straps (s : State) (v : List ScheduleEntry) :
    (s.withSchedule v).straps = s.straps := rfl
@[simp] theorem State.withSchedule_held (s : State) (v : List ScheduleEntry) :
    (s.withSchedule v).held = s.held := rfl
@[simp] theorem State.withSchedule_ports (s : State) (v : List ScheduleEntry) :
    (s.withSchedule v).ports = s.ports := rfl
@[simp] theorem State.withSchedule_stores (s : State) (v : List ScheduleEntry) :
    (s.withSchedule v).stores = s.stores := rfl
@[simp] theorem State.withSchedule_timing (s : State) (v : List ScheduleEntry) :
    (s.withSchedule v).timing = s.timing := rfl
@[simp] theorem State.withSchedule_schedule (s : State) (v : List ScheduleEntry) :
    (s.withSchedule v).schedule = v := rfl
@[simp] theorem State.withSchedule_switch (s : State) (v : List ScheduleEntry) :
    (s.withSchedule v).switch = s.switch := rfl
@[simp] theorem State.withSchedule_mc (s : State) (v : List ScheduleEntry) :
    (s.withSchedule v).mc = s.mc := rfl
@[simp] theorem State.withSchedule_probes (s : State) (v : List ScheduleEntry) :
    (s.withSchedule v).probes = s.probes := rfl
@[simp] theorem State.withSchedule_engine (s : State) (v : List ScheduleEntry) :
    (s.withSchedule v).engine = s.engine := rfl
@[simp] theorem State.withSchedule_link (s : State) (v : List ScheduleEntry) :
    (s.withSchedule v).link = s.link := rfl
@[simp] theorem State.withSchedule_notices (s : State) (v : List ScheduleEntry) :
    (s.withSchedule v).notices = s.notices := rfl
@[simp] theorem State.withSchedule_opening (s : State) (v : List ScheduleEntry) :
    (s.withSchedule v).opening = s.opening := rfl
@[simp] theorem State.withSchedule_pending (s : State) (v : List ScheduleEntry) :
    (s.withSchedule v).pending = s.pending := rfl

@[simp] theorem State.withSwitch_straps (s : State) (v : Switch) :
    (s.withSwitch v).straps = s.straps := rfl
@[simp] theorem State.withSwitch_held (s : State) (v : Switch) :
    (s.withSwitch v).held = s.held := rfl
@[simp] theorem State.withSwitch_ports (s : State) (v : Switch) :
    (s.withSwitch v).ports = s.ports := rfl
@[simp] theorem State.withSwitch_stores (s : State) (v : Switch) :
    (s.withSwitch v).stores = s.stores := rfl
@[simp] theorem State.withSwitch_timing (s : State) (v : Switch) :
    (s.withSwitch v).timing = s.timing := rfl
@[simp] theorem State.withSwitch_schedule (s : State) (v : Switch) :
    (s.withSwitch v).schedule = s.schedule := rfl
@[simp] theorem State.withSwitch_switch (s : State) (v : Switch) :
    (s.withSwitch v).switch = v := rfl
@[simp] theorem State.withSwitch_mc (s : State) (v : Switch) :
    (s.withSwitch v).mc = s.mc := rfl
@[simp] theorem State.withSwitch_probes (s : State) (v : Switch) :
    (s.withSwitch v).probes = s.probes := rfl
@[simp] theorem State.withSwitch_engine (s : State) (v : Switch) :
    (s.withSwitch v).engine = s.engine := rfl
@[simp] theorem State.withSwitch_link (s : State) (v : Switch) :
    (s.withSwitch v).link = s.link := rfl
@[simp] theorem State.withSwitch_notices (s : State) (v : Switch) :
    (s.withSwitch v).notices = s.notices := rfl
@[simp] theorem State.withSwitch_opening (s : State) (v : Switch) :
    (s.withSwitch v).opening = s.opening := rfl
@[simp] theorem State.withSwitch_pending (s : State) (v : Switch) :
    (s.withSwitch v).pending = s.pending := rfl

@[simp] theorem State.withMc_straps (s : State) (v : MapController) :
    (s.withMc v).straps = s.straps := rfl
@[simp] theorem State.withMc_held (s : State) (v : MapController) :
    (s.withMc v).held = s.held := rfl
@[simp] theorem State.withMc_ports (s : State) (v : MapController) :
    (s.withMc v).ports = s.ports := rfl
@[simp] theorem State.withMc_stores (s : State) (v : MapController) :
    (s.withMc v).stores = s.stores := rfl
@[simp] theorem State.withMc_timing (s : State) (v : MapController) :
    (s.withMc v).timing = s.timing := rfl
@[simp] theorem State.withMc_schedule (s : State) (v : MapController) :
    (s.withMc v).schedule = s.schedule := rfl
@[simp] theorem State.withMc_switch (s : State) (v : MapController) :
    (s.withMc v).switch = s.switch := rfl
@[simp] theorem State.withMc_mc (s : State) (v : MapController) :
    (s.withMc v).mc = v := rfl
@[simp] theorem State.withMc_probes (s : State) (v : MapController) :
    (s.withMc v).probes = s.probes := rfl
@[simp] theorem State.withMc_engine (s : State) (v : MapController) :
    (s.withMc v).engine = s.engine := rfl
@[simp] theorem State.withMc_link (s : State) (v : MapController) :
    (s.withMc v).link = s.link := rfl
@[simp] theorem State.withMc_notices (s : State) (v : MapController) :
    (s.withMc v).notices = s.notices := rfl
@[simp] theorem State.withMc_opening (s : State) (v : MapController) :
    (s.withMc v).opening = s.opening := rfl
@[simp] theorem State.withMc_pending (s : State) (v : MapController) :
    (s.withMc v).pending = s.pending := rfl

@[simp] theorem State.withProbes_straps (s : State) (v : Vector Probe 4) :
    (s.withProbes v).straps = s.straps := rfl
@[simp] theorem State.withProbes_held (s : State) (v : Vector Probe 4) :
    (s.withProbes v).held = s.held := rfl
@[simp] theorem State.withProbes_ports (s : State) (v : Vector Probe 4) :
    (s.withProbes v).ports = s.ports := rfl
@[simp] theorem State.withProbes_stores (s : State) (v : Vector Probe 4) :
    (s.withProbes v).stores = s.stores := rfl
@[simp] theorem State.withProbes_timing (s : State) (v : Vector Probe 4) :
    (s.withProbes v).timing = s.timing := rfl
@[simp] theorem State.withProbes_schedule (s : State) (v : Vector Probe 4) :
    (s.withProbes v).schedule = s.schedule := rfl
@[simp] theorem State.withProbes_switch (s : State) (v : Vector Probe 4) :
    (s.withProbes v).switch = s.switch := rfl
@[simp] theorem State.withProbes_mc (s : State) (v : Vector Probe 4) :
    (s.withProbes v).mc = s.mc := rfl
@[simp] theorem State.withProbes_probes (s : State) (v : Vector Probe 4) :
    (s.withProbes v).probes = v := rfl
@[simp] theorem State.withProbes_engine (s : State) (v : Vector Probe 4) :
    (s.withProbes v).engine = s.engine := rfl
@[simp] theorem State.withProbes_link (s : State) (v : Vector Probe 4) :
    (s.withProbes v).link = s.link := rfl
@[simp] theorem State.withProbes_notices (s : State) (v : Vector Probe 4) :
    (s.withProbes v).notices = s.notices := rfl
@[simp] theorem State.withProbes_opening (s : State) (v : Vector Probe 4) :
    (s.withProbes v).opening = s.opening := rfl
@[simp] theorem State.withProbes_pending (s : State) (v : Vector Probe 4) :
    (s.withProbes v).pending = s.pending := rfl

@[simp] theorem State.withEngine_straps (s : State) (v : RequestEngine) :
    (s.withEngine v).straps = s.straps := rfl
@[simp] theorem State.withEngine_held (s : State) (v : RequestEngine) :
    (s.withEngine v).held = s.held := rfl
@[simp] theorem State.withEngine_ports (s : State) (v : RequestEngine) :
    (s.withEngine v).ports = s.ports := rfl
@[simp] theorem State.withEngine_stores (s : State) (v : RequestEngine) :
    (s.withEngine v).stores = s.stores := rfl
@[simp] theorem State.withEngine_timing (s : State) (v : RequestEngine) :
    (s.withEngine v).timing = s.timing := rfl
@[simp] theorem State.withEngine_schedule (s : State) (v : RequestEngine) :
    (s.withEngine v).schedule = s.schedule := rfl
@[simp] theorem State.withEngine_switch (s : State) (v : RequestEngine) :
    (s.withEngine v).switch = s.switch := rfl
@[simp] theorem State.withEngine_mc (s : State) (v : RequestEngine) :
    (s.withEngine v).mc = s.mc := rfl
@[simp] theorem State.withEngine_probes (s : State) (v : RequestEngine) :
    (s.withEngine v).probes = s.probes := rfl
@[simp] theorem State.withEngine_engine (s : State) (v : RequestEngine) :
    (s.withEngine v).engine = v := rfl
@[simp] theorem State.withEngine_link (s : State) (v : RequestEngine) :
    (s.withEngine v).link = s.link := rfl
@[simp] theorem State.withEngine_notices (s : State) (v : RequestEngine) :
    (s.withEngine v).notices = s.notices := rfl
@[simp] theorem State.withEngine_opening (s : State) (v : RequestEngine) :
    (s.withEngine v).opening = s.opening := rfl
@[simp] theorem State.withEngine_pending (s : State) (v : RequestEngine) :
    (s.withEngine v).pending = s.pending := rfl

@[simp] theorem State.withLink_straps (s : State) (v : Link) :
    (s.withLink v).straps = s.straps := rfl
@[simp] theorem State.withLink_held (s : State) (v : Link) :
    (s.withLink v).held = s.held := rfl
@[simp] theorem State.withLink_ports (s : State) (v : Link) :
    (s.withLink v).ports = s.ports := rfl
@[simp] theorem State.withLink_stores (s : State) (v : Link) :
    (s.withLink v).stores = s.stores := rfl
@[simp] theorem State.withLink_timing (s : State) (v : Link) :
    (s.withLink v).timing = s.timing := rfl
@[simp] theorem State.withLink_schedule (s : State) (v : Link) :
    (s.withLink v).schedule = s.schedule := rfl
@[simp] theorem State.withLink_switch (s : State) (v : Link) :
    (s.withLink v).switch = s.switch := rfl
@[simp] theorem State.withLink_mc (s : State) (v : Link) :
    (s.withLink v).mc = s.mc := rfl
@[simp] theorem State.withLink_probes (s : State) (v : Link) :
    (s.withLink v).probes = s.probes := rfl
@[simp] theorem State.withLink_engine (s : State) (v : Link) :
    (s.withLink v).engine = s.engine := rfl
@[simp] theorem State.withLink_link (s : State) (v : Link) :
    (s.withLink v).link = v := rfl
@[simp] theorem State.withLink_notices (s : State) (v : Link) :
    (s.withLink v).notices = s.notices := rfl
@[simp] theorem State.withLink_opening (s : State) (v : Link) :
    (s.withLink v).opening = s.opening := rfl
@[simp] theorem State.withLink_pending (s : State) (v : Link) :
    (s.withLink v).pending = s.pending := rfl

@[simp] theorem State.withNotices_straps (s : State) (v : NoticeUnit) :
    (s.withNotices v).straps = s.straps := rfl
@[simp] theorem State.withNotices_held (s : State) (v : NoticeUnit) :
    (s.withNotices v).held = s.held := rfl
@[simp] theorem State.withNotices_ports (s : State) (v : NoticeUnit) :
    (s.withNotices v).ports = s.ports := rfl
@[simp] theorem State.withNotices_stores (s : State) (v : NoticeUnit) :
    (s.withNotices v).stores = s.stores := rfl
@[simp] theorem State.withNotices_timing (s : State) (v : NoticeUnit) :
    (s.withNotices v).timing = s.timing := rfl
@[simp] theorem State.withNotices_schedule (s : State) (v : NoticeUnit) :
    (s.withNotices v).schedule = s.schedule := rfl
@[simp] theorem State.withNotices_switch (s : State) (v : NoticeUnit) :
    (s.withNotices v).switch = s.switch := rfl
@[simp] theorem State.withNotices_mc (s : State) (v : NoticeUnit) :
    (s.withNotices v).mc = s.mc := rfl
@[simp] theorem State.withNotices_probes (s : State) (v : NoticeUnit) :
    (s.withNotices v).probes = s.probes := rfl
@[simp] theorem State.withNotices_engine (s : State) (v : NoticeUnit) :
    (s.withNotices v).engine = s.engine := rfl
@[simp] theorem State.withNotices_link (s : State) (v : NoticeUnit) :
    (s.withNotices v).link = s.link := rfl
@[simp] theorem State.withNotices_notices (s : State) (v : NoticeUnit) :
    (s.withNotices v).notices = v := rfl
@[simp] theorem State.withNotices_opening (s : State) (v : NoticeUnit) :
    (s.withNotices v).opening = s.opening := rfl
@[simp] theorem State.withNotices_pending (s : State) (v : NoticeUnit) :
    (s.withNotices v).pending = s.pending := rfl

@[simp] theorem State.withOpening_straps (s : State) (v : Opening) :
    (s.withOpening v).straps = s.straps := rfl
@[simp] theorem State.withOpening_held (s : State) (v : Opening) :
    (s.withOpening v).held = s.held := rfl
@[simp] theorem State.withOpening_ports (s : State) (v : Opening) :
    (s.withOpening v).ports = s.ports := rfl
@[simp] theorem State.withOpening_stores (s : State) (v : Opening) :
    (s.withOpening v).stores = s.stores := rfl
@[simp] theorem State.withOpening_timing (s : State) (v : Opening) :
    (s.withOpening v).timing = s.timing := rfl
@[simp] theorem State.withOpening_schedule (s : State) (v : Opening) :
    (s.withOpening v).schedule = s.schedule := rfl
@[simp] theorem State.withOpening_switch (s : State) (v : Opening) :
    (s.withOpening v).switch = s.switch := rfl
@[simp] theorem State.withOpening_mc (s : State) (v : Opening) :
    (s.withOpening v).mc = s.mc := rfl
@[simp] theorem State.withOpening_probes (s : State) (v : Opening) :
    (s.withOpening v).probes = s.probes := rfl
@[simp] theorem State.withOpening_engine (s : State) (v : Opening) :
    (s.withOpening v).engine = s.engine := rfl
@[simp] theorem State.withOpening_link (s : State) (v : Opening) :
    (s.withOpening v).link = s.link := rfl
@[simp] theorem State.withOpening_notices (s : State) (v : Opening) :
    (s.withOpening v).notices = s.notices := rfl
@[simp] theorem State.withOpening_opening (s : State) (v : Opening) :
    (s.withOpening v).opening = v := rfl
@[simp] theorem State.withOpening_pending (s : State) (v : Opening) :
    (s.withOpening v).pending = s.pending := rfl

@[simp] theorem State.withPending_straps (s : State) (v : List Instr) :
    (s.withPending v).straps = s.straps := rfl
@[simp] theorem State.withPending_held (s : State) (v : List Instr) :
    (s.withPending v).held = s.held := rfl
@[simp] theorem State.withPending_ports (s : State) (v : List Instr) :
    (s.withPending v).ports = s.ports := rfl
@[simp] theorem State.withPending_stores (s : State) (v : List Instr) :
    (s.withPending v).stores = s.stores := rfl
@[simp] theorem State.withPending_timing (s : State) (v : List Instr) :
    (s.withPending v).timing = s.timing := rfl
@[simp] theorem State.withPending_schedule (s : State) (v : List Instr) :
    (s.withPending v).schedule = s.schedule := rfl
@[simp] theorem State.withPending_switch (s : State) (v : List Instr) :
    (s.withPending v).switch = s.switch := rfl
@[simp] theorem State.withPending_mc (s : State) (v : List Instr) :
    (s.withPending v).mc = s.mc := rfl
@[simp] theorem State.withPending_probes (s : State) (v : List Instr) :
    (s.withPending v).probes = s.probes := rfl
@[simp] theorem State.withPending_engine (s : State) (v : List Instr) :
    (s.withPending v).engine = s.engine := rfl
@[simp] theorem State.withPending_link (s : State) (v : List Instr) :
    (s.withPending v).link = s.link := rfl
@[simp] theorem State.withPending_notices (s : State) (v : List Instr) :
    (s.withPending v).notices = s.notices := rfl
@[simp] theorem State.withPending_opening (s : State) (v : List Instr) :
    (s.withPending v).opening = s.opening := rfl
@[simp] theorem State.withPending_pending (s : State) (v : List Instr) :
    (s.withPending v).pending = v := rfl

end Sys2Proof.Machine
end

