-- ==== Sys2Proof/Laws/Frame.lean ====
section
/-! SUPPORT. What each shared operation leaves alone: one lemma per operation and per field it never changes. -/

namespace Sys2Proof.Machine

/-- A projection that each act of a list keeps is kept by the whole list. -/
theorem foldl_keeps {α β γ : Type} (g : α → γ) (f : α → β → α) (h : ∀ a b, g (f a b) = g a)
    (l : List β) (a : α) : g (l.foldl f a) = g a := by
  induction l generalizing a with
  | nil => rfl
  | cons b l ih => exact (ih (f a b)).trans (h a b)


/-! ### `raise` -/

@[simp] theorem State.raise_straps (s : State) (e : Event) : (s.raise e).straps = s.straps := rfl
@[simp] theorem State.raise_held (s : State) (e : Event) : (s.raise e).held = s.held := rfl
@[simp] theorem State.raise_ports (s : State) (e : Event) : (s.raise e).ports = s.ports := rfl
@[simp] theorem State.raise_stores (s : State) (e : Event) : (s.raise e).stores = s.stores := rfl
@[simp] theorem State.raise_timing (s : State) (e : Event) : (s.raise e).timing = s.timing := rfl
@[simp] theorem State.raise_schedule (s : State) (e : Event) : (s.raise e).schedule = s.schedule := rfl
@[simp] theorem State.raise_switch (s : State) (e : Event) : (s.raise e).switch = s.switch := rfl
@[simp] theorem State.raise_mc (s : State) (e : Event) : (s.raise e).mc = s.mc := rfl
@[simp] theorem State.raise_probes (s : State) (e : Event) : (s.raise e).probes = s.probes := rfl
@[simp] theorem State.raise_engine (s : State) (e : Event) : (s.raise e).engine = s.engine := rfl
@[simp] theorem State.raise_link (s : State) (e : Event) : (s.raise e).link = s.link := rfl
@[simp] theorem State.raise_opening (s : State) (e : Event) : (s.raise e).opening = s.opening := rfl
@[simp] theorem State.raise_pending (s : State) (e : Event) : (s.raise e).pending = s.pending := rfl

/-! ### `raiseAll` -/

@[simp] theorem State.raiseAll_straps (s : State) (es : List Event) : (s.raiseAll es).straps = s.straps :=
  foldl_keeps State.straps _ (fun a b => by simp) es s
@[simp] theorem State.raiseAll_held (s : State) (es : List Event) : (s.raiseAll es).held = s.held :=
  foldl_keeps State.held _ (fun a b => by simp) es s
@[simp] theorem State.raiseAll_ports (s : State) (es : List Event) : (s.raiseAll es).ports = s.ports :=
  foldl_keeps State.ports _ (fun a b => by simp) es s
@[simp] theorem State.raiseAll_stores (s : State) (es : List Event) : (s.raiseAll es).stores = s.stores :=
  foldl_keeps State.stores _ (fun a b => by simp) es s
@[simp] theorem State.raiseAll_timing (s : State) (es : List Event) : (s.raiseAll es).timing = s.timing :=
  foldl_keeps State.timing _ (fun a b => by simp) es s
@[simp] theorem State.raiseAll_schedule (s : State) (es : List Event) : (s.raiseAll es).schedule = s.schedule :=
  foldl_keeps State.schedule _ (fun a b => by simp) es s
@[simp] theorem State.raiseAll_switch (s : State) (es : List Event) : (s.raiseAll es).switch = s.switch :=
  foldl_keeps State.switch _ (fun a b => by simp) es s
@[simp] theorem State.raiseAll_mc (s : State) (es : List Event) : (s.raiseAll es).mc = s.mc :=
  foldl_keeps State.mc _ (fun a b => by simp) es s
@[simp] theorem State.raiseAll_probes (s : State) (es : List Event) : (s.raiseAll es).probes = s.probes :=
  foldl_keeps State.probes _ (fun a b => by simp) es s
@[simp] theorem State.raiseAll_engine (s : State) (es : List Event) : (s.raiseAll es).engine = s.engine :=
  foldl_keeps State.engine _ (fun a b => by simp) es s
@[simp] theorem State.raiseAll_link (s : State) (es : List Event) : (s.raiseAll es).link = s.link :=
  foldl_keeps State.link _ (fun a b => by simp) es s
@[simp] theorem State.raiseAll_opening (s : State) (es : List Event) : (s.raiseAll es).opening = s.opening :=
  foldl_keeps State.opening _ (fun a b => by simp) es s
@[simp] theorem State.raiseAll_pending (s : State) (es : List Event) : (s.raiseAll es).pending = s.pending :=
  foldl_keeps State.pending _ (fun a b => by simp) es s

/-! ### `setPort` -/

@[simp] theorem State.setPort_straps (s : State) (l : Line) (p : LinePort) : (s.setPort l p).straps = s.straps := rfl
@[simp] theorem State.setPort_held (s : State) (l : Line) (p : LinePort) : (s.setPort l p).held = s.held := rfl
@[simp] theorem State.setPort_stores (s : State) (l : Line) (p : LinePort) : (s.setPort l p).stores = s.stores := rfl
@[simp] theorem State.setPort_timing (s : State) (l : Line) (p : LinePort) : (s.setPort l p).timing = s.timing := rfl
@[simp] theorem State.setPort_schedule (s : State) (l : Line) (p : LinePort) : (s.setPort l p).schedule = s.schedule := rfl
@[simp] theorem State.setPort_switch (s : State) (l : Line) (p : LinePort) : (s.setPort l p).switch = s.switch := rfl
@[simp] theorem State.setPort_mc (s : State) (l : Line) (p : LinePort) : (s.setPort l p).mc = s.mc := rfl
@[simp] theorem State.setPort_probes (s : State) (l : Line) (p : LinePort) : (s.setPort l p).probes = s.probes := rfl
@[simp] theorem State.setPort_engine (s : State) (l : Line) (p : LinePort) : (s.setPort l p).engine = s.engine := rfl
@[simp] theorem State.setPort_link (s : State) (l : Line) (p : LinePort) : (s.setPort l p).link = s.link := rfl
@[simp] theorem State.setPort_notices (s : State) (l : Line) (p : LinePort) : (s.setPort l p).notices = s.notices := rfl
@[simp] theorem State.setPort_opening (s : State) (l : Line) (p : LinePort) : (s.setPort l p).opening = s.opening := rfl
@[simp] theorem State.setPort_pending (s : State) (l : Line) (p : LinePort) : (s.setPort l p).pending = s.pending := rfl

/-! ### `setStore` -/

@[simp] theorem State.setStore_straps (s : State) (l : Line) (e : Store) : (s.setStore l e).straps = s.straps := rfl
@[simp] theorem State.setStore_held (s : State) (l : Line) (e : Store) : (s.setStore l e).held = s.held := rfl
@[simp] theorem State.setStore_ports (s : State) (l : Line) (e : Store) : (s.setStore l e).ports = s.ports := rfl
@[simp] theorem State.setStore_timing (s : State) (l : Line) (e : Store) : (s.setStore l e).timing = s.timing := rfl
@[simp] theorem State.setStore_schedule (s : State) (l : Line) (e : Store) : (s.setStore l e).schedule = s.schedule := rfl
@[simp] theorem State.setStore_switch (s : State) (l : Line) (e : Store) : (s.setStore l e).switch = s.switch := rfl
@[simp] theorem State.setStore_mc (s : State) (l : Line) (e : Store) : (s.setStore l e).mc = s.mc := rfl
@[simp] theorem State.setStore_probes (s : State) (l : Line) (e : Store) : (s.setStore l e).probes = s.probes := rfl
@[simp] theorem State.setStore_engine (s : State) (l : Line) (e : Store) : (s.setStore l e).engine = s.engine := rfl
@[simp] theorem State.setStore_link (s : State) (l : Line) (e : Store) : (s.setStore l e).link = s.link := rfl
@[simp] theorem State.setStore_notices (s : State) (l : Line) (e : Store) : (s.setStore l e).notices = s.notices := rfl
@[simp] theorem State.setStore_opening (s : State) (l : Line) (e : Store) : (s.setStore l e).opening = s.opening := rfl
@[simp] theorem State.setStore_pending (s : State) (l : Line) (e : Store) : (s.setStore l e).pending = s.pending := rfl

/-! ### `setProbeAt` -/

@[simp] theorem State.setProbeAt_straps (s : State) (p : ProbeIndex) (v : Probe) : (s.setProbeAt p v).straps = s.straps := rfl
@[simp] theorem State.setProbeAt_held (s : State) (p : ProbeIndex) (v : Probe) : (s.setProbeAt p v).held = s.held := rfl
@[simp] theorem State.setProbeAt_ports (s : State) (p : ProbeIndex) (v : Probe) : (s.setProbeAt p v).ports = s.ports := rfl
@[simp] theorem State.setProbeAt_stores (s : State) (p : ProbeIndex) (v : Probe) : (s.setProbeAt p v).stores = s.stores := rfl
@[simp] theorem State.setProbeAt_timing (s : State) (p : ProbeIndex) (v : Probe) : (s.setProbeAt p v).timing = s.timing := rfl
@[simp] theorem State.setProbeAt_schedule (s : State) (p : ProbeIndex) (v : Probe) : (s.setProbeAt p v).schedule = s.schedule := rfl
@[simp] theorem State.setProbeAt_switch (s : State) (p : ProbeIndex) (v : Probe) : (s.setProbeAt p v).switch = s.switch := rfl
@[simp] theorem State.setProbeAt_mc (s : State) (p : ProbeIndex) (v : Probe) : (s.setProbeAt p v).mc = s.mc := rfl
@[simp] theorem State.setProbeAt_engine (s : State) (p : ProbeIndex) (v : Probe) : (s.setProbeAt p v).engine = s.engine := rfl
@[simp] theorem State.setProbeAt_link (s : State) (p : ProbeIndex) (v : Probe) : (s.setProbeAt p v).link = s.link := rfl
@[simp] theorem State.setProbeAt_notices (s : State) (p : ProbeIndex) (v : Probe) : (s.setProbeAt p v).notices = s.notices := rfl
@[simp] theorem State.setProbeAt_opening (s : State) (p : ProbeIndex) (v : Probe) : (s.setProbeAt p v).opening = s.opening := rfl
@[simp] theorem State.setProbeAt_pending (s : State) (p : ProbeIndex) (v : Probe) : (s.setProbeAt p v).pending = s.pending := rfl

/-! ### `setPatternAt` -/

@[simp] theorem State.setPatternAt_straps (s : State) (i : PatternIndex) (v : Pattern) : (s.setPatternAt i v).straps = s.straps := rfl
@[simp] theorem State.setPatternAt_held (s : State) (i : PatternIndex) (v : Pattern) : (s.setPatternAt i v).held = s.held := rfl
@[simp] theorem State.setPatternAt_ports (s : State) (i : PatternIndex) (v : Pattern) : (s.setPatternAt i v).ports = s.ports := rfl
@[simp] theorem State.setPatternAt_stores (s : State) (i : PatternIndex) (v : Pattern) : (s.setPatternAt i v).stores = s.stores := rfl
@[simp] theorem State.setPatternAt_timing (s : State) (i : PatternIndex) (v : Pattern) : (s.setPatternAt i v).timing = s.timing := rfl
@[simp] theorem State.setPatternAt_schedule (s : State) (i : PatternIndex) (v : Pattern) : (s.setPatternAt i v).schedule = s.schedule := rfl
@[simp] theorem State.setPatternAt_mc (s : State) (i : PatternIndex) (v : Pattern) : (s.setPatternAt i v).mc = s.mc := rfl
@[simp] theorem State.setPatternAt_probes (s : State) (i : PatternIndex) (v : Pattern) : (s.setPatternAt i v).probes = s.probes := rfl
@[simp] theorem State.setPatternAt_engine (s : State) (i : PatternIndex) (v : Pattern) : (s.setPatternAt i v).engine = s.engine := rfl
@[simp] theorem State.setPatternAt_link (s : State) (i : PatternIndex) (v : Pattern) : (s.setPatternAt i v).link = s.link := rfl
@[simp] theorem State.setPatternAt_notices (s : State) (i : PatternIndex) (v : Pattern) : (s.setPatternAt i v).notices = s.notices := rfl
@[simp] theorem State.setPatternAt_opening (s : State) (i : PatternIndex) (v : Pattern) : (s.setPatternAt i v).opening = s.opening := rfl
@[simp] theorem State.setPatternAt_pending (s : State) (i : PatternIndex) (v : Pattern) : (s.setPatternAt i v).pending = s.pending := rfl

/-! ### `answer` -/

@[simp] theorem State.answer_straps (s : State) (r : Request) (c : Status) (d : List Byte) : (s.answer r c d).straps = s.straps := rfl
@[simp] theorem State.answer_held (s : State) (r : Request) (c : Status) (d : List Byte) : (s.answer r c d).held = s.held := rfl
@[simp] theorem State.answer_ports (s : State) (r : Request) (c : Status) (d : List Byte) : (s.answer r c d).ports = s.ports := rfl
@[simp] theorem State.answer_stores (s : State) (r : Request) (c : Status) (d : List Byte) : (s.answer r c d).stores = s.stores := rfl
@[simp] theorem State.answer_timing (s : State) (r : Request) (c : Status) (d : List Byte) : (s.answer r c d).timing = s.timing := rfl
@[simp] theorem State.answer_schedule (s : State) (r : Request) (c : Status) (d : List Byte) : (s.answer r c d).schedule = s.schedule := rfl
@[simp] theorem State.answer_switch (s : State) (r : Request) (c : Status) (d : List Byte) : (s.answer r c d).switch = s.switch := rfl
@[simp] theorem State.answer_mc (s : State) (r : Request) (c : Status) (d : List Byte) : (s.answer r c d).mc = s.mc := rfl
@[simp] theorem State.answer_probes (s : State) (r : Request) (c : Status) (d : List Byte) : (s.answer r c d).probes = s.probes := rfl
@[simp] theorem State.answer_link (s : State) (r : Request) (c : Status) (d : List Byte) : (s.answer r c d).link = s.link := rfl
@[simp] theorem State.answer_notices (s : State) (r : Request) (c : Status) (d : List Byte) : (s.answer r c d).notices = s.notices := rfl
@[simp] theorem State.answer_opening (s : State) (r : Request) (c : Status) (d : List Byte) : (s.answer r c d).opening = s.opening := rfl
@[simp] theorem State.answer_pending (s : State) (r : Request) (c : Status) (d : List Byte) : (s.answer r c d).pending = s.pending := rfl

/-! ### `answerHeld` -/

@[simp] theorem State.answerHeld_straps (s : State) (r : Request) (d : List Byte) : (s.answerHeld r d).straps = s.straps := rfl
@[simp] theorem State.answerHeld_held (s : State) (r : Request) (d : List Byte) : (s.answerHeld r d).held = s.held := rfl
@[simp] theorem State.answerHeld_ports (s : State) (r : Request) (d : List Byte) : (s.answerHeld r d).ports = s.ports := rfl
@[simp] theorem State.answerHeld_stores (s : State) (r : Request) (d : List Byte) : (s.answerHeld r d).stores = s.stores := rfl
@[simp] theorem State.answerHeld_timing (s : State) (r : Request) (d : List Byte) : (s.answerHeld r d).timing = s.timing := rfl
@[simp] theorem State.answerHeld_schedule (s : State) (r : Request) (d : List Byte) : (s.answerHeld r d).schedule = s.schedule := rfl
@[simp] theorem State.answerHeld_switch (s : State) (r : Request) (d : List Byte) : (s.answerHeld r d).switch = s.switch := rfl
@[simp] theorem State.answerHeld_mc (s : State) (r : Request) (d : List Byte) : (s.answerHeld r d).mc = s.mc := rfl
@[simp] theorem State.answerHeld_probes (s : State) (r : Request) (d : List Byte) : (s.answerHeld r d).probes = s.probes := rfl
@[simp] theorem State.answerHeld_link (s : State) (r : Request) (d : List Byte) : (s.answerHeld r d).link = s.link := rfl
@[simp] theorem State.answerHeld_notices (s : State) (r : Request) (d : List Byte) : (s.answerHeld r d).notices = s.notices := rfl
@[simp] theorem State.answerHeld_opening (s : State) (r : Request) (d : List Byte) : (s.answerHeld r d).opening = s.opening := rfl
@[simp] theorem State.answerHeld_pending (s : State) (r : Request) (d : List Byte) : (s.answerHeld r d).pending = s.pending := rfl

/-! ### `badLength` -/

@[simp] theorem State.badLength_straps (s : State) (r : Request) : (s.badLength r).straps = s.straps := rfl
@[simp] theorem State.badLength_held (s : State) (r : Request) : (s.badLength r).held = s.held := rfl
@[simp] theorem State.badLength_ports (s : State) (r : Request) : (s.badLength r).ports = s.ports := rfl
@[simp] theorem State.badLength_stores (s : State) (r : Request) : (s.badLength r).stores = s.stores := rfl
@[simp] theorem State.badLength_timing (s : State) (r : Request) : (s.badLength r).timing = s.timing := rfl
@[simp] theorem State.badLength_schedule (s : State) (r : Request) : (s.badLength r).schedule = s.schedule := rfl
@[simp] theorem State.badLength_switch (s : State) (r : Request) : (s.badLength r).switch = s.switch := rfl
@[simp] theorem State.badLength_mc (s : State) (r : Request) : (s.badLength r).mc = s.mc := rfl
@[simp] theorem State.badLength_probes (s : State) (r : Request) : (s.badLength r).probes = s.probes := rfl
@[simp] theorem State.badLength_link (s : State) (r : Request) : (s.badLength r).link = s.link := rfl
@[simp] theorem State.badLength_notices (s : State) (r : Request) : (s.badLength r).notices = s.notices := rfl
@[simp] theorem State.badLength_opening (s : State) (r : Request) : (s.badLength r).opening = s.opening := rfl
@[simp] theorem State.badLength_pending (s : State) (r : Request) : (s.badLength r).pending = s.pending := rfl

/-! ### `fillReserved` -/

@[simp] theorem State.fillReserved_straps (s : State) (k o : Byte) (c : Status) (d : List Byte) : (s.fillReserved k o c d).straps = s.straps := rfl
@[simp] theorem State.fillReserved_held (s : State) (k o : Byte) (c : Status) (d : List Byte) : (s.fillReserved k o c d).held = s.held := rfl
@[simp] theorem State.fillReserved_ports (s : State) (k o : Byte) (c : Status) (d : List Byte) : (s.fillReserved k o c d).ports = s.ports := rfl
@[simp] theorem State.fillReserved_stores (s : State) (k o : Byte) (c : Status) (d : List Byte) : (s.fillReserved k o c d).stores = s.stores := rfl
@[simp] theorem State.fillReserved_timing (s : State) (k o : Byte) (c : Status) (d : List Byte) : (s.fillReserved k o c d).timing = s.timing := rfl
@[simp] theorem State.fillReserved_schedule (s : State) (k o : Byte) (c : Status) (d : List Byte) : (s.fillReserved k o c d).schedule = s.schedule := rfl
@[simp] theorem State.fillReserved_switch (s : State) (k o : Byte) (c : Status) (d : List Byte) : (s.fillReserved k o c d).switch = s.switch := rfl
@[simp] theorem State.fillReserved_mc (s : State) (k o : Byte) (c : Status) (d : List Byte) : (s.fillReserved k o c d).mc = s.mc := rfl
@[simp] theorem State.fillReserved_probes (s : State) (k o : Byte) (c : Status) (d : List Byte) : (s.fillReserved k o c d).probes = s.probes := rfl
@[simp] theorem State.fillReserved_link (s : State) (k o : Byte) (c : Status) (d : List Byte) : (s.fillReserved k o c d).link = s.link := rfl
@[simp] theorem State.fillReserved_notices (s : State) (k o : Byte) (c : Status) (d : List Byte) : (s.fillReserved k o c d).notices = s.notices := rfl
@[simp] theorem State.fillReserved_opening (s : State) (k o : Byte) (c : Status) (d : List Byte) : (s.fillReserved k o c d).opening = s.opening := rfl
@[simp] theorem State.fillReserved_pending (s : State) (k o : Byte) (c : Status) (d : List Byte) : (s.fillReserved k o c d).pending = s.pending := rfl

/-! ### `opened` -/

@[simp] theorem State.opened_straps (s : State) : (s.opened).straps = s.straps := rfl
@[simp] theorem State.opened_held (s : State) : (s.opened).held = s.held := rfl
@[simp] theorem State.opened_ports (s : State) : (s.opened).ports = s.ports := rfl
@[simp] theorem State.opened_stores (s : State) : (s.opened).stores = s.stores := rfl
@[simp] theorem State.opened_timing (s : State) : (s.opened).timing = s.timing := rfl
@[simp] theorem State.opened_schedule (s : State) : (s.opened).schedule = s.schedule := rfl
@[simp] theorem State.opened_switch (s : State) : (s.opened).switch = s.switch := rfl
@[simp] theorem State.opened_mc (s : State) : (s.opened).mc = s.mc := rfl
@[simp] theorem State.opened_probes (s : State) : (s.opened).probes = s.probes := rfl
@[simp] theorem State.opened_engine (s : State) : (s.opened).engine = s.engine := rfl
@[simp] theorem State.opened_link (s : State) : (s.opened).link = s.link := rfl
@[simp] theorem State.opened_notices (s : State) : (s.opened).notices = s.notices := rfl
@[simp] theorem State.opened_pending (s : State) : (s.opened).pending = s.pending := rfl

/-! ### `acceptPage` -/

@[simp] theorem State.acceptPage_straps (s : State) (m : McState) (f : Option Word) : (s.acceptPage m f).straps = s.straps := rfl
@[simp] theorem State.acceptPage_held (s : State) (m : McState) (f : Option Word) : (s.acceptPage m f).held = s.held := rfl
@[simp] theorem State.acceptPage_ports (s : State) (m : McState) (f : Option Word) : (s.acceptPage m f).ports = s.ports := rfl
@[simp] theorem State.acceptPage_stores (s : State) (m : McState) (f : Option Word) : (s.acceptPage m f).stores = s.stores := rfl
@[simp] theorem State.acceptPage_timing (s : State) (m : McState) (f : Option Word) : (s.acceptPage m f).timing = s.timing := rfl
@[simp] theorem State.acceptPage_schedule (s : State) (m : McState) (f : Option Word) : (s.acceptPage m f).schedule = s.schedule := rfl
@[simp] theorem State.acceptPage_switch (s : State) (m : McState) (f : Option Word) : (s.acceptPage m f).switch = s.switch := rfl
@[simp] theorem State.acceptPage_probes (s : State) (m : McState) (f : Option Word) : (s.acceptPage m f).probes = s.probes := rfl
@[simp] theorem State.acceptPage_link (s : State) (m : McState) (f : Option Word) : (s.acceptPage m f).link = s.link := rfl
@[simp] theorem State.acceptPage_notices (s : State) (m : McState) (f : Option Word) : (s.acceptPage m f).notices = s.notices := rfl
@[simp] theorem State.acceptPage_opening (s : State) (m : McState) (f : Option Word) : (s.acceptPage m f).opening = s.opening := rfl
@[simp] theorem State.acceptPage_pending (s : State) (m : McState) (f : Option Word) : (s.acceptPage m f).pending = s.pending := rfl

/-! ### `clearStats` -/

@[simp] theorem State.clearStats_straps (s : State) (l : Line) : (s.clearStats l).straps = s.straps := rfl
@[simp] theorem State.clearStats_held (s : State) (l : Line) : (s.clearStats l).held = s.held := rfl
@[simp] theorem State.clearStats_timing (s : State) (l : Line) : (s.clearStats l).timing = s.timing := rfl
@[simp] theorem State.clearStats_schedule (s : State) (l : Line) : (s.clearStats l).schedule = s.schedule := rfl
@[simp] theorem State.clearStats_switch (s : State) (l : Line) : (s.clearStats l).switch = s.switch := rfl
@[simp] theorem State.clearStats_mc (s : State) (l : Line) : (s.clearStats l).mc = s.mc := rfl
@[simp] theorem State.clearStats_probes (s : State) (l : Line) : (s.clearStats l).probes = s.probes := rfl
@[simp] theorem State.clearStats_engine (s : State) (l : Line) : (s.clearStats l).engine = s.engine := rfl
@[simp] theorem State.clearStats_link (s : State) (l : Line) : (s.clearStats l).link = s.link := rfl
@[simp] theorem State.clearStats_notices (s : State) (l : Line) : (s.clearStats l).notices = s.notices := rfl
@[simp] theorem State.clearStats_opening (s : State) (l : Line) : (s.clearStats l).opening = s.opening := rfl
@[simp] theorem State.clearStats_pending (s : State) (l : Line) : (s.clearStats l).pending = s.pending := rfl

/-! ### `arrive` -/

@[simp] theorem State.arrive_straps (s : State) (l : Line) (f : InputFrame) : (s.arrive l f).straps = s.straps := by
  unfold State.arrive; (repeat' split) <;> simp
@[simp] theorem State.arrive_held (s : State) (l : Line) (f : InputFrame) : (s.arrive l f).held = s.held := by
  unfold State.arrive; (repeat' split) <;> simp
@[simp] theorem State.arrive_ports (s : State) (l : Line) (f : InputFrame) : (s.arrive l f).ports = s.ports := by
  unfold State.arrive; (repeat' split) <;> simp
@[simp] theorem State.arrive_timing (s : State) (l : Line) (f : InputFrame) : (s.arrive l f).timing = s.timing := by
  unfold State.arrive; (repeat' split) <;> simp
@[simp] theorem State.arrive_schedule (s : State) (l : Line) (f : InputFrame) : (s.arrive l f).schedule = s.schedule := by
  unfold State.arrive; (repeat' split) <;> simp
@[simp] theorem State.arrive_switch (s : State) (l : Line) (f : InputFrame) : (s.arrive l f).switch = s.switch := by
  unfold State.arrive; (repeat' split) <;> simp
@[simp] theorem State.arrive_mc (s : State) (l : Line) (f : InputFrame) : (s.arrive l f).mc = s.mc := by
  unfold State.arrive; (repeat' split) <;> simp
@[simp] theorem State.arrive_probes (s : State) (l : Line) (f : InputFrame) : (s.arrive l f).probes = s.probes := by
  unfold State.arrive; (repeat' split) <;> simp
@[simp] theorem State.arrive_engine (s : State) (l : Line) (f : InputFrame) : (s.arrive l f).engine = s.engine := by
  unfold State.arrive; (repeat' split) <;> simp
@[simp] theorem State.arrive_link (s : State) (l : Line) (f : InputFrame) : (s.arrive l f).link = s.link := by
  unfold State.arrive; (repeat' split) <;> simp
@[simp] theorem State.arrive_opening (s : State) (l : Line) (f : InputFrame) : (s.arrive l f).opening = s.opening := by
  unfold State.arrive; (repeat' split) <;> simp
@[simp] theorem State.arrive_pending (s : State) (l : Line) (f : InputFrame) : (s.arrive l f).pending = s.pending := by
  unfold State.arrive; (repeat' split) <;> simp

/-! ### `alignmentLost` -/

@[simp] theorem State.alignmentLost_straps (s : State) (l : Line) : (s.alignmentLost l).straps = s.straps := rfl
@[simp] theorem State.alignmentLost_held (s : State) (l : Line) : (s.alignmentLost l).held = s.held := rfl
@[simp] theorem State.alignmentLost_schedule (s : State) (l : Line) : (s.alignmentLost l).schedule = s.schedule := rfl
@[simp] theorem State.alignmentLost_switch (s : State) (l : Line) : (s.alignmentLost l).switch = s.switch := rfl
@[simp] theorem State.alignmentLost_mc (s : State) (l : Line) : (s.alignmentLost l).mc = s.mc := rfl
@[simp] theorem State.alignmentLost_probes (s : State) (l : Line) : (s.alignmentLost l).probes = s.probes := rfl
@[simp] theorem State.alignmentLost_engine (s : State) (l : Line) : (s.alignmentLost l).engine = s.engine := rfl
@[simp] theorem State.alignmentLost_opening (s : State) (l : Line) : (s.alignmentLost l).opening = s.opening := rfl
@[simp] theorem State.alignmentLost_pending (s : State) (l : Line) : (s.alignmentLost l).pending = s.pending := rfl

/-! ### `framerAct` -/

@[simp] theorem State.framerAct_straps (s : State) (l : Line) (a : FramerAct) : (s.framerAct l a).straps = s.straps := by
  unfold State.framerAct; (repeat' split) <;> simp
@[simp] theorem State.framerAct_held (s : State) (l : Line) (a : FramerAct) : (s.framerAct l a).held = s.held := by
  unfold State.framerAct; (repeat' split) <;> simp
@[simp] theorem State.framerAct_schedule (s : State) (l : Line) (a : FramerAct) : (s.framerAct l a).schedule = s.schedule := by
  unfold State.framerAct; (repeat' split) <;> simp
@[simp] theorem State.framerAct_switch (s : State) (l : Line) (a : FramerAct) : (s.framerAct l a).switch = s.switch := by
  unfold State.framerAct; (repeat' split) <;> simp
@[simp] theorem State.framerAct_mc (s : State) (l : Line) (a : FramerAct) : (s.framerAct l a).mc = s.mc := by
  unfold State.framerAct; (repeat' split) <;> simp
@[simp] theorem State.framerAct_probes (s : State) (l : Line) (a : FramerAct) : (s.framerAct l a).probes = s.probes := by
  unfold State.framerAct; (repeat' split) <;> simp
@[simp] theorem State.framerAct_engine (s : State) (l : Line) (a : FramerAct) : (s.framerAct l a).engine = s.engine := by
  unfold State.framerAct; (repeat' split) <;> simp
@[simp] theorem State.framerAct_opening (s : State) (l : Line) (a : FramerAct) : (s.framerAct l a).opening = s.opening := by
  unfold State.framerAct; (repeat' split) <;> simp
@[simp] theorem State.framerAct_pending (s : State) (l : Line) (a : FramerAct) : (s.framerAct l a).pending = s.pending := by
  unfold State.framerAct; (repeat' split) <;> simp

/-! ### `framerPeriod` -/

@[simp] theorem State.framerPeriod_straps (s : State) (l : Line) (x : RxSample) : (s.framerPeriod l x).straps = s.straps := by simp [State.framerPeriod]
@[simp] theorem State.framerPeriod_held (s : State) (l : Line) (x : RxSample) : (s.framerPeriod l x).held = s.held := by simp [State.framerPeriod]
@[simp] theorem State.framerPeriod_schedule (s : State) (l : Line) (x : RxSample) : (s.framerPeriod l x).schedule = s.schedule := by simp [State.framerPeriod]
@[simp] theorem State.framerPeriod_switch (s : State) (l : Line) (x : RxSample) : (s.framerPeriod l x).switch = s.switch := by simp [State.framerPeriod]
@[simp] theorem State.framerPeriod_mc (s : State) (l : Line) (x : RxSample) : (s.framerPeriod l x).mc = s.mc := by simp [State.framerPeriod]
@[simp] theorem State.framerPeriod_probes (s : State) (l : Line) (x : RxSample) : (s.framerPeriod l x).probes = s.probes := by simp [State.framerPeriod]
@[simp] theorem State.framerPeriod_engine (s : State) (l : Line) (x : RxSample) : (s.framerPeriod l x).engine = s.engine := by simp [State.framerPeriod]
@[simp] theorem State.framerPeriod_opening (s : State) (l : Line) (x : RxSample) : (s.framerPeriod l x).opening = s.opening := by simp [State.framerPeriod]
@[simp] theorem State.framerPeriod_pending (s : State) (l : Line) (x : RxSample) : (s.framerPeriod l x).pending = s.pending := by simp [State.framerPeriod]

/-! ### `rxPeriod` -/

@[simp] theorem State.rxPeriod_straps (s : State) (l : Line) (x : RxSample) : (s.rxPeriod l x).straps = s.straps := by simp [State.rxPeriod]
@[simp] theorem State.rxPeriod_held (s : State) (l : Line) (x : RxSample) : (s.rxPeriod l x).held = s.held := by simp [State.rxPeriod]
@[simp] theorem State.rxPeriod_schedule (s : State) (l : Line) (x : RxSample) : (s.rxPeriod l x).schedule = s.schedule := by simp [State.rxPeriod]
@[simp] theorem State.rxPeriod_switch (s : State) (l : Line) (x : RxSample) : (s.rxPeriod l x).switch = s.switch := by simp [State.rxPeriod]
@[simp] theorem State.rxPeriod_mc (s : State) (l : Line) (x : RxSample) : (s.rxPeriod l x).mc = s.mc := by simp [State.rxPeriod]
@[simp] theorem State.rxPeriod_probes (s : State) (l : Line) (x : RxSample) : (s.rxPeriod l x).probes = s.probes := by simp [State.rxPeriod]
@[simp] theorem State.rxPeriod_engine (s : State) (l : Line) (x : RxSample) : (s.rxPeriod l x).engine = s.engine := by simp [State.rxPeriod]
@[simp] theorem State.rxPeriod_opening (s : State) (l : Line) (x : RxSample) : (s.rxPeriod l x).opening = s.opening := by simp [State.rxPeriod]
@[simp] theorem State.rxPeriod_pending (s : State) (l : Line) (x : RxSample) : (s.rxPeriod l x).pending = s.pending := by simp [State.rxPeriod]

/-! ### `rxPeriods` -/

@[simp] theorem State.rxPeriods_straps (s : State) (l : Line) (xs : List RxSample) : (s.rxPeriods l xs).straps = s.straps := by
  unfold State.rxPeriods; split
  · rfl
  · exact foldl_keeps State.straps _ (fun a b => by simp) xs s
@[simp] theorem State.rxPeriods_held (s : State) (l : Line) (xs : List RxSample) : (s.rxPeriods l xs).held = s.held := by
  unfold State.rxPeriods; split
  · rfl
  · exact foldl_keeps State.held _ (fun a b => by simp) xs s
@[simp] theorem State.rxPeriods_schedule (s : State) (l : Line) (xs : List RxSample) : (s.rxPeriods l xs).schedule = s.schedule := by
  unfold State.rxPeriods; split
  · rfl
  · exact foldl_keeps State.schedule _ (fun a b => by simp) xs s
@[simp] theorem State.rxPeriods_switch (s : State) (l : Line) (xs : List RxSample) : (s.rxPeriods l xs).switch = s.switch := by
  unfold State.rxPeriods; split
  · rfl
  · exact foldl_keeps State.switch _ (fun a b => by simp) xs s
@[simp] theorem State.rxPeriods_mc (s : State) (l : Line) (xs : List RxSample) : (s.rxPeriods l xs).mc = s.mc := by
  unfold State.rxPeriods; split
  · rfl
  · exact foldl_keeps State.mc _ (fun a b => by simp) xs s
@[simp] theorem State.rxPeriods_probes (s : State) (l : Line) (xs : List RxSample) : (s.rxPeriods l xs).probes = s.probes := by
  unfold State.rxPeriods; split
  · rfl
  · exact foldl_keeps State.probes _ (fun a b => by simp) xs s
@[simp] theorem State.rxPeriods_engine (s : State) (l : Line) (xs : List RxSample) : (s.rxPeriods l xs).engine = s.engine := by
  unfold State.rxPeriods; split
  · rfl
  · exact foldl_keeps State.engine _ (fun a b => by simp) xs s
@[simp] theorem State.rxPeriods_opening (s : State) (l : Line) (xs : List RxSample) : (s.rxPeriods l xs).opening = s.opening := by
  unfold State.rxPeriods; split
  · rfl
  · exact foldl_keeps State.opening _ (fun a b => by simp) xs s
@[simp] theorem State.rxPeriods_pending (s : State) (l : Line) (xs : List RxSample) : (s.rxPeriods l xs).pending = s.pending := by
  unfold State.rxPeriods; split
  · rfl
  · exact foldl_keeps State.pending _ (fun a b => by simp) xs s

/-! ### `takeStores` -/

@[simp] theorem State.takeStores_straps (s : State) : (s.takeStores).straps = s.straps := by simp [State.takeStores]
@[simp] theorem State.takeStores_held (s : State) : (s.takeStores).held = s.held := by simp [State.takeStores]
@[simp] theorem State.takeStores_ports (s : State) : (s.takeStores).ports = s.ports := by simp [State.takeStores]
@[simp] theorem State.takeStores_timing (s : State) : (s.takeStores).timing = s.timing := by simp [State.takeStores]
@[simp] theorem State.takeStores_schedule (s : State) : (s.takeStores).schedule = s.schedule := by simp [State.takeStores]
@[simp] theorem State.takeStores_switch (s : State) : (s.takeStores).switch = s.switch := by simp [State.takeStores]
@[simp] theorem State.takeStores_mc (s : State) : (s.takeStores).mc = s.mc := by simp [State.takeStores]
@[simp] theorem State.takeStores_probes (s : State) : (s.takeStores).probes = s.probes := by simp [State.takeStores]
@[simp] theorem State.takeStores_engine (s : State) : (s.takeStores).engine = s.engine := by simp [State.takeStores]
@[simp] theorem State.takeStores_link (s : State) : (s.takeStores).link = s.link := by simp [State.takeStores]
@[simp] theorem State.takeStores_pending (s : State) : (s.takeStores).pending = s.pending := by simp [State.takeStores]

/-! ### `applyLine` -/

@[simp] theorem State.applyLine_straps (s : State) (l : Line) (r : LineRecord) : (s.applyLine l r).straps = s.straps := by
  simp only [State.applyLine]; split <;> rfl
@[simp] theorem State.applyLine_held (s : State) (l : Line) (r : LineRecord) : (s.applyLine l r).held = s.held := by
  simp only [State.applyLine]; split <;> rfl
@[simp] theorem State.applyLine_schedule (s : State) (l : Line) (r : LineRecord) : (s.applyLine l r).schedule = s.schedule := by
  simp only [State.applyLine]; split <;> rfl
@[simp] theorem State.applyLine_switch (s : State) (l : Line) (r : LineRecord) : (s.applyLine l r).switch = s.switch := by
  simp only [State.applyLine]; split <;> rfl
@[simp] theorem State.applyLine_mc (s : State) (l : Line) (r : LineRecord) : (s.applyLine l r).mc = s.mc := by
  simp only [State.applyLine]; split <;> rfl
@[simp] theorem State.applyLine_probes (s : State) (l : Line) (r : LineRecord) : (s.applyLine l r).probes = s.probes := by
  simp only [State.applyLine]; split <;> rfl
@[simp] theorem State.applyLine_engine (s : State) (l : Line) (r : LineRecord) : (s.applyLine l r).engine = s.engine := by
  simp only [State.applyLine]; split <;> rfl
@[simp] theorem State.applyLine_link (s : State) (l : Line) (r : LineRecord) : (s.applyLine l r).link = s.link := by
  simp only [State.applyLine]; split <;> rfl
@[simp] theorem State.applyLine_notices (s : State) (l : Line) (r : LineRecord) : (s.applyLine l r).notices = s.notices := by
  simp only [State.applyLine]; split <;> rfl
@[simp] theorem State.applyLine_opening (s : State) (l : Line) (r : LineRecord) : (s.applyLine l r).opening = s.opening := by
  simp only [State.applyLine]; split <;> rfl
@[simp] theorem State.applyLine_pending (s : State) (l : Line) (r : LineRecord) : (s.applyLine l r).pending = s.pending := by
  simp only [State.applyLine]; split <;> rfl

/-! ### `refclkPeriod` -/

@[simp] theorem State.refclkPeriod_straps (s : State) : (s.refclkPeriod).straps = s.straps := by
  unfold State.refclkPeriod; (repeat' split) <;> simp
@[simp] theorem State.refclkPeriod_held (s : State) : (s.refclkPeriod).held = s.held := by
  unfold State.refclkPeriod; (repeat' split) <;> simp
@[simp] theorem State.refclkPeriod_ports (s : State) : (s.refclkPeriod).ports = s.ports := by
  unfold State.refclkPeriod; (repeat' split) <;> simp
@[simp] theorem State.refclkPeriod_stores (s : State) : (s.refclkPeriod).stores = s.stores := by
  unfold State.refclkPeriod; (repeat' split) <;> simp
@[simp] theorem State.refclkPeriod_schedule (s : State) : (s.refclkPeriod).schedule = s.schedule := by
  unfold State.refclkPeriod; (repeat' split) <;> simp
@[simp] theorem State.refclkPeriod_switch (s : State) : (s.refclkPeriod).switch = s.switch := by
  unfold State.refclkPeriod; (repeat' split) <;> simp
@[simp] theorem State.refclkPeriod_mc (s : State) : (s.refclkPeriod).mc = s.mc := by
  unfold State.refclkPeriod; (repeat' split) <;> simp
@[simp] theorem State.refclkPeriod_probes (s : State) : (s.refclkPeriod).probes = s.probes := by
  unfold State.refclkPeriod; (repeat' split) <;> simp
@[simp] theorem State.refclkPeriod_engine (s : State) : (s.refclkPeriod).engine = s.engine := by
  unfold State.refclkPeriod; (repeat' split) <;> simp
@[simp] theorem State.refclkPeriod_link (s : State) : (s.refclkPeriod).link = s.link := by
  unfold State.refclkPeriod; (repeat' split) <;> simp
@[simp] theorem State.refclkPeriod_notices (s : State) : (s.refclkPeriod).notices = s.notices := by
  unfold State.refclkPeriod; (repeat' split) <;> simp
@[simp] theorem State.refclkPeriod_opening (s : State) : (s.refclkPeriod).opening = s.opening := by
  unfold State.refclkPeriod; (repeat' split) <;> simp
@[simp] theorem State.refclkPeriod_pending (s : State) : (s.refclkPeriod).pending = s.pending := by
  unfold State.refclkPeriod; (repeat' split) <;> simp

/-! ### `promotePatterns` -/

@[simp] theorem State.promotePatterns_straps (s : State) : (s.promotePatterns).straps = s.straps := rfl
@[simp] theorem State.promotePatterns_held (s : State) : (s.promotePatterns).held = s.held := rfl
@[simp] theorem State.promotePatterns_ports (s : State) : (s.promotePatterns).ports = s.ports := rfl
@[simp] theorem State.promotePatterns_stores (s : State) : (s.promotePatterns).stores = s.stores := rfl
@[simp] theorem State.promotePatterns_timing (s : State) : (s.promotePatterns).timing = s.timing := rfl
@[simp] theorem State.promotePatterns_schedule (s : State) : (s.promotePatterns).schedule = s.schedule := rfl
@[simp] theorem State.promotePatterns_mc (s : State) : (s.promotePatterns).mc = s.mc := rfl
@[simp] theorem State.promotePatterns_probes (s : State) : (s.promotePatterns).probes = s.probes := rfl
@[simp] theorem State.promotePatterns_engine (s : State) : (s.promotePatterns).engine = s.engine := rfl
@[simp] theorem State.promotePatterns_link (s : State) : (s.promotePatterns).link = s.link := rfl
@[simp] theorem State.promotePatterns_notices (s : State) : (s.promotePatterns).notices = s.notices := rfl
@[simp] theorem State.promotePatterns_opening (s : State) : (s.promotePatterns).opening = s.opening := rfl
@[simp] theorem State.promotePatterns_pending (s : State) : (s.promotePatterns).pending = s.pending := rfl

/-! ### `copyLine` -/

@[simp] theorem State.copyLine_straps (s : State) (l : Line) : (s.copyLine l).straps = s.straps := rfl
@[simp] theorem State.copyLine_held (s : State) (l : Line) : (s.copyLine l).held = s.held := rfl
@[simp] theorem State.copyLine_ports (s : State) (l : Line) : (s.copyLine l).ports = s.ports := rfl
@[simp] theorem State.copyLine_stores (s : State) (l : Line) : (s.copyLine l).stores = s.stores := rfl
@[simp] theorem State.copyLine_timing (s : State) (l : Line) : (s.copyLine l).timing = s.timing := rfl
@[simp] theorem State.copyLine_schedule (s : State) (l : Line) : (s.copyLine l).schedule = s.schedule := rfl
@[simp] theorem State.copyLine_mc (s : State) (l : Line) : (s.copyLine l).mc = s.mc := rfl
@[simp] theorem State.copyLine_probes (s : State) (l : Line) : (s.copyLine l).probes = s.probes := rfl
@[simp] theorem State.copyLine_engine (s : State) (l : Line) : (s.copyLine l).engine = s.engine := rfl
@[simp] theorem State.copyLine_link (s : State) (l : Line) : (s.copyLine l).link = s.link := rfl
@[simp] theorem State.copyLine_notices (s : State) (l : Line) : (s.copyLine l).notices = s.notices := rfl
@[simp] theorem State.copyLine_opening (s : State) (l : Line) : (s.copyLine l).opening = s.opening := rfl
@[simp] theorem State.copyLine_pending (s : State) (l : Line) : (s.copyLine l).pending = s.pending := rfl

/-! ### `clearLine` -/

@[simp] theorem State.clearLine_straps (s : State) (l : Line) : (s.clearLine l).straps = s.straps := rfl
@[simp] theorem State.clearLine_held (s : State) (l : Line) : (s.clearLine l).held = s.held := rfl
@[simp] theorem State.clearLine_ports (s : State) (l : Line) : (s.clearLine l).ports = s.ports := rfl
@[simp] theorem State.clearLine_stores (s : State) (l : Line) : (s.clearLine l).stores = s.stores := rfl
@[simp] theorem State.clearLine_timing (s : State) (l : Line) : (s.clearLine l).timing = s.timing := rfl
@[simp] theorem State.clearLine_schedule (s : State) (l : Line) : (s.clearLine l).schedule = s.schedule := rfl
@[simp] theorem State.clearLine_mc (s : State) (l : Line) : (s.clearLine l).mc = s.mc := rfl
@[simp] theorem State.clearLine_probes (s : State) (l : Line) : (s.clearLine l).probes = s.probes := rfl
@[simp] theorem State.clearLine_engine (s : State) (l : Line) : (s.clearLine l).engine = s.engine := rfl
@[simp] theorem State.clearLine_link (s : State) (l : Line) : (s.clearLine l).link = s.link := rfl
@[simp] theorem State.clearLine_notices (s : State) (l : Line) : (s.clearLine l).notices = s.notices := rfl
@[simp] theorem State.clearLine_opening (s : State) (l : Line) : (s.clearLine l).opening = s.opening := rfl
@[simp] theorem State.clearLine_pending (s : State) (l : Line) : (s.clearLine l).pending = s.pending := rfl

/-! ### `mcState` -/

@[simp] theorem State.mcState_straps (s : State) (m : McState) : (s.mcState m).straps = s.straps := rfl
@[simp] theorem State.mcState_held (s : State) (m : McState) : (s.mcState m).held = s.held := rfl
@[simp] theorem State.mcState_ports (s : State) (m : McState) : (s.mcState m).ports = s.ports := rfl
@[simp] theorem State.mcState_stores (s : State) (m : McState) : (s.mcState m).stores = s.stores := rfl
@[simp] theorem State.mcState_timing (s : State) (m : McState) : (s.mcState m).timing = s.timing := rfl
@[simp] theorem State.mcState_schedule (s : State) (m : McState) : (s.mcState m).schedule = s.schedule := rfl
@[simp] theorem State.mcState_switch (s : State) (m : McState) : (s.mcState m).switch = s.switch := rfl
@[simp] theorem State.mcState_probes (s : State) (m : McState) : (s.mcState m).probes = s.probes := rfl
@[simp] theorem State.mcState_engine (s : State) (m : McState) : (s.mcState m).engine = s.engine := rfl
@[simp] theorem State.mcState_link (s : State) (m : McState) : (s.mcState m).link = s.link := rfl
@[simp] theorem State.mcState_notices (s : State) (m : McState) : (s.mcState m).notices = s.notices := rfl
@[simp] theorem State.mcState_opening (s : State) (m : McState) : (s.mcState m).opening = s.opening := rfl
@[simp] theorem State.mcState_pending (s : State) (m : McState) : (s.mcState m).pending = s.pending := rfl

/-! ### `lastStep` -/

@[simp] theorem State.lastStep_straps (s : State) : (s.lastStep).straps = s.straps := rfl
@[simp] theorem State.lastStep_held (s : State) : (s.lastStep).held = s.held := rfl
@[simp] theorem State.lastStep_ports (s : State) : (s.lastStep).ports = s.ports := rfl
@[simp] theorem State.lastStep_stores (s : State) : (s.lastStep).stores = s.stores := rfl
@[simp] theorem State.lastStep_timing (s : State) : (s.lastStep).timing = s.timing := rfl
@[simp] theorem State.lastStep_schedule (s : State) : (s.lastStep).schedule = s.schedule := rfl
@[simp] theorem State.lastStep_switch (s : State) : (s.lastStep).switch = s.switch := rfl
@[simp] theorem State.lastStep_mc (s : State) : (s.lastStep).mc = s.mc := rfl
@[simp] theorem State.lastStep_probes (s : State) : (s.lastStep).probes = s.probes := rfl
@[simp] theorem State.lastStep_engine (s : State) : (s.lastStep).engine = s.engine := rfl
@[simp] theorem State.lastStep_link (s : State) : (s.lastStep).link = s.link := rfl
@[simp] theorem State.lastStep_notices (s : State) : (s.lastStep).notices = s.notices := rfl
@[simp] theorem State.lastStep_pending (s : State) : (s.lastStep).pending = s.pending := rfl

/-! ### `swapAt` -/

@[simp] theorem State.swapAt_straps (s : State) (n : Word) : (s.swapAt n).straps = s.straps := rfl
@[simp] theorem State.swapAt_held (s : State) (n : Word) : (s.swapAt n).held = s.held := rfl
@[simp] theorem State.swapAt_ports (s : State) (n : Word) : (s.swapAt n).ports = s.ports := rfl
@[simp] theorem State.swapAt_stores (s : State) (n : Word) : (s.swapAt n).stores = s.stores := rfl
@[simp] theorem State.swapAt_timing (s : State) (n : Word) : (s.swapAt n).timing = s.timing := rfl
@[simp] theorem State.swapAt_schedule (s : State) (n : Word) : (s.swapAt n).schedule = s.schedule := rfl
@[simp] theorem State.swapAt_probes (s : State) (n : Word) : (s.swapAt n).probes = s.probes := rfl
@[simp] theorem State.swapAt_engine (s : State) (n : Word) : (s.swapAt n).engine = s.engine := rfl
@[simp] theorem State.swapAt_link (s : State) (n : Word) : (s.swapAt n).link = s.link := rfl
@[simp] theorem State.swapAt_notices (s : State) (n : Word) : (s.swapAt n).notices = s.notices := rfl
@[simp] theorem State.swapAt_pending (s : State) (n : Word) : (s.swapAt n).pending = s.pending := rfl

/-! ### `mcStep` -/

@[simp] theorem State.mcStep_straps (s : State) (n : Word) : (s.mcStep n).straps = s.straps := by
  unfold State.mcStep; (repeat' split) <;> simp
@[simp] theorem State.mcStep_held (s : State) (n : Word) : (s.mcStep n).held = s.held := by
  unfold State.mcStep; (repeat' split) <;> simp
@[simp] theorem State.mcStep_ports (s : State) (n : Word) : (s.mcStep n).ports = s.ports := by
  unfold State.mcStep; (repeat' split) <;> simp
@[simp] theorem State.mcStep_stores (s : State) (n : Word) : (s.mcStep n).stores = s.stores := by
  unfold State.mcStep; (repeat' split) <;> simp
@[simp] theorem State.mcStep_timing (s : State) (n : Word) : (s.mcStep n).timing = s.timing := by
  unfold State.mcStep; (repeat' split) <;> simp
@[simp] theorem State.mcStep_schedule (s : State) (n : Word) : (s.mcStep n).schedule = s.schedule := by
  unfold State.mcStep; (repeat' split) <;> simp
@[simp] theorem State.mcStep_probes (s : State) (n : Word) : (s.mcStep n).probes = s.probes := by
  unfold State.mcStep; (repeat' split) <;> simp
@[simp] theorem State.mcStep_engine (s : State) (n : Word) : (s.mcStep n).engine = s.engine := by
  unfold State.mcStep; (repeat' split) <;> simp
@[simp] theorem State.mcStep_link (s : State) (n : Word) : (s.mcStep n).link = s.link := by
  unfold State.mcStep; (repeat' split) <;> simp
@[simp] theorem State.mcStep_notices (s : State) (n : Word) : (s.mcStep n).notices = s.notices := by
  unfold State.mcStep; (repeat' split) <;> simp
@[simp] theorem State.mcStep_pending (s : State) (n : Word) : (s.mcStep n).pending = s.pending := by
  unfold State.mcStep; (repeat' split) <;> simp

/-! ### `finishMc` -/

@[simp] theorem State.finishMc_straps (s : State) (f : Option (Byte × Byte × List Byte)) : (s.finishMc f).straps = s.straps := by
  unfold State.finishMc; (repeat' split) <;> simp
@[simp] theorem State.finishMc_held (s : State) (f : Option (Byte × Byte × List Byte)) : (s.finishMc f).held = s.held := by
  unfold State.finishMc; (repeat' split) <;> simp
@[simp] theorem State.finishMc_ports (s : State) (f : Option (Byte × Byte × List Byte)) : (s.finishMc f).ports = s.ports := by
  unfold State.finishMc; (repeat' split) <;> simp
@[simp] theorem State.finishMc_stores (s : State) (f : Option (Byte × Byte × List Byte)) : (s.finishMc f).stores = s.stores := by
  unfold State.finishMc; (repeat' split) <;> simp
@[simp] theorem State.finishMc_timing (s : State) (f : Option (Byte × Byte × List Byte)) : (s.finishMc f).timing = s.timing := by
  unfold State.finishMc; (repeat' split) <;> simp
@[simp] theorem State.finishMc_schedule (s : State) (f : Option (Byte × Byte × List Byte)) : (s.finishMc f).schedule = s.schedule := by
  unfold State.finishMc; (repeat' split) <;> simp
@[simp] theorem State.finishMc_switch (s : State) (f : Option (Byte × Byte × List Byte)) : (s.finishMc f).switch = s.switch := by
  unfold State.finishMc; (repeat' split) <;> simp
@[simp] theorem State.finishMc_probes (s : State) (f : Option (Byte × Byte × List Byte)) : (s.finishMc f).probes = s.probes := by
  unfold State.finishMc; (repeat' split) <;> simp
@[simp] theorem State.finishMc_link (s : State) (f : Option (Byte × Byte × List Byte)) : (s.finishMc f).link = s.link := by
  unfold State.finishMc; (repeat' split) <;> simp
@[simp] theorem State.finishMc_notices (s : State) (f : Option (Byte × Byte × List Byte)) : (s.finishMc f).notices = s.notices := by
  unfold State.finishMc; (repeat' split) <;> simp
@[simp] theorem State.finishMc_opening (s : State) (f : Option (Byte × Byte × List Byte)) : (s.finishMc f).opening = s.opening := by
  unfold State.finishMc; (repeat' split) <;> simp
@[simp] theorem State.finishMc_pending (s : State) (f : Option (Byte × Byte × List Byte)) : (s.finishMc f).pending = s.pending := by
  unfold State.finishMc; (repeat' split) <;> simp

/-! ### `mcShare` -/

@[simp] theorem State.mcShare_straps (s : State) : (s.mcShare).straps = s.straps := by simp [State.mcShare]
@[simp] theorem State.mcShare_held (s : State) : (s.mcShare).held = s.held := by simp [State.mcShare]
@[simp] theorem State.mcShare_ports (s : State) : (s.mcShare).ports = s.ports := by simp [State.mcShare]
@[simp] theorem State.mcShare_stores (s : State) : (s.mcShare).stores = s.stores := by simp [State.mcShare]
@[simp] theorem State.mcShare_timing (s : State) : (s.mcShare).timing = s.timing := by simp [State.mcShare]
@[simp] theorem State.mcShare_schedule (s : State) : (s.mcShare).schedule = s.schedule := by simp [State.mcShare]
@[simp] theorem State.mcShare_probes (s : State) : (s.mcShare).probes = s.probes := by simp [State.mcShare]
@[simp] theorem State.mcShare_link (s : State) : (s.mcShare).link = s.link := by simp [State.mcShare]
@[simp] theorem State.mcShare_notices (s : State) : (s.mcShare).notices = s.notices := by simp [State.mcShare]
@[simp] theorem State.mcShare_pending (s : State) : (s.mcShare).pending = s.pending := by simp [State.mcShare]

/-! ### `switchBoundary` -/

@[simp] theorem State.switchBoundary_straps (s : State) : (s.switchBoundary).straps = s.straps := by simp [State.switchBoundary]
@[simp] theorem State.switchBoundary_held (s : State) : (s.switchBoundary).held = s.held := by simp [State.switchBoundary]
@[simp] theorem State.switchBoundary_ports (s : State) : (s.switchBoundary).ports = s.ports := by simp [State.switchBoundary]
@[simp] theorem State.switchBoundary_stores (s : State) : (s.switchBoundary).stores = s.stores := by simp [State.switchBoundary]
@[simp] theorem State.switchBoundary_timing (s : State) : (s.switchBoundary).timing = s.timing := by simp [State.switchBoundary]
@[simp] theorem State.switchBoundary_schedule (s : State) : (s.switchBoundary).schedule = s.schedule := by simp [State.switchBoundary]
@[simp] theorem State.switchBoundary_probes (s : State) : (s.switchBoundary).probes = s.probes := by simp [State.switchBoundary]
@[simp] theorem State.switchBoundary_engine (s : State) : (s.switchBoundary).engine = s.engine := by simp [State.switchBoundary]
@[simp] theorem State.switchBoundary_link (s : State) : (s.switchBoundary).link = s.link := by simp [State.switchBoundary]
@[simp] theorem State.switchBoundary_notices (s : State) : (s.switchBoundary).notices = s.notices := by simp [State.switchBoundary]
@[simp] theorem State.switchBoundary_pending (s : State) : (s.switchBoundary).pending = s.pending := by simp [State.switchBoundary]

/-! ### `giveUp` -/

@[simp] theorem State.giveUp_straps (s : State) (g : Location) (k : Link) : (s.giveUp g k).straps = s.straps := rfl
@[simp] theorem State.giveUp_held (s : State) (g : Location) (k : Link) : (s.giveUp g k).held = s.held := rfl
@[simp] theorem State.giveUp_ports (s : State) (g : Location) (k : Link) : (s.giveUp g k).ports = s.ports := rfl
@[simp] theorem State.giveUp_stores (s : State) (g : Location) (k : Link) : (s.giveUp g k).stores = s.stores := rfl
@[simp] theorem State.giveUp_timing (s : State) (g : Location) (k : Link) : (s.giveUp g k).timing = s.timing := rfl
@[simp] theorem State.giveUp_schedule (s : State) (g : Location) (k : Link) : (s.giveUp g k).schedule = s.schedule := rfl
@[simp] theorem State.giveUp_mc (s : State) (g : Location) (k : Link) : (s.giveUp g k).mc = s.mc := rfl
@[simp] theorem State.giveUp_probes (s : State) (g : Location) (k : Link) : (s.giveUp g k).probes = s.probes := rfl
@[simp] theorem State.giveUp_engine (s : State) (g : Location) (k : Link) : (s.giveUp g k).engine = s.engine := rfl
@[simp] theorem State.giveUp_notices (s : State) (g : Location) (k : Link) : (s.giveUp g k).notices = s.notices := rfl
@[simp] theorem State.giveUp_pending (s : State) (g : Location) (k : Link) : (s.giveUp g k).pending = s.pending := rfl

/-! ### `revertTrial` -/

@[simp] theorem State.revertTrial_straps (s : State) (f : Location) (w : MoveReason) : (s.revertTrial f w).straps = s.straps := rfl
@[simp] theorem State.revertTrial_held (s : State) (f : Location) (w : MoveReason) : (s.revertTrial f w).held = s.held := rfl
@[simp] theorem State.revertTrial_ports (s : State) (f : Location) (w : MoveReason) : (s.revertTrial f w).ports = s.ports := rfl
@[simp] theorem State.revertTrial_stores (s : State) (f : Location) (w : MoveReason) : (s.revertTrial f w).stores = s.stores := rfl
@[simp] theorem State.revertTrial_timing (s : State) (f : Location) (w : MoveReason) : (s.revertTrial f w).timing = s.timing := rfl
@[simp] theorem State.revertTrial_schedule (s : State) (f : Location) (w : MoveReason) : (s.revertTrial f w).schedule = s.schedule := rfl
@[simp] theorem State.revertTrial_mc (s : State) (f : Location) (w : MoveReason) : (s.revertTrial f w).mc = s.mc := rfl
@[simp] theorem State.revertTrial_probes (s : State) (f : Location) (w : MoveReason) : (s.revertTrial f w).probes = s.probes := rfl
@[simp] theorem State.revertTrial_engine (s : State) (f : Location) (w : MoveReason) : (s.revertTrial f w).engine = s.engine := rfl
@[simp] theorem State.revertTrial_pending (s : State) (f : Location) (w : MoveReason) : (s.revertTrial f w).pending = s.pending := rfl

/-! ### `revert` -/

@[simp] theorem State.revert_straps (s : State) (w : MoveReason) : (s.revert w).straps = s.straps := by
  unfold State.revert; (repeat' split) <;> simp
@[simp] theorem State.revert_held (s : State) (w : MoveReason) : (s.revert w).held = s.held := by
  unfold State.revert; (repeat' split) <;> simp
@[simp] theorem State.revert_ports (s : State) (w : MoveReason) : (s.revert w).ports = s.ports := by
  unfold State.revert; (repeat' split) <;> simp
@[simp] theorem State.revert_stores (s : State) (w : MoveReason) : (s.revert w).stores = s.stores := by
  unfold State.revert; (repeat' split) <;> simp
@[simp] theorem State.revert_timing (s : State) (w : MoveReason) : (s.revert w).timing = s.timing := by
  unfold State.revert; (repeat' split) <;> simp
@[simp] theorem State.revert_schedule (s : State) (w : MoveReason) : (s.revert w).schedule = s.schedule := by
  unfold State.revert; (repeat' split) <;> simp
@[simp] theorem State.revert_mc (s : State) (w : MoveReason) : (s.revert w).mc = s.mc := by
  unfold State.revert; (repeat' split) <;> simp
@[simp] theorem State.revert_probes (s : State) (w : MoveReason) : (s.revert w).probes = s.probes := by
  unfold State.revert; (repeat' split) <;> simp
@[simp] theorem State.revert_engine (s : State) (w : MoveReason) : (s.revert w).engine = s.engine := by
  unfold State.revert; (repeat' split) <;> simp
@[simp] theorem State.revert_pending (s : State) (w : MoveReason) : (s.revert w).pending = s.pending := by
  unfold State.revert; (repeat' split) <;> simp

/-! ### `revertSwitch` -/

@[simp] theorem State.revertSwitch_straps (s : State) (p : Location) : (s.revertSwitch p).straps = s.straps := rfl
@[simp] theorem State.revertSwitch_held (s : State) (p : Location) : (s.revertSwitch p).held = s.held := rfl
@[simp] theorem State.revertSwitch_ports (s : State) (p : Location) : (s.revertSwitch p).ports = s.ports := rfl
@[simp] theorem State.revertSwitch_stores (s : State) (p : Location) : (s.revertSwitch p).stores = s.stores := rfl
@[simp] theorem State.revertSwitch_timing (s : State) (p : Location) : (s.revertSwitch p).timing = s.timing := rfl
@[simp] theorem State.revertSwitch_schedule (s : State) (p : Location) : (s.revertSwitch p).schedule = s.schedule := rfl
@[simp] theorem State.revertSwitch_mc (s : State) (p : Location) : (s.revertSwitch p).mc = s.mc := rfl
@[simp] theorem State.revertSwitch_probes (s : State) (p : Location) : (s.revertSwitch p).probes = s.probes := rfl
@[simp] theorem State.revertSwitch_pending (s : State) (p : Location) : (s.revertSwitch p).pending = s.pending := rfl

/-! ### `switchTo` -/

@[simp] theorem State.switchTo_straps (s : State) (p : Location) : (s.switchTo p).straps = s.straps := rfl
@[simp] theorem State.switchTo_held (s : State) (p : Location) : (s.switchTo p).held = s.held := rfl
@[simp] theorem State.switchTo_ports (s : State) (p : Location) : (s.switchTo p).ports = s.ports := rfl
@[simp] theorem State.switchTo_stores (s : State) (p : Location) : (s.switchTo p).stores = s.stores := rfl
@[simp] theorem State.switchTo_timing (s : State) (p : Location) : (s.switchTo p).timing = s.timing := rfl
@[simp] theorem State.switchTo_schedule (s : State) (p : Location) : (s.switchTo p).schedule = s.schedule := rfl
@[simp] theorem State.switchTo_switch (s : State) (p : Location) : (s.switchTo p).switch = s.switch := rfl
@[simp] theorem State.switchTo_mc (s : State) (p : Location) : (s.switchTo p).mc = s.mc := rfl
@[simp] theorem State.switchTo_probes (s : State) (p : Location) : (s.switchTo p).probes = s.probes := rfl
@[simp] theorem State.switchTo_notices (s : State) (p : Location) : (s.switchTo p).notices = s.notices := rfl
@[simp] theorem State.switchTo_opening (s : State) (p : Location) : (s.switchTo p).opening = s.opening := rfl
@[simp] theorem State.switchTo_pending (s : State) (p : Location) : (s.switchTo p).pending = s.pending := rfl

/-! ### `confirm` -/

@[simp] theorem State.confirm_straps (s : State) : (s.confirm).straps = s.straps := by
  unfold State.confirm; (repeat' split) <;> simp
@[simp] theorem State.confirm_held (s : State) : (s.confirm).held = s.held := by
  unfold State.confirm; (repeat' split) <;> simp
@[simp] theorem State.confirm_ports (s : State) : (s.confirm).ports = s.ports := by
  unfold State.confirm; (repeat' split) <;> simp
@[simp] theorem State.confirm_stores (s : State) : (s.confirm).stores = s.stores := by
  unfold State.confirm; (repeat' split) <;> simp
@[simp] theorem State.confirm_timing (s : State) : (s.confirm).timing = s.timing := by
  unfold State.confirm; (repeat' split) <;> simp
@[simp] theorem State.confirm_schedule (s : State) : (s.confirm).schedule = s.schedule := by
  unfold State.confirm; (repeat' split) <;> simp
@[simp] theorem State.confirm_mc (s : State) : (s.confirm).mc = s.mc := by
  unfold State.confirm; (repeat' split) <;> simp
@[simp] theorem State.confirm_probes (s : State) : (s.confirm).probes = s.probes := by
  unfold State.confirm; (repeat' split) <;> simp
@[simp] theorem State.confirm_engine (s : State) : (s.confirm).engine = s.engine := by
  unfold State.confirm; (repeat' split) <;> simp
@[simp] theorem State.confirm_pending (s : State) : (s.confirm).pending = s.pending := by
  unfold State.confirm; (repeat' split) <;> simp

/-! ### `trialPart` -/

@[simp] theorem State.trialPart_straps (s : State) : (s.trialPart).straps = s.straps := by
  unfold State.trialPart; (repeat' split) <;> simp
@[simp] theorem State.trialPart_held (s : State) : (s.trialPart).held = s.held := by
  unfold State.trialPart; (repeat' split) <;> simp
@[simp] theorem State.trialPart_ports (s : State) : (s.trialPart).ports = s.ports := by
  unfold State.trialPart; (repeat' split) <;> simp
@[simp] theorem State.trialPart_stores (s : State) : (s.trialPart).stores = s.stores := by
  unfold State.trialPart; (repeat' split) <;> simp
@[simp] theorem State.trialPart_timing (s : State) : (s.trialPart).timing = s.timing := by
  unfold State.trialPart; (repeat' split) <;> simp
@[simp] theorem State.trialPart_schedule (s : State) : (s.trialPart).schedule = s.schedule := by
  unfold State.trialPart; (repeat' split) <;> simp
@[simp] theorem State.trialPart_mc (s : State) : (s.trialPart).mc = s.mc := by
  unfold State.trialPart; (repeat' split) <;> simp
@[simp] theorem State.trialPart_probes (s : State) : (s.trialPart).probes = s.probes := by
  unfold State.trialPart; (repeat' split) <;> simp
@[simp] theorem State.trialPart_engine (s : State) : (s.trialPart).engine = s.engine := by
  unfold State.trialPart; (repeat' split) <;> simp
@[simp] theorem State.trialPart_pending (s : State) : (s.trialPart).pending = s.pending := by
  unfold State.trialPart; (repeat' split) <;> simp

/-! ### `switchPart` -/

@[simp] theorem State.switchPart_straps (s : State) : (s.switchPart).straps = s.straps := by
  unfold State.switchPart; (repeat' split) <;> simp
@[simp] theorem State.switchPart_held (s : State) : (s.switchPart).held = s.held := by
  unfold State.switchPart; (repeat' split) <;> simp
@[simp] theorem State.switchPart_ports (s : State) : (s.switchPart).ports = s.ports := by
  unfold State.switchPart; (repeat' split) <;> simp
@[simp] theorem State.switchPart_stores (s : State) : (s.switchPart).stores = s.stores := by
  unfold State.switchPart; (repeat' split) <;> simp
@[simp] theorem State.switchPart_timing (s : State) : (s.switchPart).timing = s.timing := by
  unfold State.switchPart; (repeat' split) <;> simp
@[simp] theorem State.switchPart_schedule (s : State) : (s.switchPart).schedule = s.schedule := by
  unfold State.switchPart; (repeat' split) <;> simp
@[simp] theorem State.switchPart_mc (s : State) : (s.switchPart).mc = s.mc := by
  unfold State.switchPart; (repeat' split) <;> simp
@[simp] theorem State.switchPart_probes (s : State) : (s.switchPart).probes = s.probes := by
  unfold State.switchPart; (repeat' split) <;> simp
@[simp] theorem State.switchPart_pending (s : State) : (s.switchPart).pending = s.pending := by
  unfold State.switchPart; (repeat' split) <;> simp

/-! ### `headParts` -/

@[simp] theorem State.headParts_straps (s : State) : (s.headParts).straps = s.straps := by simp [State.headParts]
@[simp] theorem State.headParts_held (s : State) : (s.headParts).held = s.held := by simp [State.headParts]
@[simp] theorem State.headParts_ports (s : State) : (s.headParts).ports = s.ports := by simp [State.headParts]
@[simp] theorem State.headParts_stores (s : State) : (s.headParts).stores = s.stores := by simp [State.headParts]
@[simp] theorem State.headParts_timing (s : State) : (s.headParts).timing = s.timing := by simp [State.headParts]
@[simp] theorem State.headParts_schedule (s : State) : (s.headParts).schedule = s.schedule := by simp [State.headParts]
@[simp] theorem State.headParts_mc (s : State) : (s.headParts).mc = s.mc := by simp [State.headParts]
@[simp] theorem State.headParts_probes (s : State) : (s.headParts).probes = s.probes := by simp [State.headParts]
@[simp] theorem State.headParts_pending (s : State) : (s.headParts).pending = s.pending := by simp [State.headParts]

/-! ### `intake` -/

@[simp] theorem State.intake_straps (s : State) (r : Request) : (s.intake r).straps = s.straps := by
  unfold State.intake; (repeat' split) <;> simp
@[simp] theorem State.intake_held (s : State) (r : Request) : (s.intake r).held = s.held := by
  unfold State.intake; (repeat' split) <;> simp
@[simp] theorem State.intake_ports (s : State) (r : Request) : (s.intake r).ports = s.ports := by
  unfold State.intake; (repeat' split) <;> simp
@[simp] theorem State.intake_stores (s : State) (r : Request) : (s.intake r).stores = s.stores := by
  unfold State.intake; (repeat' split) <;> simp
@[simp] theorem State.intake_timing (s : State) (r : Request) : (s.intake r).timing = s.timing := by
  unfold State.intake; (repeat' split) <;> simp
@[simp] theorem State.intake_schedule (s : State) (r : Request) : (s.intake r).schedule = s.schedule := by
  unfold State.intake; (repeat' split) <;> simp
@[simp] theorem State.intake_switch (s : State) (r : Request) : (s.intake r).switch = s.switch := by
  unfold State.intake; (repeat' split) <;> simp
@[simp] theorem State.intake_mc (s : State) (r : Request) : (s.intake r).mc = s.mc := by
  unfold State.intake; (repeat' split) <;> simp
@[simp] theorem State.intake_probes (s : State) (r : Request) : (s.intake r).probes = s.probes := by
  unfold State.intake; (repeat' split) <;> simp
@[simp] theorem State.intake_link (s : State) (r : Request) : (s.intake r).link = s.link := by
  unfold State.intake; (repeat' split) <;> simp
@[simp] theorem State.intake_notices (s : State) (r : Request) : (s.intake r).notices = s.notices := by
  unfold State.intake; (repeat' split) <;> simp
@[simp] theorem State.intake_opening (s : State) (r : Request) : (s.intake r).opening = s.opening := by
  unfold State.intake; (repeat' split) <;> simp
@[simp] theorem State.intake_pending (s : State) (r : Request) : (s.intake r).pending = s.pending := by
  unfold State.intake; (repeat' split) <;> simp

/-! ### `deliverGood` -/

@[simp] theorem State.deliverGood_straps (s : State) (q k : Byte) (p : List Byte) : (s.deliverGood q k p).straps = s.straps := by
  unfold State.deliverGood; (repeat' split) <;> simp
@[simp] theorem State.deliverGood_held (s : State) (q k : Byte) (p : List Byte) : (s.deliverGood q k p).held = s.held := by
  unfold State.deliverGood; (repeat' split) <;> simp
@[simp] theorem State.deliverGood_ports (s : State) (q k : Byte) (p : List Byte) : (s.deliverGood q k p).ports = s.ports := by
  unfold State.deliverGood; (repeat' split) <;> simp
@[simp] theorem State.deliverGood_stores (s : State) (q k : Byte) (p : List Byte) : (s.deliverGood q k p).stores = s.stores := by
  unfold State.deliverGood; (repeat' split) <;> simp
@[simp] theorem State.deliverGood_timing (s : State) (q k : Byte) (p : List Byte) : (s.deliverGood q k p).timing = s.timing := by
  unfold State.deliverGood; (repeat' split) <;> simp
@[simp] theorem State.deliverGood_schedule (s : State) (q k : Byte) (p : List Byte) : (s.deliverGood q k p).schedule = s.schedule := by
  unfold State.deliverGood; (repeat' split) <;> simp
@[simp] theorem State.deliverGood_mc (s : State) (q k : Byte) (p : List Byte) : (s.deliverGood q k p).mc = s.mc := by
  unfold State.deliverGood; (repeat' split) <;> simp
@[simp] theorem State.deliverGood_probes (s : State) (q k : Byte) (p : List Byte) : (s.deliverGood q k p).probes = s.probes := by
  unfold State.deliverGood; (repeat' split) <;> simp
@[simp] theorem State.deliverGood_pending (s : State) (q k : Byte) (p : List Byte) : (s.deliverGood q k p).pending = s.pending := by
  unfold State.deliverGood; (repeat' split) <;> simp

/-! ### `deliver` -/

@[simp] theorem State.deliver_straps (s : State) (q k : Byte) (p : List Byte) : (s.deliver q k p).straps = s.straps := by
  unfold State.deliver; (repeat' split) <;> simp
@[simp] theorem State.deliver_held (s : State) (q k : Byte) (p : List Byte) : (s.deliver q k p).held = s.held := by
  unfold State.deliver; (repeat' split) <;> simp
@[simp] theorem State.deliver_ports (s : State) (q k : Byte) (p : List Byte) : (s.deliver q k p).ports = s.ports := by
  unfold State.deliver; (repeat' split) <;> simp
@[simp] theorem State.deliver_stores (s : State) (q k : Byte) (p : List Byte) : (s.deliver q k p).stores = s.stores := by
  unfold State.deliver; (repeat' split) <;> simp
@[simp] theorem State.deliver_timing (s : State) (q k : Byte) (p : List Byte) : (s.deliver q k p).timing = s.timing := by
  unfold State.deliver; (repeat' split) <;> simp
@[simp] theorem State.deliver_schedule (s : State) (q k : Byte) (p : List Byte) : (s.deliver q k p).schedule = s.schedule := by
  unfold State.deliver; (repeat' split) <;> simp
@[simp] theorem State.deliver_mc (s : State) (q k : Byte) (p : List Byte) : (s.deliver q k p).mc = s.mc := by
  unfold State.deliver; (repeat' split) <;> simp
@[simp] theorem State.deliver_probes (s : State) (q k : Byte) (p : List Byte) : (s.deliver q k p).probes = s.probes := by
  unfold State.deliver; (repeat' split) <;> simp
@[simp] theorem State.deliver_pending (s : State) (q k : Byte) (p : List Byte) : (s.deliver q k p).pending = s.pending := by
  unfold State.deliver; (repeat' split) <;> simp

/-! ### `receiving` -/

@[simp] theorem State.receiving_straps (s : State) (r : Receiver) : (s.receiving r).straps = s.straps := rfl
@[simp] theorem State.receiving_held (s : State) (r : Receiver) : (s.receiving r).held = s.held := rfl
@[simp] theorem State.receiving_ports (s : State) (r : Receiver) : (s.receiving r).ports = s.ports := rfl
@[simp] theorem State.receiving_stores (s : State) (r : Receiver) : (s.receiving r).stores = s.stores := rfl
@[simp] theorem State.receiving_timing (s : State) (r : Receiver) : (s.receiving r).timing = s.timing := rfl
@[simp] theorem State.receiving_schedule (s : State) (r : Receiver) : (s.receiving r).schedule = s.schedule := rfl
@[simp] theorem State.receiving_switch (s : State) (r : Receiver) : (s.receiving r).switch = s.switch := rfl
@[simp] theorem State.receiving_mc (s : State) (r : Receiver) : (s.receiving r).mc = s.mc := rfl
@[simp] theorem State.receiving_probes (s : State) (r : Receiver) : (s.receiving r).probes = s.probes := rfl
@[simp] theorem State.receiving_engine (s : State) (r : Receiver) : (s.receiving r).engine = s.engine := rfl
@[simp] theorem State.receiving_notices (s : State) (r : Receiver) : (s.receiving r).notices = s.notices := rfl
@[simp] theorem State.receiving_opening (s : State) (r : Receiver) : (s.receiving r).opening = s.opening := rfl
@[simp] theorem State.receiving_pending (s : State) (r : Receiver) : (s.receiving r).pending = s.pending := rfl

/-! ### `checked` -/

@[simp] theorem State.checked_straps (s : State) (n : Byte) (o : List Byte) (c : Half) : (s.checked n o c).straps = s.straps := by
  unfold State.checked; (repeat' split) <;> simp
@[simp] theorem State.checked_held (s : State) (n : Byte) (o : List Byte) (c : Half) : (s.checked n o c).held = s.held := by
  unfold State.checked; (repeat' split) <;> simp
@[simp] theorem State.checked_ports (s : State) (n : Byte) (o : List Byte) (c : Half) : (s.checked n o c).ports = s.ports := by
  unfold State.checked; (repeat' split) <;> simp
@[simp] theorem State.checked_stores (s : State) (n : Byte) (o : List Byte) (c : Half) : (s.checked n o c).stores = s.stores := by
  unfold State.checked; (repeat' split) <;> simp
@[simp] theorem State.checked_timing (s : State) (n : Byte) (o : List Byte) (c : Half) : (s.checked n o c).timing = s.timing := by
  unfold State.checked; (repeat' split) <;> simp
@[simp] theorem State.checked_schedule (s : State) (n : Byte) (o : List Byte) (c : Half) : (s.checked n o c).schedule = s.schedule := by
  unfold State.checked; (repeat' split) <;> simp
@[simp] theorem State.checked_mc (s : State) (n : Byte) (o : List Byte) (c : Half) : (s.checked n o c).mc = s.mc := by
  unfold State.checked; (repeat' split) <;> simp
@[simp] theorem State.checked_probes (s : State) (n : Byte) (o : List Byte) (c : Half) : (s.checked n o c).probes = s.probes := by
  unfold State.checked; (repeat' split) <;> simp
@[simp] theorem State.checked_pending (s : State) (n : Byte) (o : List Byte) (c : Half) : (s.checked n o c).pending = s.pending := by
  unfold State.checked; (repeat' split) <;> simp

/-! ### `receive` -/

@[simp] theorem State.receive_straps (s : State) (b : Byte) : (s.receive b).straps = s.straps := by
  unfold State.receive; (repeat' split) <;> simp
@[simp] theorem State.receive_held (s : State) (b : Byte) : (s.receive b).held = s.held := by
  unfold State.receive; (repeat' split) <;> simp
@[simp] theorem State.receive_ports (s : State) (b : Byte) : (s.receive b).ports = s.ports := by
  unfold State.receive; (repeat' split) <;> simp
@[simp] theorem State.receive_stores (s : State) (b : Byte) : (s.receive b).stores = s.stores := by
  unfold State.receive; (repeat' split) <;> simp
@[simp] theorem State.receive_timing (s : State) (b : Byte) : (s.receive b).timing = s.timing := by
  unfold State.receive; (repeat' split) <;> simp
@[simp] theorem State.receive_schedule (s : State) (b : Byte) : (s.receive b).schedule = s.schedule := by
  unfold State.receive; (repeat' split) <;> simp
@[simp] theorem State.receive_mc (s : State) (b : Byte) : (s.receive b).mc = s.mc := by
  unfold State.receive; (repeat' split) <;> simp
@[simp] theorem State.receive_probes (s : State) (b : Byte) : (s.receive b).probes = s.probes := by
  unfold State.receive; (repeat' split) <;> simp
@[simp] theorem State.receive_pending (s : State) (b : Byte) : (s.receive b).pending = s.pending := by
  unfold State.receive; (repeat' split) <;> simp

/-! ### `readFrame` -/

@[simp] theorem State.readFrame_straps (s : State) : (s.readFrame).straps = s.straps := by
  unfold State.readFrame; split
  · rfl
  · exact foldl_keeps State.straps _ (fun a b => by simp) _ s
@[simp] theorem State.readFrame_held (s : State) : (s.readFrame).held = s.held := by
  unfold State.readFrame; split
  · rfl
  · exact foldl_keeps State.held _ (fun a b => by simp) _ s
@[simp] theorem State.readFrame_ports (s : State) : (s.readFrame).ports = s.ports := by
  unfold State.readFrame; split
  · rfl
  · exact foldl_keeps State.ports _ (fun a b => by simp) _ s
@[simp] theorem State.readFrame_stores (s : State) : (s.readFrame).stores = s.stores := by
  unfold State.readFrame; split
  · rfl
  · exact foldl_keeps State.stores _ (fun a b => by simp) _ s
@[simp] theorem State.readFrame_timing (s : State) : (s.readFrame).timing = s.timing := by
  unfold State.readFrame; split
  · rfl
  · exact foldl_keeps State.timing _ (fun a b => by simp) _ s
@[simp] theorem State.readFrame_schedule (s : State) : (s.readFrame).schedule = s.schedule := by
  unfold State.readFrame; split
  · rfl
  · exact foldl_keeps State.schedule _ (fun a b => by simp) _ s
@[simp] theorem State.readFrame_mc (s : State) : (s.readFrame).mc = s.mc := by
  unfold State.readFrame; split
  · rfl
  · exact foldl_keeps State.mc _ (fun a b => by simp) _ s
@[simp] theorem State.readFrame_probes (s : State) : (s.readFrame).probes = s.probes := by
  unfold State.readFrame; split
  · rfl
  · exact foldl_keeps State.probes _ (fun a b => by simp) _ s
@[simp] theorem State.readFrame_pending (s : State) : (s.readFrame).pending = s.pending := by
  unfold State.readFrame; split
  · rfl
  · exact foldl_keeps State.pending _ (fun a b => by simp) _ s

/-! ### `delivering` -/

@[simp] theorem State.delivering_straps (s : State) (q k : Byte) (p : List Byte) : (State.delivering q k p s).straps = s.straps := by simp [State.delivering]
@[simp] theorem State.delivering_held (s : State) (q k : Byte) (p : List Byte) : (State.delivering q k p s).held = s.held := by simp [State.delivering]
@[simp] theorem State.delivering_ports (s : State) (q k : Byte) (p : List Byte) : (State.delivering q k p s).ports = s.ports := by simp [State.delivering]
@[simp] theorem State.delivering_stores (s : State) (q k : Byte) (p : List Byte) : (State.delivering q k p s).stores = s.stores := by simp [State.delivering]
@[simp] theorem State.delivering_timing (s : State) (q k : Byte) (p : List Byte) : (State.delivering q k p s).timing = s.timing := by simp [State.delivering]
@[simp] theorem State.delivering_schedule (s : State) (q k : Byte) (p : List Byte) : (State.delivering q k p s).schedule = s.schedule := by simp [State.delivering]
@[simp] theorem State.delivering_mc (s : State) (q k : Byte) (p : List Byte) : (State.delivering q k p s).mc = s.mc := by simp [State.delivering]
@[simp] theorem State.delivering_probes (s : State) (q k : Byte) (p : List Byte) : (State.delivering q k p s).probes = s.probes := by simp [State.delivering]
@[simp] theorem State.delivering_pending (s : State) (q k : Byte) (p : List Byte) : (State.delivering q k p s).pending = s.pending := by simp [State.delivering]

/-! ### `startResponse` -/

@[simp] theorem State.startResponse_straps (s : State) (r : Response) : (s.startResponse r).straps = s.straps := rfl
@[simp] theorem State.startResponse_held (s : State) (r : Response) : (s.startResponse r).held = s.held := rfl
@[simp] theorem State.startResponse_ports (s : State) (r : Response) : (s.startResponse r).ports = s.ports := rfl
@[simp] theorem State.startResponse_stores (s : State) (r : Response) : (s.startResponse r).stores = s.stores := rfl
@[simp] theorem State.startResponse_timing (s : State) (r : Response) : (s.startResponse r).timing = s.timing := rfl
@[simp] theorem State.startResponse_schedule (s : State) (r : Response) : (s.startResponse r).schedule = s.schedule := rfl
@[simp] theorem State.startResponse_switch (s : State) (r : Response) : (s.startResponse r).switch = s.switch := rfl
@[simp] theorem State.startResponse_mc (s : State) (r : Response) : (s.startResponse r).mc = s.mc := rfl
@[simp] theorem State.startResponse_probes (s : State) (r : Response) : (s.startResponse r).probes = s.probes := rfl
@[simp] theorem State.startResponse_engine (s : State) (r : Response) : (s.startResponse r).engine = s.engine := rfl
@[simp] theorem State.startResponse_notices (s : State) (r : Response) : (s.startResponse r).notices = s.notices := rfl
@[simp] theorem State.startResponse_opening (s : State) (r : Response) : (s.startResponse r).opening = s.opening := rfl
@[simp] theorem State.startResponse_pending (s : State) (r : Response) : (s.startResponse r).pending = s.pending := rfl

/-! ### `startNotice` -/

@[simp] theorem State.startNotice_straps (s : State) : (s.startNotice).straps = s.straps := by
  simp only [State.startNotice]; split <;> rfl
@[simp] theorem State.startNotice_held (s : State) : (s.startNotice).held = s.held := by
  simp only [State.startNotice]; split <;> rfl
@[simp] theorem State.startNotice_ports (s : State) : (s.startNotice).ports = s.ports := by
  simp only [State.startNotice]; split <;> rfl
@[simp] theorem State.startNotice_stores (s : State) : (s.startNotice).stores = s.stores := by
  simp only [State.startNotice]; split <;> rfl
@[simp] theorem State.startNotice_timing (s : State) : (s.startNotice).timing = s.timing := by
  simp only [State.startNotice]; split <;> rfl
@[simp] theorem State.startNotice_schedule (s : State) : (s.startNotice).schedule = s.schedule := by
  simp only [State.startNotice]; split <;> rfl
@[simp] theorem State.startNotice_switch (s : State) : (s.startNotice).switch = s.switch := by
  simp only [State.startNotice]; split <;> rfl
@[simp] theorem State.startNotice_mc (s : State) : (s.startNotice).mc = s.mc := by
  simp only [State.startNotice]; split <;> rfl
@[simp] theorem State.startNotice_probes (s : State) : (s.startNotice).probes = s.probes := by
  simp only [State.startNotice]; split <;> rfl
@[simp] theorem State.startNotice_engine (s : State) : (s.startNotice).engine = s.engine := by
  simp only [State.startNotice]; split <;> rfl
@[simp] theorem State.startNotice_opening (s : State) : (s.startNotice).opening = s.opening := by
  simp only [State.startNotice]; split <;> rfl
@[simp] theorem State.startNotice_pending (s : State) : (s.startNotice).pending = s.pending := by
  simp only [State.startNotice]; split <;> rfl

/-! ### `chooseMessage` -/

@[simp] theorem State.chooseMessage_straps (s : State) : (s.chooseMessage).straps = s.straps := by
  unfold State.chooseMessage; (repeat' split) <;> simp
@[simp] theorem State.chooseMessage_held (s : State) : (s.chooseMessage).held = s.held := by
  unfold State.chooseMessage; (repeat' split) <;> simp
@[simp] theorem State.chooseMessage_ports (s : State) : (s.chooseMessage).ports = s.ports := by
  unfold State.chooseMessage; (repeat' split) <;> simp
@[simp] theorem State.chooseMessage_stores (s : State) : (s.chooseMessage).stores = s.stores := by
  unfold State.chooseMessage; (repeat' split) <;> simp
@[simp] theorem State.chooseMessage_timing (s : State) : (s.chooseMessage).timing = s.timing := by
  unfold State.chooseMessage; (repeat' split) <;> simp
@[simp] theorem State.chooseMessage_schedule (s : State) : (s.chooseMessage).schedule = s.schedule := by
  unfold State.chooseMessage; (repeat' split) <;> simp
@[simp] theorem State.chooseMessage_switch (s : State) : (s.chooseMessage).switch = s.switch := by
  unfold State.chooseMessage; (repeat' split) <;> simp
@[simp] theorem State.chooseMessage_mc (s : State) : (s.chooseMessage).mc = s.mc := by
  unfold State.chooseMessage; (repeat' split) <;> simp
@[simp] theorem State.chooseMessage_probes (s : State) : (s.chooseMessage).probes = s.probes := by
  unfold State.chooseMessage; (repeat' split) <;> simp
@[simp] theorem State.chooseMessage_engine (s : State) : (s.chooseMessage).engine = s.engine := by
  unfold State.chooseMessage; (repeat' split) <;> simp
@[simp] theorem State.chooseMessage_opening (s : State) : (s.chooseMessage).opening = s.opening := by
  unfold State.chooseMessage; (repeat' split) <;> simp
@[simp] theorem State.chooseMessage_pending (s : State) : (s.chooseMessage).pending = s.pending := by
  unfold State.chooseMessage; (repeat' split) <;> simp

/-! ### `readied` -/

@[simp] theorem State.readied_straps (s : State) : (s.readied).straps = s.straps := by
  unfold State.readied; (repeat' split) <;> simp
@[simp] theorem State.readied_held (s : State) : (s.readied).held = s.held := by
  unfold State.readied; (repeat' split) <;> simp
@[simp] theorem State.readied_ports (s : State) : (s.readied).ports = s.ports := by
  unfold State.readied; (repeat' split) <;> simp
@[simp] theorem State.readied_stores (s : State) : (s.readied).stores = s.stores := by
  unfold State.readied; (repeat' split) <;> simp
@[simp] theorem State.readied_timing (s : State) : (s.readied).timing = s.timing := by
  unfold State.readied; (repeat' split) <;> simp
@[simp] theorem State.readied_schedule (s : State) : (s.readied).schedule = s.schedule := by
  unfold State.readied; (repeat' split) <;> simp
@[simp] theorem State.readied_switch (s : State) : (s.readied).switch = s.switch := by
  unfold State.readied; (repeat' split) <;> simp
@[simp] theorem State.readied_mc (s : State) : (s.readied).mc = s.mc := by
  unfold State.readied; (repeat' split) <;> simp
@[simp] theorem State.readied_probes (s : State) : (s.readied).probes = s.probes := by
  unfold State.readied; (repeat' split) <;> simp
@[simp] theorem State.readied_engine (s : State) : (s.readied).engine = s.engine := by
  unfold State.readied; (repeat' split) <;> simp
@[simp] theorem State.readied_opening (s : State) : (s.readied).opening = s.opening := by
  unfold State.readied; (repeat' split) <;> simp
@[simp] theorem State.readied_pending (s : State) : (s.readied).pending = s.pending := by
  unfold State.readied; (repeat' split) <;> simp

/-! ### `endMessage` -/

@[simp] theorem State.endMessage_straps (s : State) (m : OutMessage) : (s.endMessage m).straps = s.straps := by
  unfold State.endMessage; (repeat' split) <;> simp
@[simp] theorem State.endMessage_held (s : State) (m : OutMessage) : (s.endMessage m).held = s.held := by
  unfold State.endMessage; (repeat' split) <;> simp
@[simp] theorem State.endMessage_ports (s : State) (m : OutMessage) : (s.endMessage m).ports = s.ports := by
  unfold State.endMessage; (repeat' split) <;> simp
@[simp] theorem State.endMessage_stores (s : State) (m : OutMessage) : (s.endMessage m).stores = s.stores := by
  unfold State.endMessage; (repeat' split) <;> simp
@[simp] theorem State.endMessage_timing (s : State) (m : OutMessage) : (s.endMessage m).timing = s.timing := by
  unfold State.endMessage; (repeat' split) <;> simp
@[simp] theorem State.endMessage_schedule (s : State) (m : OutMessage) : (s.endMessage m).schedule = s.schedule := by
  unfold State.endMessage; (repeat' split) <;> simp
@[simp] theorem State.endMessage_switch (s : State) (m : OutMessage) : (s.endMessage m).switch = s.switch := by
  unfold State.endMessage; (repeat' split) <;> simp
@[simp] theorem State.endMessage_mc (s : State) (m : OutMessage) : (s.endMessage m).mc = s.mc := by
  unfold State.endMessage; (repeat' split) <;> simp
@[simp] theorem State.endMessage_probes (s : State) (m : OutMessage) : (s.endMessage m).probes = s.probes := by
  unfold State.endMessage; (repeat' split) <;> simp
@[simp] theorem State.endMessage_pending (s : State) (m : OutMessage) : (s.endMessage m).pending = s.pending := by
  unfold State.endMessage; (repeat' split) <;> simp

/-! ### `put` -/

@[simp] theorem State.put_straps (s : State) (b : Byte) : (s.put b).straps = s.straps := rfl
@[simp] theorem State.put_held (s : State) (b : Byte) : (s.put b).held = s.held := rfl
@[simp] theorem State.put_ports (s : State) (b : Byte) : (s.put b).ports = s.ports := rfl
@[simp] theorem State.put_stores (s : State) (b : Byte) : (s.put b).stores = s.stores := rfl
@[simp] theorem State.put_timing (s : State) (b : Byte) : (s.put b).timing = s.timing := rfl
@[simp] theorem State.put_schedule (s : State) (b : Byte) : (s.put b).schedule = s.schedule := rfl
@[simp] theorem State.put_switch (s : State) (b : Byte) : (s.put b).switch = s.switch := rfl
@[simp] theorem State.put_mc (s : State) (b : Byte) : (s.put b).mc = s.mc := rfl
@[simp] theorem State.put_probes (s : State) (b : Byte) : (s.put b).probes = s.probes := rfl
@[simp] theorem State.put_engine (s : State) (b : Byte) : (s.put b).engine = s.engine := rfl
@[simp] theorem State.put_link (s : State) (b : Byte) : (s.put b).link = s.link := rfl
@[simp] theorem State.put_notices (s : State) (b : Byte) : (s.put b).notices = s.notices := rfl
@[simp] theorem State.put_pending (s : State) (b : Byte) : (s.put b).pending = s.pending := rfl

/-! ### `placeOctet` -/

@[simp] theorem State.placeOctet_straps (s : State) (m : OutMessage) (n : Nat) : (s.placeOctet m n).straps = s.straps := by
  unfold State.placeOctet; (repeat' split) <;> simp
@[simp] theorem State.placeOctet_held (s : State) (m : OutMessage) (n : Nat) : (s.placeOctet m n).held = s.held := by
  unfold State.placeOctet; (repeat' split) <;> simp
@[simp] theorem State.placeOctet_ports (s : State) (m : OutMessage) (n : Nat) : (s.placeOctet m n).ports = s.ports := by
  unfold State.placeOctet; (repeat' split) <;> simp
@[simp] theorem State.placeOctet_stores (s : State) (m : OutMessage) (n : Nat) : (s.placeOctet m n).stores = s.stores := by
  unfold State.placeOctet; (repeat' split) <;> simp
@[simp] theorem State.placeOctet_timing (s : State) (m : OutMessage) (n : Nat) : (s.placeOctet m n).timing = s.timing := by
  unfold State.placeOctet; (repeat' split) <;> simp
@[simp] theorem State.placeOctet_schedule (s : State) (m : OutMessage) (n : Nat) : (s.placeOctet m n).schedule = s.schedule := by
  unfold State.placeOctet; (repeat' split) <;> simp
@[simp] theorem State.placeOctet_switch (s : State) (m : OutMessage) (n : Nat) : (s.placeOctet m n).switch = s.switch := by
  unfold State.placeOctet; (repeat' split) <;> simp
@[simp] theorem State.placeOctet_mc (s : State) (m : OutMessage) (n : Nat) : (s.placeOctet m n).mc = s.mc := by
  unfold State.placeOctet; (repeat' split) <;> simp
@[simp] theorem State.placeOctet_probes (s : State) (m : OutMessage) (n : Nat) : (s.placeOctet m n).probes = s.probes := by
  unfold State.placeOctet; (repeat' split) <;> simp
@[simp] theorem State.placeOctet_pending (s : State) (m : OutMessage) (n : Nat) : (s.placeOctet m n).pending = s.pending := by
  unfold State.placeOctet; (repeat' split) <;> simp

/-! ### `fillSlot` -/

@[simp] theorem State.fillSlot_straps (s : State) : (s.fillSlot).straps = s.straps := by
  unfold State.fillSlot; (repeat' split) <;> simp
@[simp] theorem State.fillSlot_held (s : State) : (s.fillSlot).held = s.held := by
  unfold State.fillSlot; (repeat' split) <;> simp
@[simp] theorem State.fillSlot_ports (s : State) : (s.fillSlot).ports = s.ports := by
  unfold State.fillSlot; (repeat' split) <;> simp
@[simp] theorem State.fillSlot_stores (s : State) : (s.fillSlot).stores = s.stores := by
  unfold State.fillSlot; (repeat' split) <;> simp
@[simp] theorem State.fillSlot_timing (s : State) : (s.fillSlot).timing = s.timing := by
  unfold State.fillSlot; (repeat' split) <;> simp
@[simp] theorem State.fillSlot_schedule (s : State) : (s.fillSlot).schedule = s.schedule := by
  unfold State.fillSlot; (repeat' split) <;> simp
@[simp] theorem State.fillSlot_switch (s : State) : (s.fillSlot).switch = s.switch := by
  unfold State.fillSlot; (repeat' split) <;> simp
@[simp] theorem State.fillSlot_mc (s : State) : (s.fillSlot).mc = s.mc := by
  unfold State.fillSlot; (repeat' split) <;> simp
@[simp] theorem State.fillSlot_probes (s : State) : (s.fillSlot).probes = s.probes := by
  unfold State.fillSlot; (repeat' split) <;> simp
@[simp] theorem State.fillSlot_pending (s : State) : (s.fillSlot).pending = s.pending := by
  unfold State.fillSlot; (repeat' split) <;> simp

/-! ### `fillSlots` -/

@[simp] theorem State.fillSlots_straps (s : State) (n : Nat) : (State.fillSlots n s).straps = s.straps := by
  induction n generalizing s with
  | zero => rfl
  | succ n ih => simp [State.fillSlots, ih]
@[simp] theorem State.fillSlots_held (s : State) (n : Nat) : (State.fillSlots n s).held = s.held := by
  induction n generalizing s with
  | zero => rfl
  | succ n ih => simp [State.fillSlots, ih]
@[simp] theorem State.fillSlots_ports (s : State) (n : Nat) : (State.fillSlots n s).ports = s.ports := by
  induction n generalizing s with
  | zero => rfl
  | succ n ih => simp [State.fillSlots, ih]
@[simp] theorem State.fillSlots_stores (s : State) (n : Nat) : (State.fillSlots n s).stores = s.stores := by
  induction n generalizing s with
  | zero => rfl
  | succ n ih => simp [State.fillSlots, ih]
@[simp] theorem State.fillSlots_timing (s : State) (n : Nat) : (State.fillSlots n s).timing = s.timing := by
  induction n generalizing s with
  | zero => rfl
  | succ n ih => simp [State.fillSlots, ih]
@[simp] theorem State.fillSlots_schedule (s : State) (n : Nat) : (State.fillSlots n s).schedule = s.schedule := by
  induction n generalizing s with
  | zero => rfl
  | succ n ih => simp [State.fillSlots, ih]
@[simp] theorem State.fillSlots_switch (s : State) (n : Nat) : (State.fillSlots n s).switch = s.switch := by
  induction n generalizing s with
  | zero => rfl
  | succ n ih => simp [State.fillSlots, ih]
@[simp] theorem State.fillSlots_mc (s : State) (n : Nat) : (State.fillSlots n s).mc = s.mc := by
  induction n generalizing s with
  | zero => rfl
  | succ n ih => simp [State.fillSlots, ih]
@[simp] theorem State.fillSlots_probes (s : State) (n : Nat) : (State.fillSlots n s).probes = s.probes := by
  induction n generalizing s with
  | zero => rfl
  | succ n ih => simp [State.fillSlots, ih]
@[simp] theorem State.fillSlots_pending (s : State) (n : Nat) : (State.fillSlots n s).pending = s.pending := by
  induction n generalizing s with
  | zero => rfl
  | succ n ih => simp [State.fillSlots, ih]

/-! ### `fillFrame` -/

@[simp] theorem State.fillFrame_straps (s : State) : (s.fillFrame).straps = s.straps := by simp [State.fillFrame]
@[simp] theorem State.fillFrame_held (s : State) : (s.fillFrame).held = s.held := by simp [State.fillFrame]
@[simp] theorem State.fillFrame_ports (s : State) : (s.fillFrame).ports = s.ports := by simp [State.fillFrame]
@[simp] theorem State.fillFrame_stores (s : State) : (s.fillFrame).stores = s.stores := by simp [State.fillFrame]
@[simp] theorem State.fillFrame_timing (s : State) : (s.fillFrame).timing = s.timing := by simp [State.fillFrame]
@[simp] theorem State.fillFrame_schedule (s : State) : (s.fillFrame).schedule = s.schedule := by simp [State.fillFrame]
@[simp] theorem State.fillFrame_switch (s : State) : (s.fillFrame).switch = s.switch := by simp [State.fillFrame]
@[simp] theorem State.fillFrame_mc (s : State) : (s.fillFrame).mc = s.mc := by simp [State.fillFrame]
@[simp] theorem State.fillFrame_probes (s : State) : (s.fillFrame).probes = s.probes := by simp [State.fillFrame]
@[simp] theorem State.fillFrame_pending (s : State) : (s.fillFrame).pending = s.pending := by simp [State.fillFrame]

/-! ### `linkTaken` -/

@[simp] theorem State.linkTaken_straps (s : State) : (s.linkTaken).straps = s.straps := rfl
@[simp] theorem State.linkTaken_held (s : State) : (s.linkTaken).held = s.held := rfl
@[simp] theorem State.linkTaken_ports (s : State) : (s.linkTaken).ports = s.ports := rfl
@[simp] theorem State.linkTaken_stores (s : State) : (s.linkTaken).stores = s.stores := rfl
@[simp] theorem State.linkTaken_timing (s : State) : (s.linkTaken).timing = s.timing := rfl
@[simp] theorem State.linkTaken_schedule (s : State) : (s.linkTaken).schedule = s.schedule := rfl
@[simp] theorem State.linkTaken_switch (s : State) : (s.linkTaken).switch = s.switch := rfl
@[simp] theorem State.linkTaken_mc (s : State) : (s.linkTaken).mc = s.mc := rfl
@[simp] theorem State.linkTaken_probes (s : State) : (s.linkTaken).probes = s.probes := rfl
@[simp] theorem State.linkTaken_engine (s : State) : (s.linkTaken).engine = s.engine := rfl
@[simp] theorem State.linkTaken_link (s : State) : (s.linkTaken).link = s.link := rfl
@[simp] theorem State.linkTaken_notices (s : State) : (s.linkTaken).notices = s.notices := rfl
@[simp] theorem State.linkTaken_pending (s : State) : (s.linkTaken).pending = s.pending := rfl

/-! ### `probeBoundary` -/

@[simp] theorem State.probeBoundary_straps (s : State) (i : ProbeIndex) : (s.probeBoundary i).straps = s.straps := by
  simp only [State.probeBoundary]; (repeat' split) <;> simp
@[simp] theorem State.probeBoundary_held (s : State) (i : ProbeIndex) : (s.probeBoundary i).held = s.held := by
  simp only [State.probeBoundary]; (repeat' split) <;> simp
@[simp] theorem State.probeBoundary_ports (s : State) (i : ProbeIndex) : (s.probeBoundary i).ports = s.ports := by
  simp only [State.probeBoundary]; (repeat' split) <;> simp
@[simp] theorem State.probeBoundary_stores (s : State) (i : ProbeIndex) : (s.probeBoundary i).stores = s.stores := by
  simp only [State.probeBoundary]; (repeat' split) <;> simp
@[simp] theorem State.probeBoundary_timing (s : State) (i : ProbeIndex) : (s.probeBoundary i).timing = s.timing := by
  simp only [State.probeBoundary]; (repeat' split) <;> simp
@[simp] theorem State.probeBoundary_schedule (s : State) (i : ProbeIndex) : (s.probeBoundary i).schedule = s.schedule := by
  simp only [State.probeBoundary]; (repeat' split) <;> simp
@[simp] theorem State.probeBoundary_switch (s : State) (i : ProbeIndex) : (s.probeBoundary i).switch = s.switch := by
  simp only [State.probeBoundary]; (repeat' split) <;> simp
@[simp] theorem State.probeBoundary_mc (s : State) (i : ProbeIndex) : (s.probeBoundary i).mc = s.mc := by
  simp only [State.probeBoundary]; (repeat' split) <;> simp
@[simp] theorem State.probeBoundary_engine (s : State) (i : ProbeIndex) : (s.probeBoundary i).engine = s.engine := by
  simp only [State.probeBoundary]; (repeat' split) <;> simp
@[simp] theorem State.probeBoundary_link (s : State) (i : ProbeIndex) : (s.probeBoundary i).link = s.link := by
  simp only [State.probeBoundary]; (repeat' split) <;> simp
@[simp] theorem State.probeBoundary_opening (s : State) (i : ProbeIndex) : (s.probeBoundary i).opening = s.opening := by
  simp only [State.probeBoundary]; (repeat' split) <;> simp
@[simp] theorem State.probeBoundary_pending (s : State) (i : ProbeIndex) : (s.probeBoundary i).pending = s.pending := by
  simp only [State.probeBoundary]; (repeat' split) <;> simp

/-! ### `noticeBoundary` -/

@[simp] theorem State.noticeBoundary_straps (s : State) (b : Bool) : (s.noticeBoundary b).straps = s.straps := by
  unfold State.noticeBoundary; (repeat' split) <;> simp
@[simp] theorem State.noticeBoundary_held (s : State) (b : Bool) : (s.noticeBoundary b).held = s.held := by
  unfold State.noticeBoundary; (repeat' split) <;> simp
@[simp] theorem State.noticeBoundary_ports (s : State) (b : Bool) : (s.noticeBoundary b).ports = s.ports := by
  unfold State.noticeBoundary; (repeat' split) <;> simp
@[simp] theorem State.noticeBoundary_stores (s : State) (b : Bool) : (s.noticeBoundary b).stores = s.stores := by
  unfold State.noticeBoundary; (repeat' split) <;> simp
@[simp] theorem State.noticeBoundary_timing (s : State) (b : Bool) : (s.noticeBoundary b).timing = s.timing := by
  unfold State.noticeBoundary; (repeat' split) <;> simp
@[simp] theorem State.noticeBoundary_schedule (s : State) (b : Bool) : (s.noticeBoundary b).schedule = s.schedule := by
  unfold State.noticeBoundary; (repeat' split) <;> simp
@[simp] theorem State.noticeBoundary_switch (s : State) (b : Bool) : (s.noticeBoundary b).switch = s.switch := by
  unfold State.noticeBoundary; (repeat' split) <;> simp
@[simp] theorem State.noticeBoundary_mc (s : State) (b : Bool) : (s.noticeBoundary b).mc = s.mc := by
  unfold State.noticeBoundary; (repeat' split) <;> simp
@[simp] theorem State.noticeBoundary_probes (s : State) (b : Bool) : (s.noticeBoundary b).probes = s.probes := by
  unfold State.noticeBoundary; (repeat' split) <;> simp
@[simp] theorem State.noticeBoundary_engine (s : State) (b : Bool) : (s.noticeBoundary b).engine = s.engine := by
  unfold State.noticeBoundary; (repeat' split) <;> simp
@[simp] theorem State.noticeBoundary_link (s : State) (b : Bool) : (s.noticeBoundary b).link = s.link := by
  unfold State.noticeBoundary; (repeat' split) <;> simp
@[simp] theorem State.noticeBoundary_opening (s : State) (b : Bool) : (s.noticeBoundary b).opening = s.opening := by
  unfold State.noticeBoundary; (repeat' split) <;> simp
@[simp] theorem State.noticeBoundary_pending (s : State) (b : Bool) : (s.noticeBoundary b).pending = s.pending := by
  unfold State.noticeBoundary; (repeat' split) <;> simp

/-! ### `beginFrames` -/

@[simp] theorem State.beginFrames_straps (s : State) : (s.beginFrames).straps = s.straps := rfl
@[simp] theorem State.beginFrames_held (s : State) : (s.beginFrames).held = s.held := rfl
@[simp] theorem State.beginFrames_stores (s : State) : (s.beginFrames).stores = s.stores := rfl
@[simp] theorem State.beginFrames_timing (s : State) : (s.beginFrames).timing = s.timing := rfl
@[simp] theorem State.beginFrames_schedule (s : State) : (s.beginFrames).schedule = s.schedule := rfl
@[simp] theorem State.beginFrames_switch (s : State) : (s.beginFrames).switch = s.switch := rfl
@[simp] theorem State.beginFrames_mc (s : State) : (s.beginFrames).mc = s.mc := rfl
@[simp] theorem State.beginFrames_probes (s : State) : (s.beginFrames).probes = s.probes := rfl
@[simp] theorem State.beginFrames_engine (s : State) : (s.beginFrames).engine = s.engine := rfl
@[simp] theorem State.beginFrames_link (s : State) : (s.beginFrames).link = s.link := rfl
@[simp] theorem State.beginFrames_notices (s : State) : (s.beginFrames).notices = s.notices := rfl
@[simp] theorem State.beginFrames_opening (s : State) : (s.beginFrames).opening = s.opening := rfl
@[simp] theorem State.beginFrames_pending (s : State) : (s.beginFrames).pending = s.pending := rfl

/-! ### `abortPage` -/

@[simp] theorem State.abortPage_straps (s : State) : (s.abortPage).straps = s.straps := by
  unfold State.abortPage; (repeat' split) <;> simp
@[simp] theorem State.abortPage_held (s : State) : (s.abortPage).held = s.held := by
  unfold State.abortPage; (repeat' split) <;> simp
@[simp] theorem State.abortPage_ports (s : State) : (s.abortPage).ports = s.ports := by
  unfold State.abortPage; (repeat' split) <;> simp
@[simp] theorem State.abortPage_stores (s : State) : (s.abortPage).stores = s.stores := by
  unfold State.abortPage; (repeat' split) <;> simp
@[simp] theorem State.abortPage_timing (s : State) : (s.abortPage).timing = s.timing := by
  unfold State.abortPage; (repeat' split) <;> simp
@[simp] theorem State.abortPage_schedule (s : State) : (s.abortPage).schedule = s.schedule := by
  unfold State.abortPage; (repeat' split) <;> simp
@[simp] theorem State.abortPage_switch (s : State) : (s.abortPage).switch = s.switch := by
  unfold State.abortPage; (repeat' split) <;> simp
@[simp] theorem State.abortPage_mc (s : State) : (s.abortPage).mc = s.mc := by
  unfold State.abortPage; (repeat' split) <;> simp
@[simp] theorem State.abortPage_probes (s : State) : (s.abortPage).probes = s.probes := by
  unfold State.abortPage; (repeat' split) <;> simp
@[simp] theorem State.abortPage_link (s : State) : (s.abortPage).link = s.link := by
  unfold State.abortPage; (repeat' split) <;> simp
@[simp] theorem State.abortPage_notices (s : State) : (s.abortPage).notices = s.notices := by
  unfold State.abortPage; (repeat' split) <;> simp
@[simp] theorem State.abortPage_opening (s : State) : (s.abortPage).opening = s.opening := by
  unfold State.abortPage; (repeat' split) <;> simp
@[simp] theorem State.abortPage_pending (s : State) : (s.abortPage).pending = s.pending := by
  unfold State.abortPage; (repeat' split) <;> simp

/-! ### `rebuild` -/

@[simp] theorem State.rebuild_straps (s : State) : (s.rebuild).straps = s.straps := rfl
@[simp] theorem State.rebuild_held (s : State) : (s.rebuild).held = s.held := rfl
@[simp] theorem State.rebuild_ports (s : State) : (s.rebuild).ports = s.ports := rfl
@[simp] theorem State.rebuild_stores (s : State) : (s.rebuild).stores = s.stores := rfl
@[simp] theorem State.rebuild_timing (s : State) : (s.rebuild).timing = s.timing := rfl
@[simp] theorem State.rebuild_engine (s : State) : (s.rebuild).engine = s.engine := rfl
@[simp] theorem State.rebuild_link (s : State) : (s.rebuild).link = s.link := rfl
@[simp] theorem State.rebuild_notices (s : State) : (s.rebuild).notices = s.notices := rfl
@[simp] theorem State.rebuild_opening (s : State) : (s.rebuild).opening = s.opening := rfl
@[simp] theorem State.rebuild_pending (s : State) : (s.rebuild).pending = s.pending := rfl

/-! ### `acceptMove` -/

@[simp] theorem State.acceptMove_straps (s : State) (p : Location) : (s.acceptMove p).straps = s.straps := rfl
@[simp] theorem State.acceptMove_held (s : State) (p : Location) : (s.acceptMove p).held = s.held := rfl
@[simp] theorem State.acceptMove_ports (s : State) (p : Location) : (s.acceptMove p).ports = s.ports := rfl
@[simp] theorem State.acceptMove_stores (s : State) (p : Location) : (s.acceptMove p).stores = s.stores := rfl
@[simp] theorem State.acceptMove_timing (s : State) (p : Location) : (s.acceptMove p).timing = s.timing := rfl
@[simp] theorem State.acceptMove_schedule (s : State) (p : Location) : (s.acceptMove p).schedule = s.schedule := rfl
@[simp] theorem State.acceptMove_mc (s : State) (p : Location) : (s.acceptMove p).mc = s.mc := rfl
@[simp] theorem State.acceptMove_probes (s : State) (p : Location) : (s.acceptMove p).probes = s.probes := rfl
@[simp] theorem State.acceptMove_engine (s : State) (p : Location) : (s.acceptMove p).engine = s.engine := rfl
@[simp] theorem State.acceptMove_notices (s : State) (p : Location) : (s.acceptMove p).notices = s.notices := rfl
@[simp] theorem State.acceptMove_opening (s : State) (p : Location) : (s.acceptMove p).opening = s.opening := rfl
@[simp] theorem State.acceptMove_pending (s : State) (p : Location) : (s.acceptMove p).pending = s.pending := rfl

/-! ### `clearCounters` -/

@[simp] theorem State.clearCounters_straps (s : State) : (s.clearCounters).straps = s.straps := rfl
@[simp] theorem State.clearCounters_held (s : State) : (s.clearCounters).held = s.held := rfl
@[simp] theorem State.clearCounters_ports (s : State) : (s.clearCounters).ports = s.ports := rfl
@[simp] theorem State.clearCounters_stores (s : State) : (s.clearCounters).stores = s.stores := rfl
@[simp] theorem State.clearCounters_timing (s : State) : (s.clearCounters).timing = s.timing := rfl
@[simp] theorem State.clearCounters_schedule (s : State) : (s.clearCounters).schedule = s.schedule := rfl
@[simp] theorem State.clearCounters_switch (s : State) : (s.clearCounters).switch = s.switch := rfl
@[simp] theorem State.clearCounters_mc (s : State) : (s.clearCounters).mc = s.mc := rfl
@[simp] theorem State.clearCounters_probes (s : State) : (s.clearCounters).probes = s.probes := rfl
@[simp] theorem State.clearCounters_notices (s : State) : (s.clearCounters).notices = s.notices := rfl
@[simp] theorem State.clearCounters_opening (s : State) : (s.clearCounters).opening = s.opening := rfl
@[simp] theorem State.clearCounters_pending (s : State) : (s.clearCounters).pending = s.pending := rfl

/-! ### Firing of the schedule table -/

@[simp] theorem State.handOver_straps (s : State) (n : Word) (a : Action) : (s.handOver n a).1.straps = s.straps := by
  unfold State.handOver; (repeat' split) <;> simp
@[simp] theorem State.handOver_held (s : State) (n : Word) (a : Action) : (s.handOver n a).1.held = s.held := by
  unfold State.handOver; (repeat' split) <;> simp
@[simp] theorem State.handOver_ports (s : State) (n : Word) (a : Action) : (s.handOver n a).1.ports = s.ports := by
  unfold State.handOver; (repeat' split) <;> simp
@[simp] theorem State.handOver_stores (s : State) (n : Word) (a : Action) : (s.handOver n a).1.stores = s.stores := by
  unfold State.handOver; (repeat' split) <;> simp
@[simp] theorem State.handOver_timing (s : State) (n : Word) (a : Action) : (s.handOver n a).1.timing = s.timing := by
  unfold State.handOver; (repeat' split) <;> simp
@[simp] theorem State.handOver_schedule (s : State) (n : Word) (a : Action) : (s.handOver n a).1.schedule = s.schedule := by
  unfold State.handOver; (repeat' split) <;> simp
@[simp] theorem State.handOver_probes (s : State) (n : Word) (a : Action) : (s.handOver n a).1.probes = s.probes := by
  unfold State.handOver; (repeat' split) <;> simp
@[simp] theorem State.handOver_engine (s : State) (n : Word) (a : Action) : (s.handOver n a).1.engine = s.engine := by
  unfold State.handOver; (repeat' split) <;> simp
@[simp] theorem State.handOver_link (s : State) (n : Word) (a : Action) : (s.handOver n a).1.link = s.link := by
  unfold State.handOver; (repeat' split) <;> simp
@[simp] theorem State.handOver_notices (s : State) (n : Word) (a : Action) : (s.handOver n a).1.notices = s.notices := by
  unfold State.handOver; (repeat' split) <;> simp
@[simp] theorem State.handOver_pending (s : State) (n : Word) (a : Action) : (s.handOver n a).1.pending = s.pending := by
  unfold State.handOver; (repeat' split) <;> simp
@[simp] theorem fireAll_straps (n : Word) (es : List ScheduleEntry) (s : State) : (fireAll n es s).1.straps = s.straps := by
  induction es generalizing s with
  | nil => rfl
  | cons e es ih => simp [fireAll, ih]
@[simp] theorem fireAll_held (n : Word) (es : List ScheduleEntry) (s : State) : (fireAll n es s).1.held = s.held := by
  induction es generalizing s with
  | nil => rfl
  | cons e es ih => simp [fireAll, ih]
@[simp] theorem fireAll_ports (n : Word) (es : List ScheduleEntry) (s : State) : (fireAll n es s).1.ports = s.ports := by
  induction es generalizing s with
  | nil => rfl
  | cons e es ih => simp [fireAll, ih]
@[simp] theorem fireAll_stores (n : Word) (es : List ScheduleEntry) (s : State) : (fireAll n es s).1.stores = s.stores := by
  induction es generalizing s with
  | nil => rfl
  | cons e es ih => simp [fireAll, ih]
@[simp] theorem fireAll_timing (n : Word) (es : List ScheduleEntry) (s : State) : (fireAll n es s).1.timing = s.timing := by
  induction es generalizing s with
  | nil => rfl
  | cons e es ih => simp [fireAll, ih]
@[simp] theorem fireAll_schedule (n : Word) (es : List ScheduleEntry) (s : State) : (fireAll n es s).1.schedule = s.schedule := by
  induction es generalizing s with
  | nil => rfl
  | cons e es ih => simp [fireAll, ih]
@[simp] theorem fireAll_probes (n : Word) (es : List ScheduleEntry) (s : State) : (fireAll n es s).1.probes = s.probes := by
  induction es generalizing s with
  | nil => rfl
  | cons e es ih => simp [fireAll, ih]
@[simp] theorem fireAll_engine (n : Word) (es : List ScheduleEntry) (s : State) : (fireAll n es s).1.engine = s.engine := by
  induction es generalizing s with
  | nil => rfl
  | cons e es ih => simp [fireAll, ih]
@[simp] theorem fireAll_link (n : Word) (es : List ScheduleEntry) (s : State) : (fireAll n es s).1.link = s.link := by
  induction es generalizing s with
  | nil => rfl
  | cons e es ih => simp [fireAll, ih]
@[simp] theorem fireAll_notices (n : Word) (es : List ScheduleEntry) (s : State) : (fireAll n es s).1.notices = s.notices := by
  induction es generalizing s with
  | nil => rfl
  | cons e es ih => simp [fireAll, ih]
@[simp] theorem fireAll_pending (n : Word) (es : List ScheduleEntry) (s : State) : (fireAll n es s).1.pending = s.pending := by
  induction es generalizing s with
  | nil => rfl
  | cons e es ih => simp [fireAll, ih]
@[simp] theorem State.fire_straps (s : State) (n : Word) : (s.fire n).1.straps = s.straps := by
  simp [State.fire]
@[simp] theorem State.fire_held (s : State) (n : Word) : (s.fire n).1.held = s.held := by
  simp [State.fire]
@[simp] theorem State.fire_ports (s : State) (n : Word) : (s.fire n).1.ports = s.ports := by
  simp [State.fire]
@[simp] theorem State.fire_stores (s : State) (n : Word) : (s.fire n).1.stores = s.stores := by
  simp [State.fire]
@[simp] theorem State.fire_timing (s : State) (n : Word) : (s.fire n).1.timing = s.timing := by
  simp [State.fire]
@[simp] theorem State.fire_probes (s : State) (n : Word) : (s.fire n).1.probes = s.probes := by
  simp [State.fire]
@[simp] theorem State.fire_engine (s : State) (n : Word) : (s.fire n).1.engine = s.engine := by
  simp [State.fire]
@[simp] theorem State.fire_link (s : State) (n : Word) : (s.fire n).1.link = s.link := by
  simp [State.fire]
@[simp] theorem State.fire_notices (s : State) (n : Word) : (s.fire n).1.notices = s.notices := by
  simp [State.fire]
@[simp] theorem State.fire_pending (s : State) (n : Word) : (s.fire n).1.pending = s.pending := by
  simp [State.fire]
@[simp] theorem State.fire_schedule (s : State) (n : Word) : (s.fire n).1.schedule = s.schedule.filter (fun e => e.due ≠ n) := by
  simp [State.fire]
@[simp] theorem State.timingShare_straps (s : State) : s.timingShare.straps = s.straps := by
  simp [State.timingShare]
@[simp] theorem State.timingShare_held (s : State) : s.timingShare.held = s.held := by
  simp [State.timingShare]
@[simp] theorem State.timingShare_ports (s : State) : s.timingShare.ports = s.ports := by
  simp [State.timingShare]
@[simp] theorem State.timingShare_stores (s : State) : s.timingShare.stores = s.stores := by
  simp [State.timingShare]
@[simp] theorem State.timingShare_probes (s : State) : s.timingShare.probes = s.probes := by
  simp [State.timingShare]
@[simp] theorem State.timingShare_engine (s : State) : s.timingShare.engine = s.engine := by
  simp [State.timingShare]
@[simp] theorem State.timingShare_link (s : State) : s.timingShare.link = s.link := by
  simp [State.timingShare]
@[simp] theorem State.timingShare_pending (s : State) : s.timingShare.pending = s.pending := by
  simp [State.timingShare]
@[simp] theorem State.timingShare_schedule (s : State) : s.timingShare.schedule = s.schedule.filter (fun e => e.due ≠ s.comingFrame) := by
  simp [State.timingShare]
@[simp] theorem State.timingShare_timing (s : State) : s.timingShare.timing = s.timing.boundary s.aligned := by
  simp [State.timingShare]
@[simp] theorem State.fireOnce_straps (s : State) : s.fireOnce.1.straps = s.straps := by
  unfold State.fireOnce; split <;> simp
@[simp] theorem State.fireOnce_held (s : State) : s.fireOnce.1.held = s.held := by
  unfold State.fireOnce; split <;> simp
@[simp] theorem State.fireOnce_ports (s : State) : s.fireOnce.1.ports = s.ports := by
  unfold State.fireOnce; split <;> simp
@[simp] theorem State.fireOnce_stores (s : State) : s.fireOnce.1.stores = s.stores := by
  unfold State.fireOnce; split <;> simp
@[simp] theorem State.fireOnce_timing (s : State) : s.fireOnce.1.timing = s.timing := by
  unfold State.fireOnce; split <;> simp
@[simp] theorem State.fireOnce_probes (s : State) : s.fireOnce.1.probes = s.probes := by
  unfold State.fireOnce; split <;> simp
@[simp] theorem State.fireOnce_engine (s : State) : s.fireOnce.1.engine = s.engine := by
  unfold State.fireOnce; split <;> simp
@[simp] theorem State.fireOnce_link (s : State) : s.fireOnce.1.link = s.link := by
  unfold State.fireOnce; split <;> simp
@[simp] theorem State.fireOnce_notices (s : State) : s.fireOnce.1.notices = s.notices := by
  unfold State.fireOnce; split <;> simp
@[simp] theorem State.fireOnce_pending (s : State) : s.fireOnce.1.pending = s.pending := by
  unfold State.fireOnce; split <;> simp
@[simp] theorem State.fireOnce_schedule (s : State) : s.fireOnce.1.schedule = if s.opening.timingDone then s.schedule else s.schedule.filter (fun e => e.due ≠ s.comingFrame) := by
  unfold State.fireOnce; split <;> simp

/-! ### The link's act -/

/-- Part 3 may be anything that keeps the field. -/
@[simp] theorem State.linkAct_straps (s : State) (inbound : State → State) (h : ∀ t, (inbound t).straps = t.straps) : (s.linkAct inbound).straps = s.straps := by
  simp [State.linkAct, h]
/-- Part 3 may be anything that keeps the field. -/
@[simp] theorem State.linkAct_held (s : State) (inbound : State → State) (h : ∀ t, (inbound t).held = t.held) : (s.linkAct inbound).held = s.held := by
  simp [State.linkAct, h]
/-- Part 3 may be anything that keeps the field. -/
@[simp] theorem State.linkAct_ports (s : State) (inbound : State → State) (h : ∀ t, (inbound t).ports = t.ports) : (s.linkAct inbound).ports = s.ports := by
  simp [State.linkAct, h]
/-- Part 3 may be anything that keeps the field. -/
@[simp] theorem State.linkAct_stores (s : State) (inbound : State → State) (h : ∀ t, (inbound t).stores = t.stores) : (s.linkAct inbound).stores = s.stores := by
  simp [State.linkAct, h]
/-- Part 3 may be anything that keeps the field. -/
@[simp] theorem State.linkAct_timing (s : State) (inbound : State → State) (h : ∀ t, (inbound t).timing = t.timing) : (s.linkAct inbound).timing = s.timing := by
  simp [State.linkAct, h]
/-- Part 3 may be anything that keeps the field. -/
@[simp] theorem State.linkAct_schedule (s : State) (inbound : State → State) (h : ∀ t, (inbound t).schedule = t.schedule) : (s.linkAct inbound).schedule = s.schedule := by
  simp [State.linkAct, h]
/-- Part 3 may be anything that keeps the field. -/
@[simp] theorem State.linkAct_mc (s : State) (inbound : State → State) (h : ∀ t, (inbound t).mc = t.mc) : (s.linkAct inbound).mc = s.mc := by
  simp [State.linkAct, h]
/-- Part 3 may be anything that keeps the field. -/
@[simp] theorem State.linkAct_probes (s : State) (inbound : State → State) (h : ∀ t, (inbound t).probes = t.probes) : (s.linkAct inbound).probes = s.probes := by
  simp [State.linkAct, h]
/-- Part 3 may be anything that keeps the field. -/
@[simp] theorem State.linkAct_pending (s : State) (inbound : State → State) (h : ∀ t, (inbound t).pending = t.pending) : (s.linkAct inbound).pending = s.pending := by
  simp [State.linkAct, h]
@[simp] theorem State.linkShare_straps (s : State) (inbound : State → State) (h : ∀ t, (inbound t).straps = t.straps) : (s.linkShare inbound).straps = s.straps := by
  simp [State.linkShare, h]
@[simp] theorem State.linkShare_held (s : State) (inbound : State → State) (h : ∀ t, (inbound t).held = t.held) : (s.linkShare inbound).held = s.held := by
  simp [State.linkShare, h]
@[simp] theorem State.linkShare_ports (s : State) (inbound : State → State) (h : ∀ t, (inbound t).ports = t.ports) : (s.linkShare inbound).ports = s.ports := by
  simp [State.linkShare, h]
@[simp] theorem State.linkShare_timing (s : State) (inbound : State → State) (h : ∀ t, (inbound t).timing = t.timing) : (s.linkShare inbound).timing = s.timing := by
  simp [State.linkShare, h]
@[simp] theorem State.linkShare_schedule (s : State) (inbound : State → State) (h : ∀ t, (inbound t).schedule = t.schedule) : (s.linkShare inbound).schedule = s.schedule := by
  simp [State.linkShare, h]
@[simp] theorem State.linkShare_mc (s : State) (inbound : State → State) (h : ∀ t, (inbound t).mc = t.mc) : (s.linkShare inbound).mc = s.mc := by
  simp [State.linkShare, h]
@[simp] theorem State.linkShare_probes (s : State) (inbound : State → State) (h : ∀ t, (inbound t).probes = t.probes) : (s.linkShare inbound).probes = s.probes := by
  simp [State.linkShare, h]
@[simp] theorem State.linkShare_pending (s : State) (inbound : State → State) (h : ∀ t, (inbound t).pending = t.pending) : (s.linkShare inbound).pending = s.pending := by
  simp [State.linkShare, h]
@[simp] theorem State.takeStores_stores (s : State) : s.takeStores.stores = Vector.ofFn s.storeAfter := by
  simp [State.takeStores]
@[simp] theorem State.linkShare_stores (s : State) (inbound : State → State) (h : ∀ t, (inbound t).stores = t.stores) : (s.linkShare inbound).stores = Vector.ofFn s.storeAfter := by
  simp [State.linkShare, h]

/-! ### What the frame number fixes -/

@[simp] theorem State.numberedEffects_straps (s : State) (found : Taker → State) : (s.numberedEffects found).straps = s.straps := by
  simp [State.numberedEffects, State.mapEffects]
@[simp] theorem State.numberedEffects_held (s : State) (found : Taker → State) : (s.numberedEffects found).held = s.held := by
  simp [State.numberedEffects, State.mapEffects]
@[simp] theorem State.numberedEffects_ports (s : State) (found : Taker → State) : (s.numberedEffects found).ports = s.ports := by
  simp [State.numberedEffects, State.mapEffects]
@[simp] theorem State.numberedEffects_probes (s : State) (found : Taker → State) : (s.numberedEffects found).probes = s.probes := by
  simp [State.numberedEffects, State.mapEffects]
@[simp] theorem State.numberedEffects_engine (s : State) (found : Taker → State) : (s.numberedEffects found).engine = s.engine := by
  simp [State.numberedEffects, State.mapEffects]
@[simp] theorem State.numberedEffects_link (s : State) (found : Taker → State) : (s.numberedEffects found).link = s.link := by
  simp [State.numberedEffects, State.mapEffects]
@[simp] theorem State.numberedEffects_notices (s : State) (found : Taker → State) : (s.numberedEffects found).notices = s.notices := by
  simp [State.numberedEffects, State.mapEffects]
@[simp] theorem State.numberedEffects_pending (s : State) (found : Taker → State) : (s.numberedEffects found).pending = s.pending := by
  simp [State.numberedEffects, State.mapEffects]
@[simp] theorem State.numberedEffects_timing (s : State) (found : Taker → State) : (s.numberedEffects found).timing = (found .timing).timingAfter := by
  simp [State.numberedEffects, State.mapEffects]
@[simp] theorem State.numberedEffects_stores (s : State) (found : Taker → State) : (s.numberedEffects found).stores = Vector.ofFn (fun line => (found (.store line)).storeAfter line) := by
  simp [State.numberedEffects, State.mapEffects]
@[simp] theorem State.mcStep_timingDone (s : State) (n : Word) : (s.mcStep n).opening.timingDone = s.opening.timingDone := by
  unfold State.mcStep; (repeat' split) <;> simp [State.lastStep, State.swapAt, State.copyLine, State.clearLine, State.writeStandbyLine, State.mcState, State.withOpening, State.withSwitch, State.withMc]
@[simp] theorem State.switchBoundary_timingDone (s : State) : s.switchBoundary.opening.timingDone = s.opening.timingDone := by
  simp [State.switchBoundary]
@[simp] theorem State.switchBoundary_comingFrame (s : State) : s.switchBoundary.comingFrame = s.comingFrame := by
  simp [State.comingFrame]
@[simp] theorem State.numberedEffects_schedule (s : State) (found : Taker → State) : (s.numberedEffects found).schedule = if s.opening.timingDone then s.schedule else s.schedule.filter (fun e => e.due ≠ s.comingFrame) := by
  simp [State.numberedEffects, State.mapEffects]

/-! ### `takeShare` and the whole boundary -/

@[simp] theorem State.takeShare_straps (before s : State) (found : Taker → State) (t : Taker) : (State.takeShare before found s t).straps = s.straps := by
  cases t <;> simp only [State.takeShare] <;> (try split) <;> simp
@[simp] theorem State.takeShare_held (before s : State) (found : Taker → State) (t : Taker) : (State.takeShare before found s t).held = s.held := by
  cases t <;> simp only [State.takeShare] <;> (try split) <;> simp
@[simp] theorem State.takeShare_ports (before s : State) (found : Taker → State) (t : Taker) : (State.takeShare before found s t).ports = s.ports := by
  cases t <;> simp only [State.takeShare] <;> (try split) <;> simp
@[simp] theorem State.takeShare_stores (before s : State) (found : Taker → State) (t : Taker) : (State.takeShare before found s t).stores = s.stores := by
  cases t <;> simp only [State.takeShare] <;> (try split) <;> simp
@[simp] theorem State.takeShare_timing (before s : State) (found : Taker → State) (t : Taker) : (State.takeShare before found s t).timing = s.timing := by
  cases t <;> simp only [State.takeShare] <;> (try split) <;> simp
@[simp] theorem State.takeShare_schedule (before s : State) (found : Taker → State) (t : Taker) : (State.takeShare before found s t).schedule = s.schedule := by
  cases t <;> simp only [State.takeShare] <;> (try split) <;> simp
@[simp] theorem State.takeShare_pending (before s : State) (found : Taker → State) (t : Taker) : (State.takeShare before found s t).pending = s.pending := by
  cases t <;> simp only [State.takeShare] <;> (try split) <;> simp
/-! ### Framer events that fall together with the boundary -/

@[simp] theorem State.meet_straps (before s : State) (shares : List Taker) (c : Coincidence) : (State.meet before shares s c).straps = s.straps := by
  simp only [State.meet]; (repeat' split) <;> simp [State.setStore]
@[simp] theorem State.meet_held (before s : State) (shares : List Taker) (c : Coincidence) : (State.meet before shares s c).held = s.held := by
  simp only [State.meet]; (repeat' split) <;> simp [State.setStore]
@[simp] theorem State.meet_schedule (before s : State) (shares : List Taker) (c : Coincidence) : (State.meet before shares s c).schedule = s.schedule := by
  simp only [State.meet]; (repeat' split) <;> simp [State.setStore]
@[simp] theorem State.meet_switch (before s : State) (shares : List Taker) (c : Coincidence) : (State.meet before shares s c).switch = s.switch := by
  simp only [State.meet]; (repeat' split) <;> simp [State.setStore]
@[simp] theorem State.meet_mc (before s : State) (shares : List Taker) (c : Coincidence) : (State.meet before shares s c).mc = s.mc := by
  simp only [State.meet]; (repeat' split) <;> simp [State.setStore]
@[simp] theorem State.meet_probes (before s : State) (shares : List Taker) (c : Coincidence) : (State.meet before shares s c).probes = s.probes := by
  simp only [State.meet]; (repeat' split) <;> simp [State.setStore]
@[simp] theorem State.meet_engine (before s : State) (shares : List Taker) (c : Coincidence) : (State.meet before shares s c).engine = s.engine := by
  simp only [State.meet]; (repeat' split) <;> simp [State.setStore]
@[simp] theorem State.meet_opening (before s : State) (shares : List Taker) (c : Coincidence) : (State.meet before shares s c).opening = s.opening := by
  simp only [State.meet]; (repeat' split) <;> simp [State.setStore]
@[simp] theorem State.meet_pending (before s : State) (shares : List Taker) (c : Coincidence) : (State.meet before shares s c).pending = s.pending := by
  simp only [State.meet]; (repeat' split) <;> simp [State.setStore]

/-- What every share and every framer event keeps, all of them in turn keep. -/
theorem takeInTurn_keeps {β : Type} (f : State → β) (meet : State → Coincidence → State) (share : State → Taker → State)
    (hm : ∀ s c, f (meet s c) = f s) (hs : ∀ s t, f (share s t) = f s) :
    ∀ (shares : List Taker) (events : List Coincidence) (s : State), f (takeInTurn meet share events shares s) = f s
  | [], _, _ => rfl
  | t :: rest, events, s => by
    rw [takeInTurn, takeInTurn_keeps f meet share hm hs rest, hs]
    exact foldl_keeps f _ hm _ s

/-- With no framer event the shares are taken one after the other. -/
theorem takeInTurn_plain (meet : State → Coincidence → State) (share : State → Taker → State) :
    ∀ (shares : List Taker) (s : State), takeInTurn meet share [] shares s = shares.foldl share s
  | [], _ => rfl
  | t :: rest, s => by simp [takeInTurn, takeInTurn_plain meet share rest]

/-- With no framer event every taker finds the state before the boundary. -/
theorem State.foundBy_plain (s : State) (shares : List Taker) : s.foundBy shares [] = fun _ => s := rfl

/-- With no bit period falling together with it, a boundary is its shares in turn and the output frames. -/
theorem State.numberedBoundary_plain (s : State) (takers : List Taker) :
    s.numberedBoundary ⟨takers, []⟩ =
      State.withOpening (State.beginFrames ((s.mapEffects.shareOrder takers).foldl
        (State.takeShare s fun _ => s) (s.numberedEffects fun _ => s))) closedOpening := by
  simp only [State.numberedBoundary, State.coincidences, keepFirst, List.map_nil, List.filter_nil,
    List.foldl_nil, State.foundBy_plain, takeInTurn_plain]

@[simp] theorem State.numberedBoundary_straps (s : State) (o : BoundaryOrder) : (s.numberedBoundary o).straps = s.straps := by
  simp only [State.numberedBoundary]
  refine (foldl_keeps State.straps _ (fun a b => by simp) _ _).trans ?_
  simp only [State.withOpening_straps, State.beginFrames_straps]
  exact (takeInTurn_keeps State.straps _ _ (fun a b => by simp) (fun a b => by simp) _ _ _).trans (by simp)
@[simp] theorem State.numberedBoundary_held (s : State) (o : BoundaryOrder) : (s.numberedBoundary o).held = s.held := by
  simp only [State.numberedBoundary]
  refine (foldl_keeps State.held _ (fun a b => by simp) _ _).trans ?_
  simp only [State.withOpening_held, State.beginFrames_held]
  exact (takeInTurn_keeps State.held _ _ (fun a b => by simp) (fun a b => by simp) _ _ _).trans (by simp)
@[simp] theorem State.numberedBoundary_pending (s : State) (o : BoundaryOrder) : (s.numberedBoundary o).pending = s.pending := by
  simp only [State.numberedBoundary]
  refine (foldl_keeps State.pending _ (fun a b => by simp) _ _).trans ?_
  simp only [State.withOpening_pending, State.beginFrames_pending]
  exact (takeInTurn_keeps State.pending _ _ (fun a b => by simp) (fun a b => by simp) _ _ _).trans (by simp)
@[simp] theorem State.numberedBoundary_schedule (s : State) (o : BoundaryOrder) : (s.numberedBoundary o).schedule = if s.opening.timingDone then s.schedule else s.schedule.filter (fun e => e.due ≠ s.comingFrame) := by
  simp only [State.numberedBoundary]
  refine (foldl_keeps State.schedule _ (fun a b => by simp) _ _).trans ?_
  simp only [State.withOpening_schedule, State.beginFrames_schedule]
  exact (takeInTurn_keeps State.schedule _ _ (fun a b => by simp) (fun a b => by simp) _ _ _).trans (by simp)
/-- The Timing Unit after a boundary with no bit period falling together with it (R99). -/
theorem State.numberedBoundary_timing (s : State) (takers : List Taker) : (s.numberedBoundary ⟨takers, []⟩).timing = s.timingAfter := by
  simp only [State.numberedBoundary_plain, State.withOpening_timing, State.beginFrames_timing]
  exact (foldl_keeps State.timing _ (fun a b => by simp) _ _).trans (by simp)
/-- The stores after a boundary with no bit period falling together with it (R86). -/
theorem State.numberedBoundary_stores (s : State) (takers : List Taker) : (s.numberedBoundary ⟨takers, []⟩).stores = Vector.ofFn s.storeAfter := by
  simp only [State.numberedBoundary_plain, State.withOpening_stores, State.beginFrames_stores]
  exact (foldl_keeps State.stores _ (fun a b => by simp) _ _).trans (by simp)

end Sys2Proof.Machine
end

