-- ==== Sys2Proof/Laws/Operands.lean ====
section
/-! SUPPORT. Fields read back from their octets. -/

namespace Sys2Proof.Machine

/-- A line number read from its octet. -/
theorem lineOf_octet (l : Line) : lineOf (BitVec.ofNat 8 l.val) = some l := by
  revert l; decide

/-- A slot number read from its octet. -/
theorem slotOf_octet (t : Slot) : slotOf (BitVec.ofNat 8 t.val) = some t := by
  revert t; decide

/-- A pattern index read from its octet. -/
theorem patternOf_octet (i : PatternIndex) : patternOf (BitVec.ofNat 8 i.val) = some i := by
  revert i; decide

/-- A probe number read from its octet. -/
theorem probeOf_octet (i : ProbeIndex) : probeOf (BitVec.ofNat 8 i.val) = some i := by
  revert i; decide

/-- A flag read from its octet. -/
theorem flagOf_octet (b : Bool) : flagOf (if b then 1 else 0) = some b := by
  revert b; decide

/-- A word length read from its octet. -/
theorem widthOf_octet (w : Width) : widthOf (BitVec.ofNat 8 w.bits) = some w := by
  cases w <;> rfl

/-- A loss action read from its octet. -/
theorem lossOf_octet (a : LossAction) : lossOf a.code = some a := by
  cases a <;> rfl

/-- A justify read from its octet. -/
theorem justifyOf_octet (j : Justify) : justifyOf j.code = some j := by
  cases j <;> rfl

/-- A probe mode read from its octet. -/
theorem probeModeOf_octet (m : ProbeMode) : probeModeOf m.code = some m := by
  cases m <;> rfl

/-- A probe side read from its octet. -/
theorem sideOf_octet (d : Side) : sideOf d.code = some d := by
  cases d <;> rfl

/-- A 16-bit field read from its octets. -/
theorem halfOf_octets (v : Half) :
    halfOf (v.extractLsb' 8 8) (v.extractLsb' 0 8) = v := by
  apply BitVec.eq_of_getLsbD_eq
  intro i hi
  simp only [halfOf, BitVec.getLsbD_append, BitVec.getLsbD_extractLsb', Nat.zero_add]
  by_cases h : i < 8
  · simp [h]
  · have h2 : i - 8 < 8 := by omega
    have h3 : 8 + (i - 8) = i := by omega
    simp [h, h2, h3]

/-- A 32-bit field read from its octets. -/
theorem wordOf_octets (v : Word) :
    wordOf (v.extractLsb' 24 8) (v.extractLsb' 16 8) (v.extractLsb' 8 8) (v.extractLsb' 0 8)
      = v := by
  apply BitVec.eq_of_getLsbD_eq
  intro i hi
  simp only [wordOf, BitVec.getLsbD_append, BitVec.getLsbD_extractLsb', Nat.zero_add]
  by_cases h : i < 8
  · simp [h]
  · by_cases h1 : i - 8 < 8
    · have h3 : 8 + (i - 8) = i := by omega
      simp [h, h1, h3]
    · by_cases h2 : i - 8 - 8 < 8
      · have h3 : 16 + (i - 8 - 8) = i := by omega
        simp [h, h1, h2, h3]
      · have h3 : 24 + (i - 8 - 8 - 8) = i := by omega
        have h4 : i - 8 - 8 - 8 < 8 := by omega
        simp [h, h1, h2, h3, h4]

end Sys2Proof.Machine
end

