-- ==== Sys2Proof/Laws/Requests.lean ====
section
/-! SUPPORT. What taking and answering a request do, for proofs to cite instead of unfolding `serve` and `answer`. -/

namespace Sys2Proof.Machine

/-- The state once the head request has left the queue. -/
abbrev State.taken (s : State) (rest : List Request) : State :=
  s.withEngine { s.engine with requests := rest }

/-- Where the executor takes `r`, it is free. -/
theorem State.takes_free {s : State} {r : Request} {rest : List Request} (h : s.takes r rest) :
    s.executorFree = true := by
  obtain ⟨h1, h2, h3, h4, _⟩ := h
  simp [State.executorFree, h1, h2, h3, RequestEngine.hasPlace, RequestEngine.occupied,
    Config.responsePlaces]
  exact decide_eq_true h4

/-- The executor takes a head request that passes the row's test, and carries it out. -/
theorem State.serve_takes {s : State} {r : Request} {rest : List Request}
    {test : Request → Bool} {carry : Request → State → State} (h : s.takes r rest)
    (ht : test r = true) : s.serve test carry = carry r (s.taken rest) := by
  have hf := State.takes_free h
  obtain ⟨_, _, _, _, hq⟩ := h
  simp [State.serve, hf, hq, ht]

/-- A row whose test the head request fails does nothing. -/
theorem State.serve_other {s : State} {r : Request} {rest : List Request}
    {test : Request → Bool} {carry : Request → State → State} (h : s.engine.requests = r :: rest)
    (ht : test r = false) : s.serve test carry = s := by
  simp [State.serve, h, ht]

/-- An executor that is not free does nothing. -/
theorem State.serve_busy {s : State} {test : Request → Bool} {carry : Request → State → State}
    (h : s.executorFree = false) : s.serve test carry = s := by
  simp [State.serve, h]

/-- With an empty request queue nothing is taken. -/
theorem State.serve_empty {s : State} {test : Request → Bool} {carry : Request → State → State}
    (h : s.engine.requests = []) : s.serve test carry = s := by
  simp [State.serve, h]

/-- All that `serve` can do: nothing, or carry out the head request of a free executor. -/
theorem State.serve_cases (s : State) (test : Request → Bool) (carry : Request → State → State) :
    s.serve test carry = s
      ∨ ∃ r rest, s.takes r rest ∧ test r = true ∧ s.serve test carry = carry r (s.taken rest) := by
  unfold State.serve
  split
  · rename_i hf
    split
    · rename_i r rest hq
      split
      · rename_i ht
        refine Or.inr ⟨r, rest, ?_, ht, rfl⟩
        simp only [State.executorFree, RequestEngine.hasPlace, RequestEngine.occupied,
          Config.responsePlaces, Bool.and_eq_true, Bool.not_eq_true', decide_eq_true_eq] at hf
        obtain ⟨⟨⟨h1, h2⟩, h3⟩, h4⟩ := hf
        exact ⟨h1, h2, h3, of_decide_eq_true h4, hq⟩
      · exact Or.inl rfl
    · exact Or.inl rfl
  · exact Or.inl rfl

/-- The cache after a final response joins it (R154). -/
theorem pushCache_eq (cache : List Response) (x : Response) :
    pushCache cache x = if cache.length < 4 then cache ++ [x] else cache.drop 1 ++ [x] := by
  unfold pushCache
  simp only [Config.cachePlaces, List.length_append, List.length_singleton]
  by_cases h : cache.length < 4
  · rw [if_pos h, if_neg (by omega)]
  · rw [if_neg h, if_pos (by omega)]
    cases cache with
    | nil => simp at h
    | cons a l => rfl

/-- Answering the request just taken, in the words of the statements. -/
theorem State.taken_answer (s : State) (r : Request) (rest : List Request) (c : Status)
    (d : List Byte) : (s.taken rest).answer r c d = s.answered r rest c d := by
  simp [State.answer, State.answered, RequestEngine.queueFinal, RequestEngine.answered,
    RequestEngine.response, finalResponse, pushCache_eq, State.withEngine, responseKind,
    RequestEngine.credit, octet, Config.requestPlaces]

/-- Answering the request just taken with a hold mark, in the words of the statements. -/
theorem State.taken_answerHeld (s : State) (r : Request) (rest : List Request) (d : List Byte) :
    (s.taken rest).answerHeld r d =
      { s with
        engine :=
          { s.engine.answered rest (finalResponse r rest .ok d true) with executor := .held } } := by
  simp [State.answerHeld, RequestEngine.queueFinal, RequestEngine.answered,
    RequestEngine.response, finalResponse, pushCache_eq, State.withEngine, responseKind,
    RequestEngine.credit, octet, Config.requestPlaces]

/-- A length refused, in the words of the statements. -/
theorem State.taken_badLength (s : State) (r : Request) (rest : List Request) :
    (s.taken rest).badLength r = s.answered r rest .badLength [BitVec.ofNat 8 r.payload.length] :=
  s.taken_answer r rest .badLength _

end Sys2Proof.Machine
end

