-- ==== Sys2Proof/Laws/Shares.lean ====
section
/-! SUPPORT. What the shares of a boundary are where none has been taken, what the link's first two parts do, and what a bit period does that falls together with a boundary, for proofs to cite instead of unfolding the record of shares. -/

namespace Sys2Proof.Machine

variable {s : State}

/-- The coming boundary is N = SFN + 1. -/
theorem State.comingFrame_fresh (h : s.opening = closedOpening) :
    s.comingFrame = s.timing.sfn + 1 := by
  simp [State.comingFrame, h, closedOpening]

/-- The lock boundary's line is read from the Timing Unit's marks. -/
theorem State.lockFor_fresh (h : s.opening = closedOpening) (line : Line) :
    s.lockFor line = decide (s.timing.lockBoundary = some line) := by
  simp [State.lockFor, h, closedOpening]

/-- Every store has the boundary still to handle. -/
theorem State.storeAfter_fresh (h : s.opening = closedOpening) (line : Line) :
    s.storeAfter line = (s.store line).boundary (s.lockFor line) (s.port line).record.loss := by
  simp [State.storeAfter, h, closedOpening]

/-- The table has still to fire. -/
theorem State.fireOnce_fresh (h : s.opening = closedOpening) : s.fireOnce = s.fire s.comingFrame := by
  simp [State.fireOnce, h, closedOpening]

/-- The Timing Unit has the boundary still to take. -/
theorem State.timingAfter_fresh (h : s.opening = closedOpening) :
    s.timingAfter = s.timing.boundary s.aligned := by
  simp [State.timingAfter, h, closedOpening]

/-- Its REFERENCE event is still to come. -/
theorem State.referenceDue_fresh (h : s.opening = closedOpening) :
    s.referenceDue = s.timing.referenceEvents s.aligned := by
  simp [State.referenceDue, h, closedOpening]

/-- A settled link that does not switch passes parts 1 and 2 unchanged (R165). -/
theorem State.headParts_settled (h : s.link.state = .settled) (hs : s.link.steady) :
    s.headParts = s := by
  have ht : s.trialPart = s := by simp [State.trialPart, h]
  have hd : s.switchDue = none := by
    rcases hs.1 h with hp | hp
    · unfold State.switchDue; rw [h]; cases s.link.transmitter <;> simp [hp]
    · unfold State.switchDue; rw [h]
      revert hp; cases s.link.transmitter <;> simp
  simp [State.headParts, ht, State.switchPart, hd]

/-- A trial that goes on only counts its timer down in parts 1 and 2 (R165, R178). -/
theorem State.headParts_trial (h : s.link.state = .trial) (hs : s.link.steady) :
    s.headParts = s.withLink { s.link with trialTimer := s.link.trialTimer - 1 } := by
  obtain ⟨hl, ht⟩ := hs.2 h
  have h1 : s.trialPart = s.withLink { s.link with trialTimer := s.link.trialTimer - 1 } := by
    simp [State.trialPart, h, hl, Nat.not_le.mpr ht]
  rw [State.headParts, h1]
  simp [State.switchPart, State.switchDue, h]

/-- A link command that has a boundary to take is the link's whole act; else it does nothing. -/
theorem execRequestIntake_due {seq kind : Byte} {payload : List Byte} (h : s.inboundDue = true)
    (hk : requestKind kind = true) (hp : payload.length ≤ 60) :
    execRequestIntake seq kind payload s
      = .next (s.linkShare (State.delivering seq kind payload)) := by
  simp [execRequestIntake, h, hk, hp]

/-- A notice is acknowledged in the link's whole act. -/
theorem execNoticeAck_due {seq : Byte} (h : s.inboundDue = true) :
    execNoticeAck seq s = .next (s.linkShare (State.delivering seq Config.ackKind [])) := by
  simp [execNoticeAck, h]

/-- Where no message can end at the boundary, none is delivered. -/
theorem execInbound_notDue (h : s.inboundDue = false) (seq kind : Byte) (payload : List Byte) :
    execRequestIntake seq kind payload s = .next s ∧ execNoticeAck seq s = .next s
      ∧ execForeignKind kind s = .next s := by
  simp [execRequestIntake, execNoticeAck, execForeignKind, h]

/-! ### Bit periods that fall together with the boundary -/

/-- Every taker takes a share of the boundary, whatever the order named (R99). -/
theorem State.mem_shareOrder (s : State) (order : List Taker) (t : Taker) : t ∈ s.shareOrder order := by
  have keeps : ∀ l : List Taker, t ∈ l → t ∈ keepFirst id l := by
    intro l
    induction l with
    | nil => simp
    | cons a rest ih =>
      intro h
      by_cases ha : t = a
      · simp [keepFirst, ha]
      · simp only [List.mem_cons, ha, false_or] at h
        simp [keepFirst, ha, ih h]
  have defers : ∀ (l waiting : List Taker), t ∈ waiting ++ l → t ∈ deferToLink s.defers waiting l := by
    intro l
    induction l with
    | nil => intro w h; simpa [deferToLink] using h
    | cons a rest ih =>
      intro w h
      simp only [deferToLink]
      split
      · simp only [List.mem_append, List.mem_cons] at h ⊢; tauto
      · split
        · apply ih; simpa [List.append_assoc] using h
        · simp only [List.mem_append, List.mem_cons] at h
          rcases h with h | h | h
          · exact List.mem_cons_of_mem _ (ih _ (by simp [h]))
          · simp [h]
          · exact List.mem_cons_of_mem _ (ih _ (by simp [h]))
  have all : t ∈ defaultOrder.flatMap Taker.act := by
    cases t with
    | store line => fin_cases line <;> simp [defaultOrder, Taker.act]
    | probe i => fin_cases i <;> simp [defaultOrder, Taker.act]
    | _ => simp [defaultOrder, Taker.act]
  refine defers _ [] (List.mem_append_right _ (keeps _ ?_))
  rw [List.flatMap_append]
  exact List.mem_append_right _ all

/-- An event placed before no taker precedes none. -/
theorem precedes_last (s : State) (order : List Taker) (line : Line) (x : RxSample) (t : Taker) :
    precedes ⟨line, x, none⟩ (s.shareOrder order) t = false := by
  have h : ((s.shareOrder order).takeWhile fun u => !fallsBefore ⟨line, x, none⟩ u) = s.shareOrder order := by
    rw [List.takeWhile_eq_self_iff]; simp [fallsBefore]
  simp only [precedes, h, Bool.not_eq_false', List.contains_iff_mem]
  exact s.mem_shareOrder order t

/-- A bit period that falls together with the boundary and after it is one that comes after it (R62). -/
theorem State.numberedBoundary_last (s : State) (order : List Taker) (line : Line) (x : RxSample) :
    s.numberedBoundary ⟨order, [⟨line, x, none⟩]⟩ = (s.numberedBoundary ⟨order, []⟩).rxPeriod line x := by
  have hc : s.coincidences (s.mapEffects.shareOrder order) [⟨line, x, none⟩] = [⟨line, x, none⟩] := by
    simp [State.coincidences, keepFirst]
  have hf : s.foundBy (s.mapEffects.shareOrder order) [⟨line, x, none⟩] = fun _ => s := by
    funext t; simp [State.foundBy, precedes_last]
  have ht : ∀ (meet : State → Coincidence → State) (share : State → Taker → State) (shares : List Taker) (u : State),
      takeInTurn meet share [⟨line, x, none⟩] shares u = shares.foldl share u := by
    intro meet share shares
    induction shares with
    | nil => intro u; rfl
    | cons t rest ih => intro u; simp [takeInTurn, fallsBefore, ih]
  rw [State.numberedBoundary_plain]
  simp only [State.numberedBoundary, hc, hf, ht]
  simp

end Sys2Proof.Machine
end

