-- ==== Sys2Proof/Tests/Slice0.lean ====
section
/-! SUPPORT. The row's own tests: the check of ill-formed commands, one or two small tests for each command, and for each statement with hypotheses a state that meets them. -/

namespace Sys2Proof.Tests

open Sys2Proof.Machine

/-! ### Builders -/

/-- The state after a command; the state itself where there is none. -/
def after (c : Instr) (s : State) : State :=
  match exec c s with
  | .next t => t
  | .fault _ => s
  | .refused _ => s

/-- The request with SEQ 07h. -/
abbrev asked (kind : Byte) (payload : List Byte) : Request :=
  { seq := 7, kind := kind, payload := payload }

/-- A state whose request queue holds one request. -/
def asking (kind : Byte) (payload : List Byte) (s : State := State.reset) : State :=
  s.withEngine { s.engine with requests := [asked kind payload] }

/-- The newest response of a state: status and data. -/
def newest (s : State) : Option (Status × List Byte) :=
  s.engine.responses.getLast?.map fun r => (r.status, r.data)

/-- What the executor answers to a request. -/
def answerOf (c : Instr) (kind : Byte) (payload : List Byte) (s : State := State.reset) :
    Option (Status × List Byte) :=
  newest (after c (asking kind payload s))

/-- The state with these changes to the Timing Unit. -/
def timed (f : Timing → Timing) (s : State := State.reset) : State :=
  s.withTiming (f s.timing)

/-- A state in FREE whose next boundary is due. -/
def due (s : State := State.reset) : State :=
  timed (fun t => { t with refclk := 6144 }) s

/-- The state with these changes to the link. -/
def linked (f : Link → Link) (s : State := State.reset) : State :=
  s.withLink (f s.link)

/-- The state with these changes to the engine. -/
def engined (f : RequestEngine → RequestEngine) (s : State := State.reset) : State :=
  s.withEngine (f s.engine)

/-- The state with these changes to the Notice Unit. -/
def noticed (f : NoticeUnit → NoticeUnit) (s : State := State.reset) : State :=
  s.withNotices (f s.notices)

/-- The state with the Map Controller in this state. -/
def mapping (state : McState) (s : State := State.reset) : State :=
  s.mcState state

/-- The state with these changes to one line port. -/
def ported (line : Line) (f : LinePort → LinePort) (s : State := State.reset) : State :=
  s.setPort line (f (s.port line))

/-- The state with these changes to one elastic store. -/
def stored (line : Line) (f : Store → Store) (s : State := State.reset) : State :=
  s.setStore line (f (s.store line))

/-- The line ALIGNED, both sides on, with this many slots of this width. -/
def serving (line : Line) (slots : Nat) (width : Width) (s : State := State.reset) : State :=
  ported line (fun p =>
    { p with
      record := { p.record with rxOn := true, txOn := true, slots := slots, width := width }
      rx := { p.rx with state := .aligned } }) s

/-- The line ALIGNED in its reset format. -/
def alignedOn (line : Line) (s : State := State.reset) : State :=
  ported line (fun p => { p with rx := { p.rx with state := .aligned } }) s

/-- A response that waits, with this SEQ. -/
def waiting (seq : Byte) : Response :=
  { kind := 0x81, seq := seq, status := .ok, credit := 4, data := [], hold := false }

/-- A location on line 4: slots 8 and 9. -/
def elsewhere : Location :=
  { line := 4, first := 8, width := 2 }

/-! ### Ill-formed commands are refused by the check -/

theorem test_wellFormed_intakeKind :
    (Instr.requestIntake 1 0x40 []).wellFormed = false := by decide

theorem test_wellFormed_intakePayload :
    (Instr.requestIntake 1 0x01 (List.replicate 61 0)).wellFormed = false := by decide

theorem test_wellFormed_foreignKind : (Instr.foreignKind 0x60).wellFormed = false := by decide

theorem test_wellFormed_foreignRequestKind :
    (Instr.foreignKind 0x3F).wellFormed = false := by decide

theorem test_wellFormed_orderTwice :
    (Instr.boundary ⟨[.timing, .link, .timing], []⟩).wellFormed = false := by decide

theorem test_wellFormed_lineTwice :
    (Instr.boundary ⟨[], [⟨3, ⟨true, true⟩, none⟩, ⟨3, ⟨false, true⟩, some .link⟩]⟩).wellFormed
      = false := by decide

theorem test_wellFormed_pulseAfterHigh :
    (Instr.pulse 0 [{ sync := true, data := false }] false).wellFormed = false := by decide

theorem test_wellFormed_accepts :
    (Instr.requestIntake 1 0x3F (List.replicate 60 0)).wellFormed = true
      ∧ (Instr.foreignKind 0x40).wellFormed = true
      ∧ (Instr.boundary ⟨[.timing, .link], [⟨3, ⟨true, true⟩, none⟩]⟩).wellFormed = true
      ∧ (Instr.pulse 0 [{ sync := false, data := false }] false).wellFormed = true := by decide

/-- No word spells a command. -/
theorem test_noWordSpellsACommand : decodeTableWord 8 0 = none := by decide

/-! ### The queue of commands and the restarts -/

theorem witness_StepRunsFrontCommand :
    (State.reset.withPending [.stall]).pending = .stall :: []
      ∧ State.reset.pending = [] ∧ State.reset.held = false
      ∧ (after (.restartN resetStraps) State.reset).pending = []
      ∧ (after (.restartN resetStraps) State.reset).held = true := by decide

/-- An idle step is one REFCLK period (log 3). -/
theorem test_idleStep :
    (match step State.reset with
      | .next t => t.timing.refclk
      | _ => 0) = 1 := by decide

/-- CTLLINE 0, CTLW high, CTLFMT 0: CONTROL at (0, 0) and (0, 1), 32 slots of 8 bits (chapter 12's session). -/
theorem test_powerUp :
    let t := after (.powerUp { ctlLine := 0, ctlW := true, ctlFmt := 0 } true) (due (alignedOn 0))
    t.link.current = { line := 0, first := 0, width := 2 } ∧ t.held = false
      ∧ entryAt t.switch.pageB 0 1 = .control ∧ entryAt t.switch.pageB 0 2 = .release
      ∧ (t.port 0).record.slots = 32 ∧ (t.port 0).rx.state = .hunt := by decide

/-- CTLFMT 3 gives 64 slots of 8 bits; the part is held. -/
theorem test_restartN :
    let t := after (.restartN { ctlLine := 5, ctlW := false, ctlFmt := 3 }) State.reset
    t.held = true ∧ (t.port 5).record.slots = 64 ∧ (t.port 5).record.width = .w8
      ∧ t.timing.primary = 5 := by decide

/-- Released, the part counts REFCLK periods again; a second release does nothing. -/
theorem test_restartNRelease :
    let held := after (.restartN resetStraps) State.reset
    (after (.restartNRelease { ctlLine := 2, ctlW := false, ctlFmt := 1 }) held).held = false
      ∧ (after (.restartNRelease resetStraps) (due)).timing = (due).timing := by
  decide

theorem witness_FullRestarts :
    (after (.restartN resetStraps) State.reset).held = true
      ∧ let s := due (linked (fun k => { k with transmitter := .stopped }))
        s.held = false ∧ s.timing.placed = true ∧ s.opening.isOpen = false
          ∧ s.link.transmitter = .stopped ∧ s.link.pendingMove = none := by decide

/-- BOUNDARY takes the restart boundary with the levels that the last restart left in State (log 16). -/
theorem test_boundary_restartStraps :
    let straps : Straps := { ctlLine := 6, ctlW := true, ctlFmt := 0 }
    let s := due (linked (fun k => { k with transmitter := .stopped })
      (after (.powerUp straps true) State.reset))
    let t := after (.boundary ⟨[], []⟩) s
    t.straps = straps ∧ t.link.current = { line := 6, first := 0, width := 2 }
      ∧ t.opening = closedOpening := by decide +kernel

/-- The restart boundary numbers nothing and restarts with cause REQUEST (R114, R161). -/
theorem test_fullRestartBoundary :
    let s := due (timed (fun t => { t with sfn := 77 })
      (linked (fun k => { k with transmitter := .stopped })))
    let t := after (.fullRestartBoundary { ctlLine := 3, ctlW := false, ctlFmt := 0 }) s
    t.timing.sfn = 0 ∧ t.link.current.line = 3
      ∧ t.notices.queue = [{ event := .restarted .request, number := none }] := by decide

theorem witness_HeldPartDoesNothing :
    (after (.restartN resetStraps) State.reset).held = true
      ∧ (engined fun q => { q with executor := .held }).engine.executor = .held
      ∧ 6 ≤ (engined fun q =>
          { q with responses := List.replicate 5 (waiting 1), reserved := true }).engine.responses.length
            + 1
      ∧ State.reset.engine.requests = [] := by decide

theorem witness_HeldPartDoesNothing_commands :
    (∀ straps high, Instr.stall ≠ .powerUp straps high) ∧ (∀ straps, Instr.stall ≠ .restartN straps)
      ∧ (∀ straps, Instr.stall ≠ .restartNRelease straps)
      ∧ (∀ line periods, Instr.stall = .txFrameEnd line periods → (State.reset.port line).tx = .off)
      ∧ (State.reset.port 0).tx = .off :=
  ⟨nofun, nofun, nofun, nofun, by decide⟩

/-! ### BOUNDARY: the Timing Unit -/

/-- A state in FREE, due, in which these lines are ALIGNED with qualify count 63. -/
def qualifying (lines : List Line) (s : State := State.reset) : State :=
  due (lines.foldl
    (fun t (l : Line) => timed (fun u => { u with qualify := u.qualify.set l 63 }) (alignedOn l t)) s)

/-- The state locked in this way with its point reached. -/
def locked (sel : Selector) (s : State := State.reset) : State :=
  timed (fun t => { t with selector := sel, pointReached := true }) s

/-- The state with this secondary. -/
def second (line : Line) (s : State := State.reset) : State :=
  timed (fun t => { t with secondary := some line }) s

/-- The selector state after a boundary. -/
def selected (s : State) : Selector :=
  (after (.boundary ⟨[], []⟩) s).timing.selector

/-- In FREE: a qualified primary, else a qualified secondary, else FREE; the 64th boundary qualifies. -/
theorem witness_BoundaryEvaluatesTheReference_free :
    selected (qualifying [0]) = .primary 0
      ∧ selected (qualifying [5] (second 5)) = .secondary 5
      ∧ selected (qualifying [5]) = .free
      ∧ selected (qualifying [0, 5] (second 5)) = .primary 0 := by decide +kernel

/-- The locked line lost: the secondary when it is another qualified line, else a qualified primary, else FREE. -/
theorem witness_BoundaryEvaluatesTheReference_lost :
    selected (qualifying [5] (locked (.primary 0) (second 5))) = .secondary 5
      ∧ selected (qualifying [0] (locked (.secondary 5) (second 5))) = .primary 0
      ∧ selected (locked (.primary 0)) = .free
      ∧ selected (timed (fun t => { t with stall := true })
          (qualifying [0] (locked (.primary 0)))) = .free := by decide +kernel

/-- The locked line kept: the primary stays; the secondary stays unless the part is revertive and the primary qualifies. -/
theorem witness_BoundaryEvaluatesTheReference_kept :
    selected (alignedOn 0 (locked (.primary 0))) = .primary 0
      ∧ selected (qualifying [0, 5] (locked (.secondary 5) (second 5))) = .secondary 5
      ∧ selected (timed (fun t => { t with revertive := true })
          (qualifying [0, 5] (locked (.secondary 5) (second 5)))) = .primary 0 := by decide +kernel

/-- Each of these boundaries is a numbered one; a new lock is pending, a kept one is not. -/
theorem witness_BoundaryEvaluatesTheReference_due :
    (qualifying [0]).numberedDue = true
      ∧ (locked (.primary 0)).numberedDue = true
      ∧ (after (.boundary ⟨[], []⟩) (qualifying [0])).timing.lockPending = some 0
      ∧ (after (.boundary ⟨[], []⟩) (alignedOn 0 (locked (.primary 0)))).timing.lockPending = none := by
  decide +kernel

/-- A boundary at which the selector changes and one at which it stays, no frame read at either; REFERENCE is in the queue after the first (R108). -/
theorem witness_BoundaryEvaluatesTheReference_event :
    (qualifying [0]).freshBoundary ∧ (qualifying [0]).quiet
      ∧ selected (qualifying [0]) ≠ (qualifying [0]).timing.selector
      ∧ (qualifying [0]).notices.mask.getLsbD 2 = true
      ∧ ((after (.boundary ⟨[], []⟩) (qualifying [0])).notices.queue.map NoticeRecord.event).getLast?
        = some (.reference .free .lockedPrimary 0 1)
      ∧ (due).freshBoundary ∧ (due).quiet ∧ selected due = (due).timing.selector := by decide +kernel

/-- Chapter 6's failover: primary 2 lost at 12001, lock on secondary 5, REFERENCE raised. -/
theorem test_boundary_failover :
    let s := alignedOn 5 (timed
      (fun t =>
        { t with
          selector := .primary 2, primary := 2, secondary := some 5, sfn := 12000
          qualify := (t.qualify.set 2 64).set 5 64, offLine := some 100, refclk := 6144 }))
    let t := after (.boundary ⟨[], []⟩) s
    t.timing.sfn = 12001 ∧ t.timing.qualify[2] = 0 ∧ t.timing.qualify[5] = 64
      ∧ t.timing.selector = .secondary 5 ∧ t.timing.lockPending = some 5
      ∧ (t.notices.queue.map NoticeRecord.event).getLast?
        = some (.reference .lockedPrimary .lockedSecondary 5 12001) := by decide +kernel

theorem witness_BoundaryFallsWhereItIsPlaced_free :
    (due).held = false ∧ (due).opening.isOpen = false ∧ (due).openingLaw
      ∧ (due).timing.placed = true ∧ (due).link.transmitter ≠ .stopped
      ∧ (due).timing.selector = .free ∧ (due).timing.periodInForce.toNat ≤ (due).timing.refclk
      ∧ State.reset.timing.refclk < State.reset.timing.periodInForce.toNat
      ∧ (timed fun t => { t with refclk := 6143 }).boundaryDue = false := by decide

theorem witness_BoundaryFallsWhereItIsPlaced_locked :
    let at_ := locked (.primary 0)
    let off := timed (fun t => { t with selector := .primary 0, offLine := some 9, refclk := 6144 })
    at_.openingLaw ∧ off.openingLaw ∧ at_.timing.selector ≠ .free ∧ at_.timing.stall = false ∧ at_.timing.offLine = none
      ∧ at_.timing.pointReached = true ∧ at_.link.transmitter ≠ .stopped
      ∧ off.timing.selector ≠ .free ∧ off.timing.stall = false ∧ off.timing.offLine = some 9
      ∧ off.timing.periodInForce.toNat ≤ off.timing.refclk ∧ 9 < off.timing.refclk
      ∧ (timed (fun t => { t with pointReached := false }) at_).timing.pointReached = false
      ∧ (timed (fun t => { t with stall := true }) at_).timing.stall = true := by decide

/-- The line stopped in the very REFCLK period that ends the free period, or the free period has not passed: the boundary does not fall; where a move is pending the transmitter may be STOPPED (R104). -/
theorem witness_BoundaryFallsWhereItIsPlaced_stopped :
    let off := fun count refclk => timed
      (fun t => { t with selector := .primary 0, offLine := some count, refclk := refclk })
    (off 6144 6144).timing.offLine = some 6144 ∧ (off 6144 6144).timing.selector ≠ .free
      ∧ (off 6144 6144).timing.stall = false
      ∧ ¬ (6144 : Nat) < (off 6144 6144).timing.refclk ∧ (off 6144 6144).boundaryDue = false
      ∧ (off 9 6143).boundaryDue = false ∧ (off 9 6144).boundaryDue = true
      ∧ (linked fun k => { k with pendingMove := some elsewhere, transmitter := .stopped
          }).link.pendingMove ≠ none := by decide

/-- The locked line stalls at twice the free period, not one REFCLK period before it (R105). -/
theorem test_stall :
    let s := fun n => alignedOn 0 (timed fun t => { t with selector := .primary 0, refclk := n })
    (after .stall (s 12287)).timing.stall = false ∧ (after .stall (s 12288)).timing.stall = true := by
  decide

theorem witness_StallSetsTheMark :
    let s := alignedOn 0 (timed fun t => { t with selector := .primary 0, refclk := 12288 })
    s.held = false ∧ s.opening.isOpen = false ∧ s.timing.selector.line = some 0
      ∧ (s.port 0).rx.state = .aligned ∧ s.timing.offLine = none ∧ s.timing.pointReached = false
      ∧ s.timing.stall = false ∧ 2 * s.timing.periodInForce.toNat ≤ s.timing.refclk := by
  decide

/-! ### BOUNDARY: stores, pages, patterns, output frames, probes, notices -/

/-- A frame of 32 slots whose every sample is this word. -/
def frameOf (w : Word) : InputFrame :=
  List.replicate 32 w

/-- Each case of a store at a numbered boundary, the lock boundary with two unread frames among them. -/
theorem witness_BoundaryHandlesEveryStore :
    let one := due (stored 2 fun e => { e with unread := [frameOf 1] })
    let lock := timed (fun t => { t with lockPending := some 2 })
      (due (stored 2 fun e => { e with unread := [frameOf 1, frameOf 2], deletes := 0xFFFF }))
    let repeated := due (stored 2 fun e => { e with current := some (frameOf 1), taken := true })
    let lost := due (stored 2 fun e => { e with current := some (frameOf 1) })
    one.numberedDue = true ∧ lock.numberedDue = true ∧ repeated.numberedDue = true
      ∧ lost.numberedDue = true
      ∧ (one.store 2).unread = frameOf 1 :: [] ∧ one.timing.lockPending ≠ some 2
      ∧ (lock.store 2).unread = [frameOf 1] ++ [frameOf 2] ∧ lock.timing.lockPending = some 2
      ∧ lock.timing.stall = false ∧ lock.timing.offLine = none
      ∧ (repeated.store 2).unread = [] ∧ (repeated.store 2).taken = true
      ∧ (lost.store 2).unread = [] ∧ (lost.store 2).taken = false := by decide

/-- A lock boundary takes the newest frame and counts the older one, the counter stopping at 65535 (R94, R95). -/
theorem test_boundary_lockBoundary :
    let t := after (.boundary ⟨[], []⟩) (timed (fun t => { t with lockPending := some 2 })
      (due (stored 2 fun e => { e with unread := [frameOf 1, frameOf 2], deletes := 0xFFFF })))
    (t.store 2).unread = [] ∧ (t.store 2).current = some (frameOf 2)
      ∧ (t.store 2).deletes = 0xFFFF ∧ (t.notices.queue.map NoticeRecord.event)
        = [.restarted .powerOrPin, .slip 2 0 1 1] := by decide +kernel

/-- A repeat slip and a lock boundary, no frame of the control line taken and no SLIP of the line waiting to be sent. -/
theorem witness_BoundaryHandlesEveryStore_slips :
    let lock := timed (fun t => { t with lockPending := some 2 })
      (due (stored 2 fun e => { e with unread := [frameOf 1, frameOf 2] }))
    let repeated := due (stored 2 fun e => { e with current := some (frameOf 1), taken := true })
    (∀ s ∈ [lock, repeated], s.freshBoundary ∧ s.quiet ∧ s.notices.mask.getLsbD 1 = true
        ∧ ∀ r ∈ s.notices.queue, r.openSlip 2 = false)
      ∧ (lock.store 2).unread = [frameOf 1] ++ [frameOf 2] ∧ [frameOf 1] ≠ []
      ∧ lock.timing.lockPending = some 2 ∧ lock.timing.stall = false ∧ lock.timing.offLine = none
      ∧ (repeated.store 2).unread = [] ∧ (repeated.store 2).taken = true := by decide

/-- Steps on line 6, on line 0 and on line 7. -/
theorem witness_CopyAndClearStepAtBoundary :
    ∀ progress ∈ [(6 : Line), 0, 7],
      let copying := due (mapping (.copying progress 0x48))
      let clearing := due (mapping (.clearing progress 0x48))
      copying.freshBoundary ∧ copying.link.resting ∧ copying.mc.state = .copying progress 0x48
        ∧ clearing.freshBoundary ∧ clearing.link.resting
        ∧ clearing.mc.state = .clearing progress 0x48 := by decide

/-- BOUNDARY takes a clear's last step and ends it; the SWAP entry due there is refused (R31, R36). -/
theorem test_boundary_lastStep :
    let s := due ((mapping (.clearing 7 0x48)).withSchedule [{ tag := 1, due := 1, action := .swap }])
    let t := after (.boundary ⟨[], []⟩) (s.withEngine { s.engine with reserved := true })
    t.mc.state = .idle ∧ t.switch.active = .a ∧ newest t = some (.ok, [1, 0, 0, 0, 1])
      ∧ (t.notices.queue.map NoticeRecord.event)
        = [.restarted .powerOrPin, .scheduleDone 1 .swap 1 .pageBusy] := by decide +kernel

/-- Two scheduled values and a pending one for pattern 3 (chapter 7's boundary 20100). -/
def patterned : State :=
  (due ((State.reset.setPatternAt 3 { present := 0, pending := some 0x12121212 }).withSchedule
    [{ tag := 1, due := 1, action := .pattern 3 0x00FF00FF },
      { tag := 3, due := 1, action := .pattern 3 0x7FFFFFFF }]))

theorem witness_BoundarySetsPatterns :
    patterned.numberedDue = true
      ∧ (after (.boundary ⟨[], []⟩) patterned).pattern 3 = { present := 0x7FFFFFFF, pending := none } := by
  decide +kernel

theorem witness_BoundarySwapsAtMostOnce :
    let manager := due (mapping (.swapPending 1 0x4D))
    let scheduled := due (State.reset.withSchedule [{ tag := 1, due := 1, action := .swap }])
    manager.freshBoundary ∧ manager.link.resting ∧ manager.mc.state.rewriting = false
      ∧ manager.mc.state = .swapPending (manager.timing.sfn + 1) 0x4D
      ∧ scheduled.freshBoundary ∧ scheduled.link.resting ∧ scheduled.mc.state = .idle
      ∧ scheduled.schedule = [{ tag := 1, due := scheduled.timing.sfn + 1, action := .swap }]
      ∧ (due).freshBoundary ∧ (due).link.resting ∧ (due).mc.state.rewriting = false
      ∧ (due).schedule = [] := by decide

/-- SWAP entries due at a copy's step, its last step among them, and at the manager's swap. -/
theorem witness_BoundarySwapsAtMostOnce_refused :
    let e : ScheduleEntry := { tag := 1, due := 1, action := .swap }
    let at_ := fun state => due ((mapping state).withSchedule [e])
    (∀ state ∈ [McState.copying 0 9, .copying 7 9, .clearing 7 9, .swapPending 1 9],
        (at_ state).freshBoundary ∧ (at_ state).quiet ∧ e ∈ (at_ state).schedule
          ∧ e.due = (at_ state).timing.sfn + 1 ∧ (at_ state).notices.mask.getLsbD 3 = true)
      ∧ (at_ (.copying 7 9)).mc.state.rewriting = true
      ∧ (at_ (.swapPending 1 9)).mc.state = .swapPending ((at_ (.swapPending 1 9)).timing.sfn + 1) 9 := by
  decide

/-- A pending swap and a scheduled one at one boundary: one swap, and the scheduled one is refused (chapter 2's boundary 5100). -/
theorem test_boundary_twoSwaps :
    let s := due ((mapping (.swapPending 1 0x4D)).withSchedule [{ tag := 1, due := 1, action := .swap }])
    let t := after (.boundary ⟨[], []⟩) (s.withEngine { s.engine with reserved := true })
    t.switch.active = .b ∧ t.mc = { state := .idle, lastSwap := some 1, endFrame := none }
      ∧ t.schedule = [] ∧ newest t = some (.ok, [0, 0, 0, 1, 1])
      ∧ (t.notices.queue.map NoticeRecord.event)
        = [.restarted .powerOrPin, .scheduleDone 1 .swap 1 .pageBusy] := by decide +kernel

/-- A line with tx on and one with tx off, nothing being sent. -/
theorem witness_BoundaryBuildsOutputFrames :
    (due).freshBoundary ∧ (due).linkLaw ∧ (due).mapLaw ∧ (due).lineLaw
      ∧ (due).link.transmitter = .free
      ∧ ((due).port 0).record.txOn = true ∧ ((due).port 1).record.txOn = false := by decide +kernel

/-- The state before chapter 12's boundary 401: line 1 of 16 bits without a frame, pattern 4, page B with two entries, a swap pending. -/
def session : State :=
  let s := serving 1 32 .w16 (mapping (.swapPending 401 5) (due (timed fun t => { t with sfn := 400 })))
  let s := ported 1 (fun p => { p with record := { p.record with lossPattern := 4 } }) s
  let s := s.setPatternAt 4 { present := 0x55AA33CC, pending := none }
  let page := putEntry (putEntry s.switch.pageB 0 4 (.slot 1 0 .high)) 0 5 (.pattern 4 .low)
  s.withSwitch { s.switch with pageB := page }

/-- Output frame 401 carries 55h in slot 4, CCh in slot 5, and its neighbours are released. -/
theorem test_boundary_session :
    (match ((after (.boundary ⟨[], []⟩) session).port 0).tx with
      | .sending f next => (f.number, next, (f.slots.drop 3).take 4)
      | _ => (0, 0, []))
    = (401, 0, [.released, .word 0x55, .word 0xCC, .released]) := by decide +kernel

/-- A due state whose channel is three slots wide, with this much of a message left to send and a response behind it. -/
def carrying (left : Nat) : State :=
  due (linked (fun k =>
    { k with
      current := { k.current with width := 3 }
      transmitter := .sending
        { owner := .response, octets := [0xD5, 2, 3, 4, 5, 6], hold := false } (6 - left) })
    (engined (fun q => { q with responses := [waiting 1, waiting 2] })
      (State.reset.withSwitch (State.reset.switch.joinLocation { line := 0, first := 0, width := 3 }))))

/-- The message goes on, and where it ends in the frame the next one starts. -/
theorem witness_BoundaryBuildsOutputFrames_control :
    ∀ left ∈ [6, 1],
      (carrying left).freshBoundary ∧ (carrying left).linkLaw ∧ (carrying left).mapLaw
        ∧ (carrying left).lineLaw
        ∧ (carrying left).link.transmitter
          = .sending { owner := .response, octets := [0xD5, 2, 3, 4, 5, 6], hold := false } (6 - left)
        ∧ 6 - left < 6
        ∧ entryAt (after (.boundary ⟨[], []⟩) (carrying left)).switch.activePage 0 2 = .control := by
  decide +kernel

/-- The last octet 06h of one message, then lead-in D5h and LEN 04h of the next (R171). -/
theorem test_boundary_octets :
    (match ((after (.boundary ⟨[], []⟩) (carrying 1)).port 0).tx with
      | .sending f _ => f.slots.take 4
      | _ => [])
    = [.word 0x06, .word 0xD5, .word 0x04, .released] := by decide +kernel

/-- A probe that is on. -/
def armed (mode : ProbeMode) (side : Side) : Probe :=
  { restartProbe with mode := mode, side := side, value := 0xA0, mask := 0xF0 }

/-- A due state whose line 0 hands over this word in slot 0, watched on its receive side. -/
def watching (w : Word) (mode : ProbeMode) (last : Option SlotValue) : State :=
  (due (stored 0 fun e => { e with unread := [frameOf w] })).setProbeAt 1
    { armed mode .rx with last := last }

theorem witness_ProbesObserveOncePerBoundary_rx :
    let s := watching 0xA5 .matching none
    s.freshBoundary ∧ (s.probe 1).mode ≠ .off ∧ (s.probe 1).side = .rx
      ∧ (s.probe 1).slot.val < (s.port (s.probe 1).line).record.slots
      ∧ ((after (.boundary ⟨[], []⟩) s).store 0).newly = true
      ∧ ((after (.boundary ⟨[], []⟩) s).store 0).current.isSome = true
      ∧ ((0xA5 : Word) ^^^ (s.probe 1).value) &&& (s.probe 1).mask = 0
      ∧ ((0xB5 : Word) ^^^ (s.probe 1).value) &&& (s.probe 1).mask ≠ 0
      ∧ ((after (.boundary ⟨[], []⟩) ((due).setProbeAt 1 (armed .matching .rx))).store 0).newly = false := by
  decide +kernel

/-- A MATCH hit is counted and captured; a CHANGE probe's first observation is no hit (R135 to R137). -/
theorem test_boundary_probes :
    ((after (.boundary ⟨[], []⟩) (watching 0xA5 .matching none)).probe 1).capture
        = some { frame := 1, seen := .word 0xA5 }
      ∧ ((after (.boundary ⟨[], []⟩) (watching 0xB5 .matching none)).probe 1).hits = 0
      ∧ ((after (.boundary ⟨[], []⟩) (watching 0xA5 .change none)).probe 1).hits = 0
      ∧ ((after (.boundary ⟨[], []⟩) (watching 0xA5 .change (some .released))).probe 1).hits = 1 := by
  decide +kernel

theorem witness_ProbesObserveOncePerBoundary_tx :
    let s := (due).setProbeAt 1 { armed .change .tx with slot := 9, last := some (.word 3) }
    s.freshBoundary ∧ s.link.resting ∧ (∀ l : Line, (s.port l).record.slots ≤ 64)
      ∧ (s.probe 1).mode ≠ .off ∧ (s.probe 1).side = .tx
      ∧ (s.port (s.probe 1).line).record.txOn = true
      ∧ (s.probe 1).slot.val < (s.port (s.probe 1).line).record.slots
      ∧ (s.probe 1).last ≠ some .released
      ∧ ((after (.boundary ⟨[], []⟩) s).probe 1).last = some .released
      ∧ ((s.port 1).record.txOn = false ∧ (s.port 0).record.slots ≤ (63 : Slot).val) := by
  decide +kernel

/-- A TX probe's first hit, with no frame read: PROBE_MATCH is in the queue (R137). -/
theorem witness_ProbesObserveOncePerBoundary_event :
    let s := (due).setProbeAt 1 { armed .change .tx with slot := 9, last := some (.word 3) }
    let t := after (.boundary ⟨[], []⟩) s
    s.freshBoundary ∧ s.quiet ∧ (s.probe 1).capture = none ∧ s.notices.mask.getLsbD 4 = true
      ∧ (t.probe 1).capture = some { frame := 1, seen := .released }
      ∧ (t.notices.queue.map NoticeRecord.event).getLast? = some (.probeMatch 1 1 .released) := by
  decide +kernel

/-- A TX probe on a management position moves right behind the link; its place before or after the others is free (R133, R187). -/
theorem test_boundary_probeOrder :
    let s := (due).setProbeAt 0 { armed .change .tx with slot := 0 }
    s.shareOrder [.probe 0, .link, .timing] = [.link, .probe 0, .timing, .schedule] ++
        (s.shareOrder [.probe 0, .link, .timing]).drop 4
      ∧ (s.shareOrder [.timing, .probe 0]).head? = some .timing := by decide

/-- A started notice, number 00h, outstanding with this timer and send count. -/
def outstanding (timer count : Nat) (s : State := State.reset) : State :=
  noticed (fun n =>
    { n with
      queue := [{ event := .restarted .powerOrPin, number := some 0 }], state := .outstanding
      sendCount := count, timer := timer, nextNumber := 1 }) s

theorem witness_RetransmitTimer :
    let running := due (outstanding 2 1)
    let again := due (outstanding 1 3)
    let last := due (outstanding 1 4)
    (∀ s ∈ [running, again, last], s.freshBoundary ∧ (∀ loc ∈ s.link.locations, loc.width ≤ 4)
        ∧ s.notices.state = .outstanding
        ∧ s.takeStores.headParts.readFrame.notices.state = .outstanding)
      ∧ running.link.transmitter = .free ∧ 1 < running.notices.timer
      ∧ again.notices.timer = 1 ∧ again.notices.sendCount < 4
      ∧ last.notices.timer = 1 ∧ 4 ≤ last.notices.sendCount := by decide +kernel

theorem witness_RetransmitTimer_sends : (due (outstanding 2 1)).sendLaw := trivial

/-- The timer at 1 after the fourth send, the last check octet of this message in the frame to read. -/
def hearing (seq kind : Byte) : State :=
  let check := crc [2, seq, kind]
  linked (fun k => { k with receiver := .check 2 [seq, kind] (some (check.extractLsb' 8 8)) })
    (stored 0 (fun e => { e with unread := [frameOf ((check.extractLsb' 0 8).setWidth 32)] })
      (due (outstanding 1 4)))

/-- An Echo, or an ack of another notice, is read there and the head stays; read after the timer has run out it ends the stall (R196, R197). -/
theorem witness_RetransmitTimer_reading :
    (hearing 7 0x01).freshBoundary ∧ ((hearing 7 0x01).takenFrame 0).isSome = true
      ∧ (hearing 7 0x01).notices.state = .outstanding
      ∧ (hearing 9 0x60).freshBoundary ∧ ((hearing 9 0x60).takenFrame 0).isSome = true
      ∧ (hearing 9 0x60).notices.state = .outstanding := by decide +kernel

theorem witness_RetransmitTimer_stays :
    (hearing 7 0x01).takeStores.headParts.readFrame.notices.state = .outstanding
      ∧ (hearing 9 0x60).takeStores.headParts.readFrame.notices.state = .outstanding := by
  decide +kernel

theorem witness_RetransmitTimer_released :
    (State.headParts { (hearing 7 0x01).takeStores with
      notices := { (hearing 7 0x01).notices with timer := 0, state := .stalled } }).readFrame.notices.state
        = .waiting := by decide +kernel

/-- The timer first: the unit stalls and the message releases it; the link first: the stall stands (R196). -/
theorem test_boundary_timerAndMessage :
    let first := (after (.boundary ⟨[.notice], []⟩) (hearing 7 0x01)).notices
    let last := (after (.boundary ⟨[.link], []⟩) (hearing 7 0x01)).notices
    (first.state, first.sendCount) = (.waiting, 0) ∧ (last.state, last.sendCount) = (.stalled, 4) := by
  decide +kernel

/-- The timer of the third send offers the notice again; that of the fourth stalls (R196). -/
theorem test_retransmitTimeout :
    (after .retransmitTimeout (due (outstanding 1 3))).notices.state = .waiting
      ∧ (after .retransmitTimeout (due (outstanding 1 4))).notices.state = .stalled
      ∧ (after .retransmitTimeout (due (outstanding 2 4))).notices.state = .outstanding := by
  decide

/-! ### Shares of a boundary taken ahead -/

/-- A due state whose Map Controller is in this state with its response place reserved. -/
def operating (state : McState) : State :=
  engined (fun q => { q with reserved := true }) (due (mapping state))

theorem witness_LastStepEndsCopyAndClear :
    (operating (.copying 7 0x48)).freshBoundary
      ∧ (operating (.copying 7 0x48)).mc.state = .copying 7 0x48
      ∧ (operating (.clearing 7 0x48)).freshBoundary
      ∧ (operating (.clearing 7 0x48)).mc.state = .clearing 7 0x48 := by decide

/-- The copy of line 7 ends the operation: page written B, completion frame 1 (R29). -/
theorem test_copyComplete :
    let t := after .copyComplete (operating (.copying 7 0x48))
    t.mc.state = .idle ∧ newest t = some (.ok, [1, 0, 0, 0, 1]) ∧ t.engine.reserved = false
      ∧ (after .copyComplete (operating (.copying 6 0x48))).mc.state = .copying 6 0x48 := by
  decide

theorem test_clearComplete :
    let t := after .clearComplete (operating (.clearing 7 0x48))
    t.mc.state = .idle ∧ newest t = some (.ok, [1, 0, 0, 0, 1]) ∧ t.opening.stepped = true := by
  decide

theorem witness_PendingSwapTakesEffect :
    let s := operating (.swapPending 1 0x46)
    s.freshBoundary ∧ s.mc.state = .swapPending (s.timing.sfn + 1) 0x46 := by decide

/-- Page B becomes active at boundary 1 and the response says so (R34). -/
theorem test_takePendingSwap :
    let t := after .takePendingSwap (operating (.swapPending 1 0x46))
    t.switch.active = .b ∧ t.mc.lastSwap = some 1 ∧ newest t = some (.ok, [0, 0, 0, 1, 1]) := by
  decide

/-- A due state with these entries in the table. -/
def scheduled (entries : List ScheduleEntry) (s : State := State.reset) : State :=
  due (s.withSchedule entries)

theorem witness_DueEntriesFire :
    let swap := scheduled [{ tag := 1, due := 1, action := .swap }, { tag := 2, due := 2, action := .swap }]
    let busy := scheduled [{ tag := 1, due := 1, action := .swap }] (mapping (.copying 0 9))
    let pattern := scheduled [{ tag := 1, due := 1, action := .pattern 15 7 }]
    swap.freshBoundary ∧ swap.mc.state = .idle
      ∧ (swap.schedule.filter fun x => x.due = swap.timing.sfn + 1)
        = [{ tag := 1, due := 1, action := .swap }]
      ∧ busy.freshBoundary ∧ busy.mc.state ≠ .idle
      ∧ (busy.schedule.filter fun x => x.due = busy.timing.sfn + 1)
        = [{ tag := 1, due := 1, action := .swap }]
      ∧ pattern.freshBoundary
      ∧ (pattern.schedule.filter fun x => x.due = pattern.timing.sfn + 1)
        = [{ tag := 1, due := 1, action := .pattern 15 7 }] := by decide

theorem witness_DueEntriesFire_two :
    let s := scheduled [{ tag := 1, due := 1, action := .swap }, { tag := 2, due := 1, action := .swap }]
    s.freshBoundary ∧ s.mc.state = .idle
      ∧ (s.schedule.filter fun x => x.due = s.timing.sfn + 1)
        = [{ tag := 1, due := 1, action := .swap }, { tag := 2, due := 1, action := .swap }] := by
  decide

/-- Four entries due, two of them SWAP, and one that is not; with the Map Controller idle and busy. -/
def crowded (state : McState) : State :=
  scheduled [{ tag := 1, due := 1, action := .pattern 3 7 }, { tag := 2, due := 1, action := .swap },
    { tag := 3, due := 1, action := .swap }, { tag := 4, due := 2, action := .swap }] (mapping state)

theorem witness_DueEntriesFire_boundary :
    ∀ state ∈ [McState.idle, .copying 7 9, .swapPending 1 9],
      let s := crowded state
      let fired := s.schedule.filter fun x => x.due = s.timing.sfn + 1
      s.freshBoundary ∧ s.mc.state = state ∧ s.notices.mask.getLsbD 3 = true
        ∧ { tag := 1, due := 1, action := .pattern 3 7 } ∈ fired
        ∧ (fired.filter fun x => x.action = .swap)
          = [{ tag := 2, due := 1, action := .swap }, { tag := 3, due := 1, action := .swap }] := by
  decide +kernel

/-- BOUNDARY fires the entries due and reports them in list order (R121, R124). -/
theorem test_boundary_fires :
    let t := fun state => after (.boundary ⟨[], []⟩) (crowded state)
    let reports := fun state => ((t state).notices.queue.map NoticeRecord.event).drop 1
    (t .idle).schedule = [{ tag := 4, due := 2, action := .swap }]
      ∧ reports .idle
        = [.scheduleDone 1 .pattern 1 .done, .scheduleDone 2 .swap 1 .done,
          .scheduleDone 3 .swap 1 .pageBusy]
      ∧ reports (.copying 7 9)
        = [.scheduleDone 1 .pattern 1 .done, .scheduleDone 2 .swap 1 .pageBusy,
          .scheduleDone 3 .swap 1 .pageBusy] := by decide +kernel

/-- Two scheduled values for one pattern: the later one stands and both are reported (R123, R124). -/
theorem test_scheduleFiring :
    let t := after .scheduleFiring patterned
    t.pattern 3 = { present := 0x7FFFFFFF, pending := none } ∧ t.schedule = []
      ∧ (t.notices.queue.map NoticeRecord.event)
        = [.restarted .powerOrPin, .scheduleDone 1 .pattern 1 .done, .scheduleDone 3 .pattern 1 .done] := by
  decide

/-- The firing is the Timing Unit's act: the SFN is N, REFERENCE stands behind SCHEDULE_DONE, and BOUNDARY numbers it no second time (R121). -/
theorem test_scheduleFiring_timing :
    let s := scheduled [{ tag := 1, due := 1, action := .swap }] (qualifying [0])
    let t := after .scheduleFiring s
    t.timing.sfn = 1 ∧ t.timing.selector = .primary 0
      ∧ (t.notices.queue.map NoticeRecord.event)
        = [.restarted .powerOrPin, .scheduleDone 1 .swap 1 .done, .reference .free .lockedPrimary 0 1]
      ∧ (after .scheduleFiring t).timing.sfn = 1
      ∧ (after (.boundary ⟨[], []⟩) t).timing.sfn = 1
      ∧ (after (.boundary ⟨[], []⟩) t).opening = closedOpening := by decide +kernel

/-- A due state with a move pending to `elsewhere` whose response has been sent. -/
def switching (lineLost : Bool) : State :=
  due (engined (fun q => { q with executor := .held })
    (linked (fun k =>
      { k with pendingMove := some elsewhere, transmitter := .stopped, lineLost := lineLost })
      (State.reset.withSwitch (State.reset.switch.joinLocation elsewhere))))

/-- A due state in TRIAL on `elsewhere`, formerly (0, 0, 1). -/
def onTrial (timer : Nat) (lineLost : Bool) : State :=
  due (linked (fun k =>
    { k with
      current := elsewhere, former := some (strapLocation resetStraps), state := .trial
      trialTimer := timer, lineLost := lineLost })
    (State.reset.withSwitch (State.reset.switch.joinLocation elsewhere)))

theorem witness_ChannelSwitches :
    ∀ lineLost : Bool,
      (switching lineLost).freshBoundary ∧ (switching lineLost).link.state = .settled
        ∧ (switching lineLost).link.pendingMove = some elsewhere
        ∧ (switching lineLost).link.transmitter = .stopped
        ∧ (switching lineLost).link.lineLost = lineLost
        ∧ (switching lineLost).link.current.width ≤ 4 ∧ elsewhere.width ≤ 4
        ∧ (switching lineLost).mc.state.rewriting = false
        ∧ (switching lineLost).notices.mask.getLsbD 5 = true := by decide

/-- BOUNDARY makes the switch, or the revert when the mark is set (R177, R180). -/
theorem test_boundary_switches :
    let t := fun lineLost => after (.boundary ⟨[], []⟩) (switching lineLost)
    (t false).link.current = elsewhere ∧ (t false).link.state = .trial
      ∧ (t false).link.trialTimer = 4096 ∧ (t false).engine.executor = .ready
      ∧ (t true).link.restsOn (strapLocation resetStraps) ∧ (t true).engine.executor = .ready
      ∧ entryAt (t true).switch.pageA 4 9 = .release
      ∧ ((t true).notices.queue.map NoticeRecord.event).getLast?
        = some (.channel true .lineLost (strapLocation resetStraps)) := by decide +kernel

/-- Chapter 10's boundary 40007: the trial begins with timer 4096 on (4, 8, 2), formerly (0, 0, 1). -/
theorem test_channelSwitch :
    let t := after .channelSwitch (switching false)
    t.link.current = elsewhere ∧ t.link.former = some (strapLocation resetStraps)
      ∧ t.link.state = .trial ∧ t.link.trialTimer = 4096 ∧ t.engine.executor = .ready := by
  decide

theorem test_channelSwitch_lost :
    let t := after .channelSwitch (switching true)
    t.link.current = strapLocation resetStraps ∧ t.link.pendingMove = none
      ∧ entryAt t.switch.pageA 4 8 = .release
      ∧ (t.notices.queue.map NoticeRecord.event).getLast?
        = some (.channel true .lineLost (strapLocation resetStraps)) := by decide

theorem witness_TrialEndsByRevert :
    ∀ lineLost : Bool,
      (onTrial 1 lineLost).freshBoundary ∧ (onTrial 1 lineLost).link.state = .trial
        ∧ (onTrial 1 lineLost).link.pendingMove = none
        ∧ (onTrial 1 lineLost).link.former = some (strapLocation resetStraps)
        ∧ (onTrial 1 lineLost).link.trialTimer = 1
        ∧ (onTrial 1 lineLost).link.lineLost = lineLost
        ∧ (onTrial 1 lineLost).mc.state.rewriting = false
        ∧ (onTrial 1 lineLost).notices.mask.getLsbD 5 = true := by decide

/-- BOUNDARY reverts, or counts the trial down (R178, R180). -/
theorem test_boundary_trial :
    let t := fun timer => after (.boundary ⟨[], []⟩) (onTrial timer false)
    (t 1).link.restsOn (strapLocation resetStraps) ∧ entryAt (t 1).switch.pageB 4 8 = .release
      ∧ ((t 1).notices.queue.map NoticeRecord.event).getLast?
        = some (.channel true .timeout (strapLocation resetStraps))
      ∧ (t 2).link.current = elsewhere ∧ (t 2).link.state = .trial
      ∧ (t 2).link.trialTimer = 1 := by decide +kernel

/-- The timer reaches 0 from 1, not from 2 (R178). -/
theorem test_trialTimeout :
    let t := after .trialTimeout (onTrial 1 false)
    t.link.current = strapLocation resetStraps ∧ t.link.state = .settled
      ∧ entryAt t.switch.pageB 4 9 = .release ∧ entryAt t.switch.pageB 0 0 = .control
      ∧ (after .trialTimeout (onTrial 2 false)).link = (onTrial 2 false).link := by decide +kernel

theorem test_lineLostRevert :
    let t := after .lineLostRevert (onTrial 3602 true)
    t.link.current = strapLocation resetStraps ∧ t.link.lineLost = false
      ∧ (t.notices.queue.map NoticeRecord.event).getLast?
        = some (.channel true .lineLost (strapLocation resetStraps))
      ∧ (after .lineLostRevert (onTrial 3602 false)).link = (onTrial 3602 false).link := by decide +kernel

/-- The state with a frame for the control line's store to take at the coming boundary. -/
def reading (s : State) : State :=
  stored s.link.current.line (fun e => { e with unread := [frameOf 0] }) s

/-- A due state with this response queue, these waiting requests and this cache. -/
def queued (responses : List Response) (requests : List Request) (cache : List Response) : State :=
  reading (due (engined fun q =>
    { q with responses := responses, requests := requests, cache := cache }))

/-- Requests with SEQ 11h to 14h. -/
def four : List Request :=
  [{ seq := 0x11, kind := 1, payload := [] }, { seq := 0x12, kind := 1, payload := [] },
    { seq := 0x13, kind := 1, payload := [] }, { seq := 0x14, kind := 1, payload := [] }]

/-- Six waiting responses with SEQ 21h to 26h. -/
def six : List Response :=
  [waiting 0x21, waiting 0x22, waiting 0x23, waiting 0x24, waiting 0x25, waiting 0x26]

theorem witness_IntakeClassifiesBySeq :
    let free := queued [] [] []
    let cached := queued [] [] [waiting 7]
    let cachedFull := queued six [] [waiting 7]
    let full := queued [] four []
    let allFull := queued six four []
    (∀ s ∈ [free, cached, cachedFull, full, allFull], s.freshBoundary ∧ s.link.steady
        ∧ (s.takenFrame s.link.current.line).isSome = true ∧ s.link.state = .settled)
      ∧ (∀ s ∈ [cached, cachedFull], s.engine.cache.find? (fun x => x.seq = 7) = some (waiting 7))
      ∧ (∀ s ∈ [free, cached, full], s.engine.responses.length < 6 ∧ s.engine.reserved = false)
      ∧ (∀ s ∈ [cachedFull, allFull], s.engine.responses.length = 6)
      ∧ (∀ s ∈ [free, full, allFull], (7 : Byte) ∉ s.engine.cache.map Response.seq)
      ∧ (∀ s ∈ [free, cached, cachedFull, full, allFull],
          (7 : Byte) ∉ s.engine.responses.map Response.seq ∧ (7 : Byte) ∉ s.engine.requests.map Request.seq
            ∧ s.mc.state.owner ≠ some 7)
      ∧ (0x22 : Byte) ∈ allFull.engine.responses.map Response.seq
      ∧ (0x12 : Byte) ∈ allFull.engine.requests.map Request.seq
      ∧ (operating (.swapPending 1 7)).mc.state.owner = some 7
      ∧ (reading (operating (.swapPending 1 7))).freshBoundary
      ∧ (reading (operating (.swapPending 1 7))).link.steady
      ∧ 1 ≤ (0x3F : Byte).toNat ∧ (0x3F : Byte).toNat ≤ 0x3F
      ∧ (List.replicate 60 (0 : Byte)).length ≤ 60 := by decide

/-- During the hold of a move and in TRIAL a message is delivered; at the switch, at a revert and where no frame is taken none is. -/
theorem witness_IntakeClassifiesBySeq_moves :
    let hold := reading (linked (fun k => { k with transmitter := .free }) (switching false))
    (∀ s ∈ [hold, reading (onTrial 2 false)], s.freshBoundary ∧ s.link.steady
        ∧ (s.takenFrame s.link.current.line).isSome = true)
      ∧ (∀ s ∈ [reading (switching false), reading (onTrial 1 false), reading (onTrial 2 true)],
          s.freshBoundary ∧ ¬ s.link.steady)
      ∧ (due).freshBoundary ∧ (due).takenFrame (due).link.current.line = none := by decide

/-- Appended, answered from the cache with the credit of the moment, answered QUEUE_FULL, or dropped (R144, R145). -/
theorem test_requestIntake :
    (after (.requestIntake 7 1 [9]) (queued [] [] [])).engine.requests
        = [{ seq := 7, kind := 1, payload := [9] }]
      ∧ (after (.requestIntake 7 1 [9]) (queued [] four [waiting 7])).engine.responses
        = [{ waiting 7 with credit := 0 }]
      ∧ newest (after (.requestIntake 7 1 [9]) (queued [] four [])) = some (.queueFull, [0])
      ∧ (after (.requestIntake 7 1 [9]) (queued six four [])).engine.droppedRequests = 1 := by
  decide

/-- The link takes the boundary whole: the response that waited is started in the frame whose octets brought the request, and BOUNDARY takes the link's act no second time (R165). -/
theorem test_requestIntake_wholeAct :
    let t := after (.requestIntake 7 1 [9]) (queued [waiting 2] [] [])
    t.opening.placed = [0xD5] ∧ t.opening.linkDone = true ∧ t.engine.requests.length = 1
      ∧ (after (.requestIntake 8 1 [9]) t).engine.requests.length = 1
      ∧ (after .identify t).engine.requests.length = 1
      ∧ ((after (.boundary ⟨[], []⟩) t).link.transmitter.octetsLeft) = t.link.transmitter.octetsLeft := by
  decide +kernel

/-- A due state in TRIAL with a frame to read, its notice head waiting, outstanding or stalled. -/
def tried (state : SendState) : State :=
  let s := reading (onTrial 2 false)
  if state = .waiting then s
  else noticed (fun n => { n with state := state }) (outstanding 9 4 s)

theorem witness_GoodMessageConfirmsTheTrial :
    ∀ state ∈ [SendState.waiting, .outstanding, .stalled],
      (tried state).freshBoundary ∧ (tried state).link.state = .trial
        ∧ (tried state).link.pendingMove = none
        ∧ (tried state).link.former = some (strapLocation resetStraps)
        ∧ (tried state).link.lineLost = false ∧ 1 < (tried state).link.trialTimer
        ∧ ((tried state).takenFrame (tried state).link.current.line).isSome = true := by
  decide

/-- The Notice Unit after the CHANNEL event: its state, and its head's number where it was sent; kinds at the ends of their ranges. -/
theorem witness_GoodMessageConfirmsTheTrial_heads :
    let n := fun state =>
      (tried state).takeStores.notices.raise (.channel false .confirmed elsewhere)
    (n .waiting).state = .waiting ∧ (n .outstanding).state = .outstanding
      ∧ (n .stalled).state = .stalled ∧ (n .outstanding).headNumber = some 0
      ∧ (n .stalled).headNumber = some 0 ∧ (n .stalled).headNumber ≠ some 1
      ∧ 1 ≤ (0x01 : Byte).toNat ∧ (0x3F : Byte).toNat ≤ 0x3F ∧ ([] : List Byte).length ≤ 60
      ∧ 0x3F < (0x40 : Byte).toNat ∧ (0x40 : Byte) ≠ 0x60 := by decide

/-- A due state in TRIAL whose receiver holds a Notice Ack up to its first check octet, with a frame of this octet in every slot. -/
def ending (octet : Byte) : State :=
  stored 4 (fun e => { e with unread := [List.replicate 32 (octet.setWidth 32)] })
    (linked (fun k =>
      { k with receiver := .check 2 [7, 0x60] (some ((crc [2, 7, 0x60]).extractLsb' 8 8)) })
      (onTrial 2 false))

/-- The last check octet of that message. -/
def lastCheck : Byte :=
  (crc [2, 7, 0x60]).extractLsb' 0 8

theorem witness_GoodMessageConfirmsTheTrial_boundary :
    let s := ending lastCheck
    let frame := List.replicate 32 (lastCheck.setWidth 32)
    (∀ u ∈ [s, ending (lastCheck + 1), onTrial 2 false], u.freshBoundary ∧ u.link.state = .trial
        ∧ u.link.pendingMove = none ∧ u.link.former = some (strapLocation resetStraps)
        ∧ u.link.lineLost = false ∧ 1 < u.link.trialTimer ∧ u.notices.mask.getLsbD 5 = true)
      ∧ (onTrial 2 false).takenFrame 4 = none ∧ s.link.current = elsewhere
      ∧ s.takenFrame 4 = some frame ∧ elsewhere.first.val < frame.length
      ∧ s.link.receiver = .check 2 (7 :: 0x60 :: []) (some ((crc [2, 7, 0x60]).extractLsb' 8 8))
      ∧ (crc [2, 7, 0x60]).extractLsb' 8 8
          ++ (((frame.getD elsewhere.first.val 0)
            >>> ((s.port 4).record.width.bits - 8)).setWidth 8 : Byte) = crc [2, 7, 0x60]
      ∧ (ending (lastCheck + 1)).takeStores.headParts.readFrame.link.state = .trial := by
  decide +kernel

/-- BOUNDARY reads the last check octet: the move is confirmed; a wrong octet leaves the trial going on (R169, R178, R179). -/
theorem test_boundary_confirms :
    let t := after (.boundary ⟨[], []⟩) (ending lastCheck)
    let u := after (.boundary ⟨[], []⟩) (ending (lastCheck + 1))
    t.link.restsOn elsewhere ∧ entryAt t.switch.pageA 0 0 = .release
      ∧ (t.notices.queue.map NoticeRecord.event).getLast? = some (.channel false .confirmed elsewhere)
      ∧ u.link.state = .trial ∧ u.link.trialTimer = 1 ∧ u.link.checkErrors = 1 := by decide +kernel

/-- An ack of the outstanding head in TRIAL confirms the move and removes the head (R179, R195). -/
theorem test_noticeAck_trial :
    let t := after (.noticeAck 0) (outstanding 9 1 (reading (onTrial 2 false)))
    t.link.state = .settled ∧ t.link.former = none ∧ entryAt t.switch.pageB 0 0 = .release
      ∧ t.notices.queue.map NoticeRecord.event = [.channel false .confirmed elsewhere] := by
  decide

theorem witness_AcksAndForeignKinds :
    let out := reading (due (outstanding 9 1))
    let lost := reading (due (noticed (fun n => { n with lost := 3 }) (outstanding 9 1)))
    let stalled := reading (due (noticed (fun n => { n with state := .stalled }) (outstanding 0 4)))
    let idle := reading (due (noticed fun n => { n with queue := [], state := .idle }))
    let hold := reading (linked (fun k => { k with transmitter := .free }) (switching false))
    (∀ s ∈ [out, lost, stalled, idle, hold], s.freshBoundary ∧ s.link.state = .settled
        ∧ s.link.steady ∧ (s.takenFrame s.link.current.line).isSome = true
        ∧ s.takeStores.notices = s.notices)
      ∧ out.notices.state = .outstanding ∧ out.notices.headNumber = some 0 ∧ out.notices.lost = 0
      ∧ lost.notices.state = .outstanding ∧ lost.notices.headNumber = some 0 ∧ lost.notices.lost ≠ 0
      ∧ stalled.notices.state = .stalled ∧ stalled.notices.headNumber ≠ some 1
      ∧ stalled.notices.headNumber = some 0
      ∧ out.notices.headNumber ≠ some 1 ∧ idle.notices.state = .idle
      ∧ hold.notices.state = .waiting ∧ hold.link.pendingMove.isSome = true
      ∧ 0x3F < (0x40 : Byte).toNat ∧ (0x40 : Byte) ≠ 0x60 ∧ (0 : Byte) ≠ 0x60 := by decide

/-- The ack of number 00h removes the announcement (chapter 12's session); another one does not. -/
theorem test_noticeAck :
    let s := reading (due (outstanding 9 1))
    let t := after (.noticeAck 0) s
    t.notices.queue = [] ∧ t.notices.state = .idle ∧ t.notices.nextNumber = 1
      ∧ (after (.noticeAck 1) s).notices = s.notices
      ∧ (after (.noticeAck 0) (due (outstanding 9 1))).notices = s.notices := by
  decide

/-- A foreign message is counted, and one of KIND 60h is none (R170). -/
theorem test_foreignKind :
    (after (.foreignKind 0) (reading due)).link.foreignKinds = 1
      ∧ (after (.foreignKind 0xFF) (reading due)).link.foreignKinds = 1
      ∧ (after (.foreignKind 0x60) (reading due)).link = (due).link := by decide

/-- A due state in which this many octets of a message are left. -/
def sending (owner : MessageOwner) (hold : Bool) (left : Nat) : State :=
  due (linked (fun k =>
    { k with
      transmitter := .sending { owner := owner, octets := [0xD5, 2, 3, 4, 5, 6], hold := hold } (6 - left) })
    (engined (fun q => { q with responses := [waiting 1, waiting 2] })
      (noticed (fun n =>
        { n with queue := [{ event := .restarted .powerOrPin, number := some 0 }], nextNumber := 1 }))))

theorem witness_LastOctetEndsTheMessage :
    ∀ owner ∈ [MessageOwner.response, .notice],
      let s := sending owner false 1
      s.freshBoundary ∧ s.link.steady
        ∧ s.link.transmitter
          = .sending { owner := owner, octets := [0xD5, 2, 3, 4, 5, 6], hold := false } 5
        ∧ 5 < 6 ∧ 6 - 5 ≤ s.link.current.width := by decide

/-- The last octet of the Move Channel response with its move pending, and of a response in TRIAL, a frame read at both. -/
theorem witness_LastOctetEndsTheMessage_moves :
    let ends := fun s : State => reading (linked (fun k =>
      { k with
        transmitter := .sending
          { owner := .response, octets := [0xD5, 2, 3, 4, 5, 6], hold := true } 5 }) s)
    let pending := ends (switching false)
    let trial := ends (onTrial 2 false)
    (∀ s ∈ [pending, trial], s.freshBoundary ∧ s.link.steady
        ∧ (s.takenFrame s.link.current.line).isSome = true ∧ 6 - 5 ≤ s.link.current.width
        ∧ s.link.transmitter
          = .sending { owner := .response, octets := [0xD5, 2, 3, 4, 5, 6], hold := true } 5)
      ∧ pending.link.pendingMove = some elsewhere ∧ trial.link.state = .trial
      ∧ (after .messageEnd pending).link.transmitter = .stopped
      ∧ (after .messageEnd trial).link.trialTimer = 1 := by decide +kernel

/-- A pending move, a trial that goes on and one that ends, a message begun in each: the laws hold, and the location that is not current carries idle fill (R54). -/
theorem witness_BoundaryBuildsOutputFrames_moves :
    let begun := fun s : State => ported 4 (fun p =>
        { p with record := { p.record with rxOn := true, txOn := true } })
      (linked (fun k =>
        { k with
          transmitter := .sending
            { owner := .response, octets := [0xD5, 2, 3, 4, 5, 6], hold := false } 2 }) s)
    let octetsAt := fun (s : State) (line : Line) (slot : Nat) =>
      match ((after (.boundary ⟨[], []⟩) s).port line).tx with
      | .sending f _ => f.slots[slot]?
      | _ => none
    let pending := begun (switching false)
    let trial := begun (onTrial 2 false)
    let ending := begun (onTrial 1 false)
    (∀ s ∈ [pending, trial, ending], s.freshBoundary ∧ s.linkLaw ∧ s.mapLaw ∧ s.lineLaw
        ∧ s.link.transmitter
          = .sending { owner := .response, octets := [0xD5, 2, 3, 4, 5, 6], hold := false } 2
        ∧ 2 < 6)
      ∧ (octetsAt pending 0 0, octetsAt pending 4 8) = (some (.word 3), some (.word 0))
      ∧ (octetsAt trial 0 0, octetsAt trial 4 9) = (some (.word 0), some (.word 4))
      ∧ (octetsAt ending 0 0, octetsAt ending 4 8) = (some (.word 0xD5), some (.word 0))
      ∧ ending.link.state = .trial ∧ ending.link.trialTimer = 1 := by decide +kernel

/-- A hold-marked response leaves its queue and stops the transmitter; a message with two octets left does not end (R172, R174). -/
theorem test_messageEnd :
    let t := after .messageEnd (sending .response true 1)
    t.link.transmitter = .stopped ∧ t.engine.responses = [waiting 2] ∧ t.opening.placed = [6]
      ∧ (after .messageEnd (sending .response true 2)).link = (sending .response true 2).link
      ∧ (after .messageEnd (sending .notice false 1)).notices.timer = 256 := by decide

/-- The transmitter mid message, at its last octet, STOPPED, FREE with nothing, with a response, with a notice after four responses and with a notice alone. -/
theorem witness_LastOctetEndsTheMessage_slots :
    let free := linked (fun k => { k with transmitter := .free }) (sending .response false 1)
    let four := linked (fun k => { k with inARow := 4 }) free
    let none_ : State → State := fun s =>
      noticed (fun n => { n with queue := [], state := .idle }) s
    ((sending .notice true 2).link.transmitter.octetsLeft, (sending .response true 1).link.transmitter.octetsLeft)
        = (2, 1)
      ∧ (switching false).link.transmitter = .stopped
      ∧ (none_ State.reset).link.transmitter = .free ∧ (none_ State.reset).engine.responses = []
      ∧ ¬ ((none_ State.reset).notices.state = .waiting ∧ (none_ State.reset).notices.queue ≠ [])
      ∧ free.link.transmitter = .free ∧ free.engine.responses = waiting 1 :: [waiting 2]
      ∧ free.link.inARow < 4 ∧ ¬ ((none_ free).notices.state = .waiting)
      ∧ 4 ≤ four.link.inARow ∧ four.notices.state = .waiting
      ∧ four.notices.queue = { event := .restarted .powerOrPin, number := some 0 } :: []
      ∧ State.reset.engine.responses = [] ∧ State.reset.notices.state = .waiting
      ∧ State.reset.notices.queue = { event := .restarted .powerOrPin, number := none } :: [] := by
  decide

/-- Chapter 12's session: the announcement starts as number 00h in output frame 1, two octets in each frame (R173, R193). -/
theorem test_announcement :
    let s := due (after (.powerUp { ctlLine := 0, ctlW := true, ctlFmt := 0 } true) State.reset)
    let t := after (.boundary ⟨[], []⟩) s
    t.notices.queue = [{ event := .restarted .powerOrPin, number := some 0 }]
      ∧ t.notices.nextNumber = 1 ∧ t.link.transmitter.octetsLeft = 5
      ∧ (match (t.port 0).tx with
          | .sending f _ => f.slots.take 3
          | _ => []) = [.word 0xD5, .word 0x03, .released] := by decide +kernel

theorem witness_EventsReachTheNoticeQueue :
    let n := State.reset.notices
    let slip : NoticeRecord := { event := .slip 2 0 1 9003, number := none }
    let merging : NoticeUnit := { n with
      queue := [{ event := .restarted .powerOrPin, number := none }] ++ slip :: [] }
    let full : NoticeUnit := { n with
      queue := List.replicate 16 { event := .restarted .powerOrPin, number := none } }
    (Event.alignment 1 true 5).enabled 0x3E = false ∧ (Event.alignment 1 true 5).enabled n.mask = true
      ∧ (Event.slip 2 1 0 9007).enabled merging.mask = true
      ∧ (∀ r ∈ [({ event := .restarted .powerOrPin, number := none } : NoticeRecord)], r.openSlip 2 = false)
      ∧ (∀ r ∈ n.queue, r.openSlip 2 = false) ∧ n.queue.length < 16
      ∧ 16 ≤ full.queue.length ∧ (∀ r ∈ full.queue, r.openSlip 2 = false) := by decide

/-- Chapter 11's boundary 9007: a repeat slip merges into the never-sent record. -/
theorem test_slipMerges :
    (({ State.reset.notices with
          queue := [{ event := .slip 2 0 1 9003, number := none }] } : NoticeUnit).raise
        (.slip 2 1 0 9007)).queue
      = [{ event := .slip 2 1 1 9003, number := none }] := by decide

/-! ### The message frame -/

/-- A hunting receiver, a payload of 60 octets; a frame newly taken and one repeated; a BODY that a boundary goes on with. -/
theorem witness_ReceiverReadsEveryMessage :
    let taken : State → State := fun s =>
      stored 0 (fun e => { e with newly := true, current := some (frameOf 7) }) s
    let body := linked (fun k => { k with receiver := .body 5 [1, 2, 3] }) (reading due)
    State.reset.link.receiver = .hunt ∧ (List.replicate 60 (0xD5 : Byte)).length ≤ 60
      ∧ (State.reset.store 0).newly = false ∧ (State.reset.store 0).current = none
      ∧ ((taken State.reset).store 0).newly = true
      ∧ ((taken State.reset).store 0).current = some (frameOf 7)
      ∧ State.reset.link.current.first.val + State.reset.link.current.width ≤ (frameOf 7).length
      ∧ body.freshBoundary ∧ body.link.resting ∧ body.takenFrame 0 = some (frameOf 0)
      ∧ [(1 : Byte), 2, 3].length + body.link.current.width < (5 : Byte).toNat := by decide

/-- The receiver reads back a request octet by octet. -/
theorem test_receiverReads :
    ((messageOctets 7 1 [0xD5, 9]).foldl State.receive State.reset).engine.requests
      = [{ seq := 7, kind := 1, payload := [0xD5, 9] }] := by decide +kernel

theorem witness_ReceiverCountsDamage :
    State.reset.link.receiver = .hunt
      ∧ 2 ≤ [(7 : Byte), 1].length ∧ (List.replicate 62 (0 : Byte)).length ≤ 62
      ∧ (0 : Byte) ++ (0 : Byte) ≠ crc [2, 7, 1]
      ∧ (0 : Byte) ++ (0 : Byte) ≠ crc (62 :: List.replicate 62 (0 : Byte))
      ∧ (linked fun k => { k with receiver := .length }).link.receiver = .length
      ∧ 2 ≤ (2 : Byte).toNat ∧ (62 : Byte).toNat ≤ 62 ∧ (1 : Byte).toNat < 2 ∧ 62 < (63 : Byte).toNat
      ∧ (0xD4 : Byte) ≠ 0xD5 := by decide +kernel

/-! ### Line time -/

/-- Line 0 with its framer in this state, holding `bits` zero bits, the level of RXSYNC sampled before low. -/
def framed (state : FramerState) (confirm miss bits : Nat) (s : State := State.reset) : State :=
  ported 0 (fun p =>
    { p with
      rx := { state := state, confirm := confirm, miss := miss, bits := List.replicate bits false } }) s

/-- Line 0 with one slot of 8 bits and its framer in this state: a line frame of 8 bits. -/
def short (state : FramerState) (confirm miss bits : Nat) : State :=
  framed state confirm miss bits (ported 0 fun p => { p with record := { p.record with slots := 1 } })

theorem witness_BitPeriods : (1 : Line) ≠ 0 := by decide

/-- Line 0 locked, an 8-bit frame in progress with this many bits collected. -/
def lockedAt (bits : Nat) (f : Timing → Timing) : State :=
  timed (fun t => f { t with selector := .primary 0, startSeen := true }) (short .aligned 0 0 bits)

/-- At the half-frame point, half a line frame after a boundary with lock pending, past twice the free period, at the expected position, and on another line. -/
theorem witness_HalfFramePointPlacesTheBoundary :
    (∀ s ∈ [lockedAt 4 id, lockedAt 4 (fun t => { t with lockPending := some 0, lineBits := 4 }),
        lockedAt 4 (fun t => { t with refclk := 12288 }), lockedAt 8 id,
        lockedAt 1 (fun t => { t with selector := .primary 1 })],
      s.held = false ∧ (s.port 0).rx.state = .aligned ∧ s.timing.offLine = none
        ∧ (s.port 0).syncWas = false ∧ (s.port 0).record.frameBits = 8 ∧ (s.port 0).rx.miss ≤ 1)
      ∧ (∀ s ∈ [lockedAt 4 id, lockedAt 8 id], s.timing.selector.line = some 0
        ∧ s.timing.lockPending ≠ some 0 ∧ s.timing.startSeen = true
        ∧ s.timing.refclk < 2 * s.timing.periodInForce.toNat)
      ∧ ((lockedAt 4 id).port 0).rx.bits.length = 4 ∧ ((lockedAt 8 id).port 0).rx.bits.length = 8
      ∧ (lockedAt 1 (fun t => { t with selector := .primary 1 })).timing.selector.line ≠ some 0 := by
  decide

/-- The fifth bit period of an 8-bit frame reaches the half-frame point, but not past twice the free period; frame starts at a pulse and at a flywheel end count (R102, R105). -/
theorem test_halfFramePoint :
    let low := fun s => (after (.flywheelFrameEnd 0 [] true) s).timing
    (low (lockedAt 4 id)).pointReached = true ∧ (low (lockedAt 3 id)).pointReached = false
      ∧ (low (lockedAt 4 fun t => { t with refclk := 12287 })).pointReached = true
      ∧ (low (lockedAt 4 fun t => { t with refclk := 12288 })).pointReached = false
      ∧ (low (lockedAt 8 fun t => { t with startSeen := false })).startSeen = true
      ∧ (after (.pulse 0 [] true) (lockedAt 8 id)).timing.pointReached = false
      ∧ (after (.pulse 0 [] true) (lockedAt 8 id)).timing.lineBits = 1 := by decide

/-- The bit period that places the boundary, without and with lock pending, and bit periods that do not. -/
theorem witness_BoundaryFallsWhereItIsPlaced_within :
    (∀ s ∈ [lockedAt 4 id, lockedAt 4 (fun t => { t with lockPending := some 0, lineBits := 4 })],
        s.held = false ∧ s.opening.isOpen = false ∧ s.timing.selector.line = some 0
          ∧ s.timing.stall = false ∧ (s.port 0).rx.state = .aligned ∧ s.timing.pointReached = false
          ∧ s.timing.offLine = none ∧ s.timing.refclk < 2 * s.timing.periodInForce.toNat
          ∧ (s.port 0).rx.bits.length = (s.port 0).record.frameBits / 2
          ∧ s.placesBoundary 0 = true ∧ s.openingLaw)
      ∧ (∀ s ∈ [lockedAt 3 id, lockedAt 4 (fun t => { t with startSeen := false }),
            lockedAt 4 (fun t => { t with lockPending := some 0, lineBits := 3 }),
            lockedAt 4 (fun t => { t with pointReached := true }),
            lockedAt 4 (fun t => { t with refclk := 12288 })],
          s.timing.selector.line = some 0 ∧ s.placesBoundary 0 = false ∧ s.openingLaw)
      ∧ (∀ s ∈ [lockedAt 3 id, lockedAt 4 (fun t => { t with startSeen := false })],
          s.timing.placed = false ∧ s.held = false ∧ s.opening.isOpen = false) := by decide

/-- A third miss in the bit period that places the boundary: taken before it, the line is lost and the store empty; taken after it, the boundary has fallen with the line ALIGNED (R91, R104). -/
theorem test_boundary_within :
    let s := stored 0 (fun e => { e with unread := [[1]] })
      (framed .aligned 0 2 4 (lockedAt 4 fun t => { t with qualify := t.qualify.set 0 5 }))
    let first := after (.pulse 0 [] true) s
    let last := after (.boundary ⟨[], [⟨0, ⟨true, true⟩, none⟩]⟩) s
    first.timing.offLine = some 0 ∧ first.timing.sfn = 0 ∧ first.boundaryDue = false
      ∧ (first.store 0).unread = []
      ∧ last.timing.sfn = 1 ∧ last.timing.selector = .primary 0 ∧ last.timing.qualify[0] = 6
      ∧ (last.store 0).current = some [1] ∧ (last.port 0).rx.state = .hunt
      ∧ last.timing.offLine = some 0
      ∧ (last.notices.queue.map NoticeRecord.event).getLast? = some (.alignment 0 false 1) := by
  decide +kernel

/-- The restart boundary falls in a bit period with RXSYNC high: the control line's framer hunts from the next one on (R80). -/
theorem test_boundary_withinRestart :
    let s := linked (fun k => { k with transmitter := .stopped }) (lockedAt 4 id)
    let t := after (.boundary ⟨[], [⟨0, ⟨true, true⟩, none⟩]⟩) s
    (t.port 0).rx = { state := .hunt, confirm := 0, miss := 0, bits := [] }
      ∧ t.notices.queue = [{ event := .restarted .request, number := none }] := by decide +kernel

/-- A due state whose control line hands over a lead-in in every slot, its receiver in the middle of a message, two misses counted. -/
def losing : State :=
  linked (fun k => { k with receiver := .body 6 [1] })
    (stored 0 (fun e => { e with unread := [List.replicate 32 0xD5] })
      (framed .aligned 0 2 8 (due)))

/-- The loss falls together with the boundary: before it there is no frame to read; after the store and before the link the octet is taken by a hunting receiver; after the link it is lost with the message (R91, R169). The Timing Unit counts the line where it takes the boundary before the loss (R100). -/
theorem test_boundary_lossWithin :
    let at_ := fun before => after (.boundary ⟨[.store 0], [⟨0, ⟨true, true⟩, before⟩]⟩) losing
    ((at_ (some (.store 0))).link.receiver, ((at_ (some (.store 0))).store 0).current) = (.hunt, none)
      ∧ (at_ (some .link)).link.receiver = .length
      ∧ ((at_ (some .link)).store 0).current = some (List.replicate 32 0xD5)
      ∧ ((at_ (some .link)).store 0).taken = false
      ∧ (at_ none).link.receiver = .hunt ∧ ((at_ none).store 0).newly = true
      ∧ ((at_ (some .timing)).timing.qualify[0], (at_ (some .link)).timing.qualify[0]) = (0, 1)
      ∧ ((at_ (some .timing)).notices.queue.map NoticeRecord.event)
        = [.restarted .powerOrPin, .alignment 0 false 0]
      ∧ ((at_ (some .link)).notices.queue.map NoticeRecord.event)
        = [.restarted .powerOrPin, .alignment 0 false 1] := by decide +kernel

/-- A misplaced pulse as the third miss. -/
theorem witness_MissesLoseAlignment_within :
    losing.freshBoundary ∧ losing.link.resting ∧ (losing.port 0).rx.state = .aligned
      ∧ losing.link.current.line = 0 ∧ (losing.port 0).rx.miss = 2
      ∧ (losing.port 0).syncWas = false
      ∧ (losing.port 0).rx.bits.length < (losing.port 0).record.frameBits
      ∧ 1 ≤ (losing.port 0).rx.bits.length ∧ losing.notices.mask.getLsbD 0 = true := by decide +kernel

theorem witness_HuntingAndConfirmingFramer_hunt :
    let s := framed .hunt 0 0 0
    s.held = false ∧ (s.port 0).rx.state = .hunt
      ∧ (s.port 0).syncWas = false
      ∧ ((ported 0 (fun p => { p with syncWas := true }) s).port 0).syncWas = true := by decide

/-- At the expected position and one bit before it, with confirm counts 0 and 1. -/
theorem witness_HuntingAndConfirmingFramer_confirm :
    (∀ c ∈ [0, 1], (short .confirm c 0 8).held = false
        ∧ ((short .confirm c 0 8).port 0).rx.state = .confirm
        ∧ ((short .confirm c 0 8).port 0).syncWas = false
        ∧ ((short .confirm c 0 8).port 0).rx.confirm = c
        ∧ ((short .confirm c 0 8).port 0).record.frameBits
          ≤ ((short .confirm c 0 8).port 0).rx.bits.length)
      ∧ ¬ ((short .confirm 0 0 7).port 0).record.frameBits
          ≤ ((short .confirm 0 0 7).port 0).rx.bits.length
      ∧ ((ported 0 (fun p => { p with syncWas := true }) (short .confirm 0 0 7)).port 0).syncWas
        = true := by decide

/-- At reset line 1 is off. -/
theorem witness_HuntingAndConfirmingFramer_off :
    State.reset.held = false ∧ (State.reset.port 1).rx.state = .off := by decide

/-- Three pulses eight bit periods apart align an 8-bit frame and raise ALIGNMENT(gained) (R64, R65). -/
theorem test_pulse :
    let gap := List.replicate 7 { sync := false, data := true }
    let s := short .hunt 0 0 0
    let t := after (.pulse 0 gap false) (after (.pulse 0 gap false) (after (.pulse 0 [] false) s))
    (t.port 0).rx = { state := .aligned, confirm := 0, miss := 0, bits := [false] }
      ∧ (t.store 0).unread = []
      ∧ (t.notices.queue.map NoticeRecord.event).getLast? = some (.alignment 0 true 0) := by decide

/-- A flywheel frame end hands on the sample 7Fh and counts a miss; the first bit is the most significant (R66, R68). -/
theorem test_flywheelFrameEnd :
    let s := ported 0 (fun p =>
      { p with rx := { p.rx with bits := false :: List.replicate 7 true } }) (short .aligned 0 0 8)
    let t := after (.flywheelFrameEnd 0 [] true) s
    (t.store 0).unread = [[0x7F]]
      ∧ (t.port 0).rx = { state := .aligned, confirm := 0, miss := 1, bits := [true] } := by decide

/-- The state in which RXSYNC of line 0 was sampled high. -/
def held (s : State) : State :=
  ported 0 (fun p => { p with syncWas := true }) s

/-- RXSYNC held high gives no pulse: a bit is collected, the expected position passes, or the third miss comes (R62, R66, R67). -/
theorem test_pulse_heldHigh :
    let t := fun miss bits => (after (.pulse 0 [] true) (held (short .aligned 0 miss bits))).port 0
    (t 1 7).rx = { state := .aligned, confirm := 0, miss := 1, bits := List.replicate 7 false ++ [true] }
      ∧ (t 1 8).rx = { state := .aligned, confirm := 0, miss := 2, bits := [true] }
      ∧ (t 2 8).rx.state = .hunt := by decide

theorem witness_FrameEndHandsOnTheFrame :
    let s := short .aligned 0 1 8
    let full := stored 0 (fun e => { e with unread := [[1], [2]] }) s
    s.held = false ∧ (s.port 0).rx.state = .aligned
      ∧ (s.port 0).record.frameBits ≤ (s.port 0).rx.bits.length ∧ (s.port 0).syncWas = false
      ∧ (held s).held = false ∧ ((held s).port 0).syncWas = true ∧ ((held s).port 0).rx = (s.port 0).rx
      ∧ (s.port 0).rx.miss ≤ 1 ∧ (s.store 0).unread.length < 2
      ∧ full.held = false ∧ (full.port 0) = (s.port 0)
      ∧ 2 ≤ (full.store 0).unread.length := by decide

/-- A third frame deletes the oldest and raises SLIP (chapter 5: f104 discarded). -/
theorem test_pulse_deleteSlip :
    let s := stored 0 (fun e => { e with unread := [[0x04], [0x05]] }) (short .aligned 0 0 8)
    let t := after (.pulse 0 [] false) s
    (t.store 0).unread = [[0x05], [0x00]] ∧ (t.store 0).deletes = 1
      ∧ (t.notices.queue.map NoticeRecord.event).getLast? = some (.slip 0 0 1 0) := by decide

theorem witness_SamplesKeepTheirBits :
    32 ≤ 32 ∧ (List.replicate 64 true).length = 2 * 32 ∧ 1 < 2 ∧ 31 < 32 := by decide

/-- A misplaced pulse, and an expected position without one. -/
theorem witness_MissesLoseAlignment_third :
    ∀ bits ∈ [7, 8],
      let s := short .aligned 0 2 bits
      s.held = false ∧ (s.port 0).rx.state = .aligned
        ∧ (s.port 0).rx.miss = 2 ∧ (s.port 0).syncWas = false
        ∧ (decide (bits = 7) = true ↔ (s.port 0).rx.bits.length < (s.port 0).record.frameBits)
        ∧ ¬ ((held (short .aligned 0 2 8)).port 0).rx.bits.length
          < ((held (short .aligned 0 2 8)).port 0).record.frameBits
        ∧ ((held (short .aligned 0 2 8)).port 0).syncWas = true := by
  decide

/-- A misplaced pulse before the third miss, and a bit period without a pulse at any miss count. -/
theorem witness_MissesLoseAlignment_misplaced :
    (∀ miss ∈ [0, 1, 2], ∀ s ∈ [short .aligned 0 miss 7, held (short .aligned 0 miss 0)],
        s.held = false ∧ (s.port 0).rx.state = .aligned
          ∧ (s.port 0).rx.bits.length < (s.port 0).record.frameBits) ∧
    ∀ miss ∈ [0, 1],
      let s := short .aligned 0 miss 7
      s.held = false ∧ (s.port 0).rx.state = .aligned
        ∧ (s.port 0).rx.miss ≤ 1 ∧ (s.port 0).syncWas = false
        ∧ (s.port 0).rx.bits.length < (s.port 0).record.frameBits := by decide

/-- The third miss: HUNT, unread frames gone, the loss counted; the locked line goes to REFCLK (R67, R92, R104). -/
theorem test_flywheelFrameEnd_loss :
    let s := timed (fun t => { t with selector := .primary 0 })
      (stored 0 (fun e => { e with unread := [[1]], current := some [3], taken := true })
        (short .aligned 0 2 8))
    let t := after (.flywheelFrameEnd 0 [] true) s
    (t.port 0).rx = { state := .hunt, confirm := 0, miss := 0, bits := [] }
      ∧ (t.port 0).losses = 1 ∧ (t.store 0).unread = [] ∧ (t.store 0).current = some [3]
      ∧ (t.store 0).taken = false ∧ t.timing.offLine = some 0 := by decide

/-- A loss after the half-frame point, and one after twice the free period, leave the boundary where it was settled (R104, R105). -/
theorem test_flywheelFrameEnd_lossSettled :
    let s := fun f => (after (.flywheelFrameEnd 0 [] true)
      (timed (fun t => f { t with selector := .primary 0 }) (short .aligned 0 2 8))).timing
    (s fun t => { t with pointReached := true }).offLine = none
      ∧ (s fun t => { t with pointReached := true }).pointReached = true
      ∧ (s fun t => { t with refclk := 12288 }).offLine = none
      ∧ (s fun t => { t with refclk := 12287 }).offLine = some 12287 := by decide

/-- A frame of one slot holding A5h and one released slot. -/
def shown : OutFrame :=
  { number := 1, width := .w8, slots := [.word 0xA5, .released] }

/-- Before the last bit, with it on the pins, and with no period passing. -/
theorem witness_TransmitFramerSendsItsFrame :
    let s := fun next => ported 0 fun p => { p with tx := .sending shown next }
    ((ported 0 fun p => { p with tx := .waiting }).port 0).tx = .waiting
      ∧ (State.reset.port 0).tx = .off
      ∧ shown.slots.length * shown.width.bits = 16
      ∧ ((s 15).port 0).tx = .sending shown 15 ∧ 15 ≤ 16 ∧ 16 < 15 + 2 ∧ 15 + 1 ≤ 16
      ∧ ((s 16).port 0).tx = .sending shown 16 ∧ 16 ≤ 16 ∧ 16 < 16 + 1
      ∧ ((s 0).port 0).tx = .sending shown 0 ∧ 1 ≤ 16 ∧ 0 + 16 ≤ 16 := by decide

/-- The bits of A5h in turn, TXSYNC in the first, then an undriven slot with its last bit sent, then WAITING (R70 to R72). -/
theorem test_txFrameEnd :
    let s := ported 0 fun p => { p with tx := .sending shown 0 }
    let at_ := fun n => (after (.txFrameEnd 0 n) s).port 0
    ((at_ 1).txSync, (at_ 1).txData) = (.high, .high)
      ∧ ((at_ 2).txSync, (at_ 2).txData) = (.low, .low)
      ∧ ((at_ 8).txSync, (at_ 8).txData) = (.low, .high)
      ∧ ((at_ 9).txSync, (at_ 9).txData) = (.low, .undriven)
      ∧ (at_ 16).tx = .sending shown 16 ∧ (at_ 17).tx = .waiting := by decide

/-- The last bit of a driven frame is on TXDATA for its period (R70, R71). -/
theorem test_txFrameEnd_lastBit :
    let one : OutFrame := { number := 1, width := .w8, slots := [.word 0x01] }
    let s := ported 0 fun p => { p with tx := .sending one 0 }
    let at_ := fun n => (after (.txFrameEnd 0 n) s).port 0
    (at_ 7).txData = .low ∧ (at_ 8).txData = .high ∧ (at_ 8).txSync = .low
      ∧ ((at_ 9).tx, (at_ 9).txSync, (at_ 9).txData) = (.waiting, .low, .undriven) := by decide

theorem witness_WidthConversion :
    (0xA1B2 : Word).toNat < 2 ^ Width.w16.bits ∧ (0xFFFFFFFF : Word).toNat < 2 ^ Width.w32.bits := by
  decide

/-- A store with a current frame and a store without one. -/
theorem witness_WidthConversion_source :
    ((stored 1 fun e => { e with current := some [0xA1, 0xB2] }).store 1).current
        = some [0xA1, 0xB2]
      ∧ (State.reset.store 1).current = none := by decide

/-- The table of chapter 3's output frame 7000. -/
theorem test_convert :
    convert .w16 .w8 .high 0xA1B2 = 0xA1 ∧ convert .w32 .w8 .low 0x12345678 = 0x78
      ∧ convert .w24 .w8 .high 0x3C5A96 = 0x3C ∧ convert .w16 .w24 .high 0xA1B2 = 0xA1B200
      ∧ convert .w16 .w24 .low 0xA1B2 = 0x00A1B2 ∧ convert .w32 .w24 .high 0x12345678 = 0x123456
      ∧ convert .w24 .w16 .low 0x3C5A96 = 0x5A96 ∧ convert .w16 .w16 .low 0x1234 = 0x1234 := by decide

/-! ### Requests: shared rules and reports -/

/-- A request at the head of the queue after reset is one the executor takes. -/
theorem witness_takes (kind : Byte) (payload : List Byte) :
    (asking kind payload).takes (asked kind payload) [] :=
  ⟨rfl, rfl, rfl, (by decide : (0 : Nat) < 6), rfl⟩

/-- The fifth response waits; one more place is left, and the executor still takes. -/
theorem witness_takes_lastPlace :
    (engined (fun q => { q with responses := six.drop 1 }) (asking 1 [])).takes (asked 1 []) [] := by
  decide

theorem witness_UnfitRequestsAreRefused :
    (asked 0x02 [0]).payload.length ≠ 0 ∧ (asked 0x18 []).kind ≠ 0x02
      ∧ (asked 0x04 []).kind ∉ ([0x01, 0x02, 0x03, 0x08, 0x09, 0x0A, 0x10, 0x11, 0x18, 0x19, 0x1A, 0x1B,
        0x20, 0x21, 0x22, 0x23, 0x28, 0x29, 0x2A, 0x30, 0x31, 0x38, 0x39, 0x3C, 0x3D] : List Byte) := by
  decide

theorem test_unknownKind : answerOf .unknownKind 0x3F [1, 2] = some (.unknownKind, [0]) := by decide

/-- The first value out of range of each checked field. -/
theorem witness_UnfitRequestsAreRefused_values :
    8 ≤ (8 : Byte).toNat ∧ (7 : Byte).toNat < 8 ∧ 2 ≤ (2 : Byte).toNat ∧ (0 : Byte).toNat < 1
      ∧ 13 < (14 : Byte).toNat ∧ 64 ≤ (64 : Byte).toNat
      ∧ 64 < (63 : Byte).toNat + (2 : Byte).toNat ∧ 16 ≤ (16 : Byte).toNat ∧ 4 ≤ (4 : Byte).toNat
      ∧ (3 : Byte).toNat < 4 := by decide

theorem test_badValues :
    answerOf .readStats 0x0A [8, 2] = some (.badValue, [0])
      ∧ answerOf .readStats 0x0A [7, 2] = some (.badValue, [1])
      ∧ answerOf .readEntries 0x19 [1, 7, 63, 2] = some (.badValue, [0])
      ∧ answerOf .getPattern 0x1B [16] = some (.badValue, [0])
      ∧ answerOf .readProbe 0x31 [4, 0] = some (.badValue, [0])
      ∧ answerOf .readProbe 0x31 [3, 2] = some (.badValue, [1])
      ∧ answerOf .getLink 0x39 [2] = some (.badValue, [0]) := by decide

theorem witness_EchoReturnsItsPayload :
    (asked 0x01 (List.replicate 58 7)).payload.length ≤ 58
      ∧ 58 < (asked 0x01 (List.replicate 59 7)).payload.length := by decide

theorem test_echo :
    answerOf .echo 0x01 [9, 8, 7] = some (.ok, [9, 8, 7])
      ∧ answerOf .echo 0x01 (List.replicate 59 7) = some (.badLength, [59]) := by decide

/-- Identify of chapter 12's session. -/
theorem test_identify :
    answerOf .identify 0x02 [] = some (.ok, [0x80, 0x64, 0x01, 8, 64, 16, 4, 8, 4, 6, 16]) := by decide

theorem test_getLine :
    answerOf .getLine 0x09 [0] = some (.ok, [0, 1, 1, 32, 8, 1, 0, 1, 0, 0, 0, 0])
      ∧ answerOf .getLine 0x09 [8] = some (.badValue, [0]) := by decide

theorem test_getTiming :
    answerOf .getTiming 0x11 []
      = some (.ok, [0, 0xFF, 0xFF, 0, 0xFF, 0, 0x18, 0, 0, 0, 0, 0, 0, 0, 0, 0, 0, 0, 0, 0]) := by decide

theorem test_getPattern :
    answerOf .getPattern 0x1B [3] (State.reset.setPatternAt 3 { present := 0x00FF00FF, pending := some 1 })
      = some (.ok, [3, 0x00, 0xFF, 0x00, 0xFF, 1, 0, 0, 0, 1]) := by decide

/-- Get Pages of chapter 2's request 4Ah. -/
theorem test_getPages :
    answerOf .getPages 0x23 []
        ((State.reset.withSwitch { State.reset.switch with active := .b }).withMc
          { state := .copying 3 0x48, lastSwap := some 5001, endFrame := some 5011 })
      = some (.ok, [1, 1, 3, 0x48, 0, 0, 0, 0, 1, 0, 0, 0x13, 0x93, 1, 0, 0, 0x13, 0x89]) := by decide

theorem test_listSchedule :
    answerOf .listSchedule 0x2A []
        (State.reset.withSchedule [{ tag := 2, due := 20050, action := .swap },
          { tag := 1, due := 20100, action := .pattern 3 0x00FF00FF }])
      = some (.ok, [2, 2, 0, 0, 0, 0, 0x4E, 0x52, 1, 1, 3, 0, 0, 0x4E, 0x84]) := by decide

theorem test_getNotices :
    answerOf .getNotices 0x3D [] = some (.ok, [0x3F, 1, 0, 1, 1, 0, 0, 0]) := by decide

theorem witness_ReportsReadTheState_entries :
    let busy := mapping (.copying 0 9)
    1 ≤ 13 ∧ 13 ≤ 13 ∧ 51 + 13 ≤ 64 ∧ State.reset.mc.state.rewriting = false
      ∧ busy.mc.state.rewriting = true := by decide

theorem test_readEntries :
    answerOf .readEntries 0x19 [1, 0, 0, 2] = some (.ok, [1, 0, 0, 2, 3, 0, 0, 0, 0, 0, 0, 0])
      ∧ answerOf .readEntries 0x19 [1, 0, 0, 2] (mapping (.copying 0 9)) = some (.pageBusy, [0]) := by
  decide

/-- Read Stats of chapter 5's line 2 with its clear flag set. -/
theorem test_readStats :
    let s := stored 2 (fun e => { e with repeats := 2, deletes := 1 })
      (ported 2 fun p => { p with losses := 2 })
    answerOf .readStats 0x0A [2, 1] s = some (.ok, [2, 0, 2, 0, 2, 0, 1])
      ∧ ((after .readStats (asking 0x0A [2, 1] s)).store 2).repeats = 0 := by decide

theorem test_getLink :
    let s := linked fun k => { k with checkErrors := 5 }
    answerOf .getLink 0x39 [1] s
        = some (.ok, [0, 0, 0, 1, 0, 0, 0, 0, 0, 0, 5, 0, 0, 0, 0, 0, 0, 0, 0])
      ∧ (after .getLink (asking 0x39 [1] s)).link.checkErrors = 0 := by decide

theorem test_readProbe :
    let s := State.reset.setProbeAt 3
      { armed .matching .rx with
        hits := 2, last := some .released, capture := some { frame := 5100, seen := .word 0x80 } }
    answerOf .readProbe 0x31 [3, 1] s
        = some (.ok, [3, 2, 0, 0, 0, 0, 0, 0, 0xA0, 0, 0, 0, 0xF0, 0, 0, 0, 2, 2, 0, 0, 0, 0, 1, 0, 0,
          0x13, 0xEC, 0, 0, 0, 0x80])
      ∧ ((after .readProbe (asking 0x31 [3, 1] s)).probe 3).capture = none := by decide

/-! ### Requests: settings -/

theorem witness_SetLineWritesTheRecord :
    let old := (State.reset.port 1).record
    let record : LineRecord := { old with rxOn := true, slots := 64, width := .w16 }
    1 ≤ record.slots ∧ record.slots ≤ 64
      ∧ (∀ loc ∈ State.reset.link.locations, loc.line ≠ 1)
      ∧ old.rxOn = false ∧ old.txOn = false ∧ ¬ record.slots < old.slots
      ∧ (asked 0x08 [1, 1, 0, 64, 16, 1, 0]).payload =
        [BitVec.ofNat 8 (1 : Line).val, if record.rxOn then 1 else 0, if record.txOn then 1 else 0,
          BitVec.ofNat 8 record.slots, BitVec.ofNat 8 record.width.bits, record.loss.code,
          BitVec.ofNat 8 record.lossPattern.val] := by decide

/-- An entry on transmit line 3 that names (6, 20). -/
def naming : State :=
  State.reset.withSwitch { State.reset.switch with
    pageB := putEntry State.reset.switch.pageB 3 7 (.slot 6 20 .high) }

theorem witness_SetLineWritesTheRecord_refusals :
    (∃ loc ∈ State.reset.link.locations, loc.line = 0)
      ∧ ((serving 1 32 .w16).port 1).record.rxOn = true
      ∧ (naming.port 6).record.rxOn = false ∧ (naming.port 6).record.txOn = false
      ∧ 20 < (naming.port 6).record.slots
      ∧ entryAt (naming.switch.page .b) 3 7 = .slot 6 20 .high := by decide

/-- Check 1 at the first and the last field, and a record that turns the locked line's receive side off. -/
theorem witness_SetLineWritesTheRecord_places :
    [false, false, true, true, true, true, true].idxOf? false = some 0
      ∧ [true, true, true, true, true, true, false].idxOf? false = some 6
      ∧ ((16 : Byte).toNat ≤ 15) = False ∧ ¬ (8 : Byte).toNat ≤ 7
      ∧ (locked (.primary 1) (serving 1 32 .w8)).timing.selector.line = some 1
      ∧ ((locked (.primary 1) (serving 1 32 .w8)).port 1).record.rxOn = true
      ∧ (timed (fun t => { t with selector := .primary 1 }) (serving 1 32 .w8)).timing.pointReached
        = false := by decide

/-- Turned off, the locked line leaves the boundary to REFCLK, unless its point was reached before (R104). -/
theorem test_setLine_lockedLine :
    let off := fun f => (after .setLine (asking 0x08 [1, 0, 0, 32, 8, 1, 0]
      (timed f (serving 1 32 .w8)))).timing.offLine
    off (fun t => { t with selector := .primary 1, refclk := 5 }) = some 5
      ∧ off (fun t => { t with selector := .primary 1, pointReached := true }) = none
      ∧ off (fun t => { t with selector := .primary 2 }) = none := by decide

/-- Set Line of chapter 12's session: line 1 starts hunting. -/
theorem test_setLine :
    answerOf .setLine 0x08 [1, 1, 1, 32, 16, 1, 4] = some (.ok, [1, 1, 1, 32, 16, 1, 4])
      ∧ ((after .setLine (asking 0x08 [1, 1, 1, 32, 16, 1, 4])).port 1).rx.state = .hunt := by decide

/-- The checks of Set Line, each at the first place it refuses (R75, R76). -/
theorem test_setLine_refusals :
    answerOf .setLine 0x08 [1, 1, 1, 65, 7, 1, 4] = some (.badValue, [3])
      ∧ answerOf .setLine 0x08 [0, 0, 1, 32, 8, 1, 0] = some (.reserved, [0])
      ∧ answerOf .setLine 0x08 [1, 1, 1, 31, 16, 1, 0] (serving 1 32 .w16) = some (.lineActive, [3])
      ∧ answerOf .setLine 0x08 [6, 1, 1, 20, 8, 1, 0] naming = some (.inUse, [3]) := by decide

theorem witness_SettingsAreWritten :
    (some 5 : Option Line) ≠ some 2 ∧ 256 ≤ (256 : Half).toNat
      ∧ (none : Option Line) ≠ some 7 := by decide

/-- The first check that fails, at each place. -/
theorem witness_SettingsAreWritten_refusals :
    (∀ check : Fin 5, ((List.replicate check.val true) ++ [false]
        ++ List.replicate (4 - check.val) true).idxOf? false = some check.val)
      ∧ ¬ (8 : Byte).toNat ≤ 7 ∧ (0xFF : Byte).toNat ≠ 8 ∧ ¬ (2 : Byte).toNat ≤ 1
      ∧ ¬ 256 ≤ 256 * (0 : Byte).toNat + (255 : Byte).toNat ∧ 16 ≤ (16 : Byte).toNat
      ∧ ¬ (4 : Byte).toNat ≤ 3 ∧ ¬ (3 : Byte).toNat ≤ 2 ∧ ¬ (64 : Byte).toNat ≤ 63 := by decide

/-- Set Reference's checks in their order (R110). -/
theorem test_setReference_refusals :
    answerOf .setReference 0x10 [8, 8, 2, 0, 0] = some (.badValue, [0])
      ∧ answerOf .setReference 0x10 [2, 8, 2, 0, 0] = some (.badValue, [1])
      ∧ answerOf .setReference 0x10 [2, 0xFF, 2, 0, 0] = some (.badValue, [2])
      ∧ answerOf .setPattern 0x1A [16, 0, 0, 0, 0] = some (.badValue, [0]) := by decide

theorem test_setReference :
    answerOf .setReference 0x10 [2, 5, 1, 1, 0] = some (.ok, [2, 5, 1, 1, 0, 0, 0, 0, 1])
      ∧ answerOf .setReference 0x10 [2, 2, 1, 1, 0] = some (.badValue, [1])
      ∧ answerOf .setReference 0x10 [2, 0xFF, 1, 0, 255] = some (.badValue, [3]) := by decide

/-- Set Pattern of chapter 12's session: the value is pending, present from frame 301. -/
theorem test_setPattern :
    let s := timed fun t => { t with sfn := 300 }
    answerOf .setPattern 0x1A [4, 0x55, 0xAA, 0x33, 0xCC] s = some (.ok, [4, 0, 0, 1, 0x2D])
      ∧ (after .setPattern (asking 0x1A [4, 0x55, 0xAA, 0x33, 0xCC] s)).pattern 4
        = { present := 0, pending := some 0x55AA33CC } := by decide

/-- Chapter 8's probe 0: CHANGE, RX, line 2, slot 5. -/
theorem test_setProbe :
    let s := timed fun t => { t with sfn := 9000 }
    answerOf .setProbe 0x30 [0, 1, 0, 2, 5, 0, 0, 0, 0, 0, 0, 0, 0] s = some (.ok, [0, 0, 0, 0x23, 0x29])
      ∧ answerOf .setProbe 0x30 [0, 3, 2, 2, 5, 0, 0, 0, 0, 0, 0, 0, 0] = some (.badValue, [1]) := by
  decide

theorem witness_SetNoticesWritesMaskAndInterval :
    (0x3F : Byte) &&& 0xC0 = 0 ∧ 16 ≤ (16 : Half).toNat ∧ (4096 : Half).toNat ≤ 4096
      ∧ (0x40 : Byte) &&& 0xC0 ≠ 0 ∧ (15 : Half).toNat < 16 ∧ 4096 < (4097 : Half).toNat := by decide

theorem test_setNotices :
    answerOf .setNotices 0x3C [0x3E, 0, 16] = some (.ok, [0x3E, 0, 16])
      ∧ answerOf .setNotices 0x3C [0x40, 0, 15] = some (.badValue, [0])
      ∧ answerOf .setNotices 0x3C [0x3E, 0x10, 1] = some (.badValue, [1]) := by decide

/-! ### Requests: the map and the schedule -/

/-- The last 14 slots of a line, and the first slot of one. -/
theorem witness_WriteEntriesStoresItsEntries :
    let entries : List Entry := List.replicate 14 (.slot 1 31 .low)
    1 ≤ entries.length ∧ entries.length ≤ 14 ∧ 50 + entries.length ≤ 64
      ∧ State.reset.mc.state = .idle
      ∧ (∀ slot : Slot, 50 ≤ slot.val → slot.val < 50 + entries.length →
          State.reset.management 3 slot = false)
      ∧ (∀ e ∈ entries, e ≠ .control ∧ State.reset.sourceAllowed e = true) := by decide

theorem witness_WriteEntriesStoresItsEntries_refusals :
    let fits := fun (count : Byte) (octets : List Byte) =>
      octets.length = 4 * count.toNat ∧ 1 ≤ count.toNat ∧ count.toNat ≤ 14
    let inRange := fun line start count : Byte =>
      line.toNat < 8 ∧ start.toNat < 64 ∧ start.toNat + count.toNat ≤ 64
    ¬ fits 0 [] ∧ ¬ fits 2 [0, 0, 0, 0] ∧ fits 1 [0, 0, 0, 0]
      ∧ ¬ inRange 8 0 1 ∧ ¬ inRange 0 63 2 ∧ inRange 7 63 1 ∧ inRange 0 0 1
      ∧ (mapping (.swapPending 9 9)).mc.state ≠ .idle
      ∧ (0 : Line).val = (0 : Byte).toNat ∧ [(0 : Byte), 0].length < 3 := by decide

/-- Each check of R11 at the value where it first fails, and an entry that passes before it. -/
theorem witness_WriteEntriesStoresItsEntries_entries :
    let refusal := State.reset.entryRefusal
    refusal 3 0 (1, 0, 31, 1) = none ∧ refusal 0 0 (0, 0, 0, 0) = some .reserved
      ∧ refusal 3 1 (3, 0, 0, 0) = some .reserved ∧ refusal 3 1 (4, 0, 0, 0) = some .badValue
      ∧ refusal 3 1 (1, 8, 0, 0) = some .badValue ∧ refusal 3 1 (1, 1, 32, 0) = some .badValue
      ∧ refusal 3 1 (1, 1, 64, 0) = some .badValue ∧ refusal 3 1 (1, 0, 0, 2) = some .reserved
      ∧ refusal 3 1 (1, 1, 0, 2) = some .badValue ∧ refusal 3 1 (2, 16, 0, 0) = some .badValue
      ∧ refusal 3 1 (2, 15, 0, 2) = some .badValue ∧ refusal 3 1 (0, 9, 9, 9) = none := by decide

/-- Chapter 1's lines 1 and 6. -/
def chapterOne : State :=
  serving 6 32 .w24 (serving 1 32 .w16 (State.reset))

/-- Requests 41h to 43h of chapter 1. -/
theorem test_writeEntries :
    let ask := fun e1 e3 : List Byte =>
      [3, 4, 5] ++ [1, 1, 0, 1] ++ e1 ++ [2, 2, 0, 0] ++ e3 ++ [0, 0, 0, 0]
    answerOf .writeEntries 0x18 (ask [1, 1, 1, 1] [1, 6, 40, 1]) chapterOne = some (.badValue, [3])
      ∧ answerOf .writeEntries 0x18 (ask [1, 0, 0, 1] [1, 6, 20, 1]) chapterOne = some (.reserved, [1])
      ∧ answerOf .writeEntries 0x18 (ask [1, 1, 1, 1] [1, 6, 20, 1]) chapterOne = some (.ok, [1])
      ∧ entryAt
          (after .writeEntries
            (asking 0x18 (ask [1, 1, 1, 1] [1, 6, 20, 1]) chapterOne)).switch.standbyPage 3 7
        = .slot 6 20 .high := by decide

/-- A payload of 0 and of 2 octets (R9). -/
theorem test_writeEntries_short :
    answerOf .writeEntries 0x18 [] = some (.badLength, [0])
      ∧ answerOf .writeEntries 0x18 [3, 4] = some (.badLength, [2]) := by decide

theorem witness_PageOperationsAreAccepted :
    State.reset.mc.state = .idle ∧ (mapping (.copying 7 1)).mc.state ≠ .idle
      ∧ (mapping (.clearing 0 1)).mc.state ≠ .idle
      ∧ (mapping (.swapPending 1 1)).mc.state ≠ .idle := by decide

theorem test_copyPage :
    let t := after .copyPage (asking 0x20 [] (timed fun t => { t with sfn := 5003 }))
    t.mc = { state := .copying 0 7, lastSwap := none, endFrame := some 5011 }
      ∧ t.engine.reserved = true ∧ newest t = none := by decide

theorem test_clearPage :
    (after .clearPage (asking 0x21 [])).mc.state = .clearing 0 7
      ∧ answerOf .clearPage 0x21 [] (mapping (.swapPending 1 9)) = some (.pageBusy, [3]) := by decide

theorem test_swapPages :
    (after .swapPages (asking 0x22 [] (timed fun t => { t with sfn := 5099 }))).mc.state
        = .swapPending 5100 7
      ∧ answerOf .swapPages 0x22 [] (mapping (.copying 1 9)) = some (.pageBusy, [1]) := by decide

theorem witness_AddScheduleInsertsInOrder :
    let s := State.reset.withSchedule [{ tag := 1, due := 100, action := .swap }]
    s.scheduleLaw ∧ s.schedule.length < 8
      ∧ 2 ≤ ((2 : Word) - s.timing.sfn).toNat ∧ ((0x1000000 : Word) - s.timing.sfn).toNat ≤ 2 ^ 24 := by
  decide

theorem witness_AddScheduleInsertsInOrder_refusals :
    ((1 : Word) - 0).toNat ≤ 1 ∧ 2 ^ 31 < ((0x80000001 : Word) - 0).toNat
      ∧ 2 ^ 24 < ((0x1000001 : Word) - 0).toNat ∧ ((0x80000000 : Word) - 0).toNat ≤ 2 ^ 31
      ∧ 8 ≤ (List.replicate 8 ({ tag := 1, due := 9, action := .swap } : ScheduleEntry)).length
      ∧ 2 ≤ (2 : Byte).toNat ∧ 16 ≤ (16 : Byte).toNat := by decide

/-- Chapter 7's requests 50h and 52h: behind the entry due at the same frame, with tag 3. -/
theorem test_addSchedule :
    let s := (timed fun t => { t with sfn := 20001 }).withSchedule
      [{ tag := 2, due := 20050, action := .swap }, { tag := 1, due := 20100, action := .pattern 3 0x00FF00FF }]
    let ask : List Byte := [0, 0, 0x4E, 0x84, 1, 3, 0x7F, 0xFF, 0xFF, 0xFF]
    answerOf .addSchedule 0x28 ask s = some (.ok, [3, 0, 0, 0x4E, 0x84, 0, 0, 0, 99, 3])
      ∧ (after .addSchedule (asking 0x28 ask s)).schedule.map ScheduleEntry.tag = [2, 1, 3] := by decide

/-- Chapter 7's four refusals at SFN 20001. -/
theorem test_addSchedule_refusals :
    let s := timed fun t => { t with sfn := 20001 }
    let ask := fun d : Word => wordOctets d ++ [0, 0, 0, 0, 0, 0]
    answerOf .addSchedule 0x28 (ask 20001) s = some (.tooLate, [0])
      ∧ answerOf .addSchedule 0x28 (ask 20002) s = some (.tooLate, [0])
      ∧ answerOf .addSchedule 0x28 (ask 19990) s = some (.tooLate, [0])
      ∧ answerOf .addSchedule 0x28 (ask 16797218) s = some (.tooFar, [0]) := by decide

theorem witness_CancelScheduleRemovesTheEntry :
    let e : ScheduleEntry := { tag := 2, due := 20050, action := .swap }
    let s := State.reset.withSchedule ([{ tag := 1, due := 9, action := .swap }] ++ e :: [])
    s.schedule = [{ tag := 1, due := 9, action := .swap }] ++ e :: [] ∧ e.tag = (2 : Byte).toNat
      ∧ (∀ x ∈ [({ tag := 1, due := 9, action := .swap } : ScheduleEntry)], x.tag ≠ (2 : Byte).toNat)
      ∧ (∀ x ∈ s.schedule, x.tag ≠ (0 : Byte).toNat) := by decide

/-- Chapter 7's request 57h. -/
theorem test_cancelSchedule :
    let s := State.reset.withSchedule [{ tag := 2, due := 20050, action := .swap }]
    answerOf .cancelSchedule 0x29 [2] s = some (.ok, [2, 0, 0, 0, 0, 0x4E, 0x52])
      ∧ answerOf .cancelSchedule 0x29 [1] s = some (.notFound, [0]) := by decide

/-! ### Requests: the channel and the restarts -/

theorem witness_MoveChannelIsAccepted :
    let s := serving 4 32 .w8
    let p := s.port elsewhere.line
    1 ≤ elsewhere.width ∧ elsewhere.width ≤ 4 ∧ elsewhere.first.val + elsewhere.width ≤ p.record.slots
      ∧ s.link.state = .settled ∧ p.record.rxOn = true ∧ p.record.txOn = true ∧ p.rx.state = .aligned
      ∧ elsewhere.first.val + elsewhere.width ≤ 64
      ∧ (∀ slot : Slot, elsewhere.covers elsewhere.line slot = true →
          s.link.current.covers elsewhere.line slot = false)
      ∧ (∀ slot : Slot, elsewhere.covers elsewhere.line slot = true →
          entryAt (s.switch.page .a) elsewhere.line slot = .release
            ∧ entryAt (s.switch.page .b) elsewhere.line slot = .release)
      ∧ s.link.current.first.val + s.link.current.width ≤ 64 ∧ 1 ≤ s.link.current.width := by decide

/-- At reset no entry of either page is a SLOT entry, so none names a source in the new location. -/
theorem witness_MoveChannelIsAccepted_sources :
    ∀ (l : Line) (t : Slot),
      Entry.namesSource elsewhere (entryAt (serving 4 32 .w8).switch.pageA l t) = false
        ∧ Entry.namesSource elsewhere (entryAt (serving 4 32 .w8).switch.pageB l t) = false := by
  decide

theorem witness_MoveChannelIsAccepted_refusals :
    (onTrial 9 false).link.state = .trial
      ∧ State.reset.link.state = .settled ∧ State.reset.link.current.line = 0
      ∧ 0 < State.reset.link.current.first.val + State.reset.link.current.width
      ∧ State.reset.link.current.first.val < 0 + 1
      ∧ (State.reset.port 4).record.rxOn = false
      ∧ ((ported 4 (fun p => { p with rx := { p.rx with state := .confirm } })
          (serving 4 32 .w8)).port 4).rx.state ≠ .aligned := by decide

/-- An entry at a new transmit position, and one that names a new receive position. -/
theorem witness_MoveChannelIsAccepted_inUse :
    let put := fun line slot e => (serving 4 32 .w8).withSwitch { (serving 4 32 .w8).switch with
      pageB := putEntry (serving 4 32 .w8).switch.pageB line slot e }
    entryAt ((put 4 9 (.pattern 0 .low)).switch.page .b) 4 9 ≠ .release
      ∧ elsewhere.covers 4 9 = true
      ∧ entryAt ((put 2 0 (.slot 4 8 .low)).switch.page .b) 2 0 = .slot 4 8 .low
      ∧ elsewhere.covers 4 8 = true
      ∧ answerOf .moveChannel 0x38 [4, 8, 2] (put 4 9 (.pattern 0 .low)) = some (.inUse, [0])
      ∧ answerOf .moveChannel 0x38 [4, 8, 2] (put 2 0 (.slot 4 8 .low)) = some (.inUse, [1]) := by
  decide

/-- Chapter 10's request 70h, and its refusals in check order. -/
theorem test_moveChannel :
    let s := serving 4 32 .w8
    let t := after .moveChannel (asking 0x38 [4, 8, 2] s)
    newest t = some (.ok, [4, 8, 2]) ∧ t.link.pendingMove = some elsewhere ∧ t.engine.executor = .held
      ∧ entryAt t.switch.pageA 4 9 = .control := by decide

theorem test_moveChannel_refusals :
    let s := serving 4 32 .w8
    answerOf .moveChannel 0x38 [4, 31, 2] s = some (.badValue, [1])
      ∧ answerOf .moveChannel 0x38 [4, 31, 5] s = some (.badValue, [2])
      ∧ answerOf .moveChannel 0x38 [0, 0, 2] s = some (.overlap, [0])
      ∧ answerOf .moveChannel 0x38 [1, 0, 1] s = some (.notReady, [3])
      ∧ answerOf .moveChannel 0x38 [4, 8, 2] (onTrial 9 false) = some (.moveBusy, [0]) := by decide

theorem witness_RestartFullOnlyAnswersAndHolds :
    (asked 0x03 [1]).payload = [1] ∧ (0 : Byte) ≠ 1 ∧ (3 : Byte) ≠ 2 := by decide

theorem test_restartFull :
    let t := after .restartFull (asking 0x03 [1])
    newest t = some (.ok, [1]) ∧ t.engine.executor = .held
      ∧ answerOf .restartFull 0x03 [2] = none ∧ answerOf .restartFull 0x03 [3] = some (.badValue, [0]) := by
  decide

theorem witness_RestartSwitchRebuildsTheCrossConnect :
    (asked 0x03 [2]).payload = [2] ∧ (operating (.copying 3 9)).mc.state = .copying 3 9
      ∧ (operating (.clearing 3 9)).mc.state = .clearing 3 9
      ∧ (operating (.swapPending 3 9)).mc.state = .swapPending 3 9 := by decide

/-- The copy in flight is answered ABORTED with its progress, then the restart OK (R39, R160). -/
theorem test_restartSwitch :
    let t := after .restartSwitch (asking 0x03 [2] (operating (.copying 3 9)))
    t.engine.responses.map (fun r => (r.kind, r.seq, r.status, r.data))
        = [(0xA0, 9, .aborted, [3]), (0x83, 7, .ok, [2])]
      ∧ t.engine.reserved = false ∧ t.mc.state = .idle := by decide

/-! ### Laws every step keeps -/

theorem witness_StepsKeepTheLaws_link :
    State.reset.linkLaw ∧ State.reset.holdLaw ∧ State.reset.sendLaw :=
  ⟨by decide, by decide, trivial⟩

theorem witness_StepsKeepTheLaws_lines :
    State.reset.storeLaw ∧ State.reset.formatLaw ∧ State.reset.lineLaw ∧ State.reset.timingLaw
      ∧ State.reset.openingLaw :=
  ⟨by decide, by decide, by decide, by decide, by decide⟩

theorem witness_StepsKeepTheLaws_queues :
    State.reset.scheduleLaw ∧ State.reset.queueLaw ∧ State.reset.seqLaw ∧ State.reset.notices.law
      ∧ State.reset.payloadLaw :=
  ⟨by decide, by decide, by decide, by decide, by simp [State.payloadLaw, State.reset,
    restartEngine, restartLink, Receiver.law]⟩

theorem witness_StepsKeepTheLaws_step : ∃ t, step State.reset = .next t :=
  ⟨_, rfl⟩

theorem witness_StepsKeepTheLaws_maps : State.reset.mapLaw ∧ State.reset.sourceLaw := by
  decide

theorem witness_WhatOnlySomeCommandsChange :
    let s := State.reset.setProbeAt 2
      { armed .change .rx with capture := some { frame := 5, seen := .released } }
    (s.probe 2).capture = some { frame := 5, seen := .released }
      ∧ (∃ t, exec (.boundary ⟨[], []⟩) (due s) = .next t) ∧ (due s).restartDue = false
      ∧ (due s).boundaryDue = true ∧ (due s).opening.timingDone = false ∧ s.boundaryDue = false
      ∧ Instr.boundary ⟨[], []⟩ ≠ .setProbe ∧ Instr.boundary ⟨[], []⟩ ≠ .readProbe
      ∧ Instr.boundary ⟨[], []⟩ ≠ .restartSwitch := by
  refine ⟨by decide, ⟨_, rfl⟩, by decide, by decide, by decide, by decide, nofun, nofun, nofun⟩

/-- A firing that numbers the boundary, and the BOUNDARY behind it. -/
theorem witness_WhatOnlySomeCommandsChange_firing :
    let s := scheduled [{ tag := 1, due := 1, action := .swap }]
    let t := after .scheduleFiring s
    s.numberedDue = true ∧ s.opening.timingDone = false
      ∧ (∃ e ∈ s.schedule, e.due = s.timing.sfn + 1)
      ∧ t.boundaryDue = true ∧ t.opening.timingDone = true ∧ t.restartDue = false
      ∧ (lockedAt 4 id).placesBoundary 0 = true ∧ (lockedAt 4 id).opening.timingDone = false
      ∧ (lockedAt 4 id).timing.selector.line = some 0
      ∧ (⟨0, ⟨true, true⟩, none⟩ : Coincidence) ∈ (BoundaryOrder.mk [] [⟨0, ⟨true, true⟩, none⟩]).within := by
  decide

end Sys2Proof.Tests
end

section
/-! SUPPORT. What an entry of a page is after each of the model's writes to the pages. -/

namespace Sys2Proof.Machine

/-! ### Entries of a page after the writes of the model -/

@[simp] theorem entryAt_writeWhere (test : Line → Slot → Bool) (e : Entry) (p : Page) (line : Line)
    (slot : Slot) :
    entryAt (writeWhere test e p) line slot = if test line slot then e else entryAt p line slot := by
  simp [entryAt, writeWhere]

@[simp] theorem entryAt_blankPage (locations : List Location) (line : Line) (slot : Slot) :
    entryAt (blankPage locations) line slot
      = if coveredBy locations line slot then .control else .release := by
  simp [entryAt, blankPage, coveredBy]

theorem entryAt_set (p : Page) (line l : Line) (entries : Vector Entry 64) (slot : Slot) :
    entryAt (p.set line entries) l slot = if l = line then entries[slot] else entryAt p l slot := by
  by_cases h : l = line
  · subst h; simp [entryAt]
  · have hv : line.val ≠ l.val := fun hv => h (Fin.ext hv.symm)
    simp [entryAt, h, hv]

theorem entryAt_putEntry (p : Page) (line l : Line) (slot t : Slot) (e : Entry) :
    entryAt (putEntry p line slot e) l t
      = if l = line ∧ t = slot then e else entryAt p l t := by
  rw [putEntry, entryAt_set]
  by_cases hl : l = line
  · subst hl
    by_cases ht : t = slot
    · subst ht; simp
    · have hv : slot.val ≠ t.val := fun hv => ht (Fin.ext hv.symm)
      simp [entryAt, ht, hv]
  · simp [hl]

@[simp] theorem Switch.page_onBoth (w : Switch) (f : Page → Page) (name : PageName) :
    (w.onBoth f).page name = f (w.page name) := by
  cases name <;> rfl

@[simp] theorem Switch.page_swapped (w : Switch) (name : PageName) :
    w.swapped.page name = w.page name := by
  cases name <;> rfl

theorem Switch.page_withStandby (w : Switch) (p : Page) (name : PageName) :
    (w.withStandby p).page name = if name = w.active.other then p else w.page name := by
  unfold Switch.withStandby
  cases name <;> cases w.active <;> rfl

@[simp] theorem Switch.page_blankSwitch (locations : List Location) (name : PageName) :
    (blankSwitch locations).page name = blankPage locations := by
  cases name <;> rfl

end Sys2Proof.Machine
end

section
/-! SUPPORT. What the laws of the map read of a state, and the acts that change none of it. -/

namespace Sys2Proof.Machine

/-! ### What the laws of the map read -/

/-- All that the laws of the map read of a state: the link's locations and its fields beside them, the executor, both pages and each line's S (R3 to R6, R164). -/
structure MapView where
  current : Location
  state : LinkState
  pendingMove : Option Location
  former : Option Location
  trialTimer : Nat
  executor : Executor
  pageA : Page
  pageB : Page
  slots : Vector Nat 8

/-- What the laws of the map read of this state. -/
def State.mapView (s : State) : MapView :=
  { current := s.link.current, state := s.link.state, pendingMove := s.link.pendingMove
    former := s.link.former, trialTimer := s.link.trialTimer, executor := s.engine.executor
    pageA := s.switch.pageA, pageB := s.switch.pageB
    slots := s.ports.map fun p => p.record.slots }

/-- What an act that leads from `s` to `t` does to the laws of the map: each that stands before it stands after it (R4, R6, R164). -/
structure State.KeepsMap (s t : State) : Prop where
  link : s.linkLaw → t.linkLaw
  map : s.linkLaw → s.mapLaw → t.mapLaw
  source : s.sourceLaw → t.sourceLaw

theorem State.KeepsMap.refl (s : State) : s.KeepsMap s :=
  ⟨id, fun _ h => h, id⟩

theorem State.KeepsMap.trans {s t u : State} (h : s.KeepsMap t) (h' : t.KeepsMap u) : s.KeepsMap u :=
  ⟨fun hl => h'.link (h.link hl), fun hl hm => h'.map (h.link hl) (h.map hl hm),
    fun hs => h'.source (h.source hs)⟩

/-- An entry may stand at a position: CONTROL just at management positions, and no forbidden source (R4, R6). -/
def State.entryFits (s : State) (line : Line) (slot : Slot) (e : Entry) : Prop :=
  (e = .control ↔ s.management line slot = true) ∧ s.sourceAllowed e = true

theorem State.mapLaw_iff (s : State) :
    s.mapLaw ↔ ∀ (name : PageName) (line : Line) (slot : Slot),
      entryAt (s.switch.page name) line slot = .control ↔ s.management line slot = true := by
  constructor
  · intro h name line slot
    cases name with
    | a => exact (h line slot).1
    | b => exact (h line slot).2
  · exact fun h line slot => ⟨h .a line slot, h .b line slot⟩

theorem State.sourceLaw_iff (s : State) :
    s.sourceLaw ↔ ∀ (name : PageName) (line : Line) (slot : Slot),
      s.sourceAllowed (entryAt (s.switch.page name) line slot) = true := by
  constructor
  · intro h name line slot
    cases name with
    | a => exact (h line slot).1
    | b => exact (h line slot).2
  · exact fun h line slot => ⟨h .a line slot, h .b line slot⟩

theorem State.sourceAllowed_slot (s : State) (line : Line) (slot : Slot) (j : Justify) :
    s.sourceAllowed (.slot line slot j) = true
      ↔ s.management line slot = false ∧ slot.val < (s.port line).record.slots := by
  simp [State.sourceAllowed]

/-- A source stays allowed where no position becomes a management position and no line gets shorter than the source (R6). -/
theorem State.sourceAllowed_mono {s t : State} {e : Entry} (h : s.sourceAllowed e = true)
    (hm : ∀ l slot j, e = .slot l slot j → t.management l slot = true → s.management l slot = true)
    (hp : ∀ l slot j, e = .slot l slot j → slot.val < (s.port l).record.slots →
      slot.val < (t.port l).record.slots) :
    t.sourceAllowed e = true := by
  cases e with
  | slot l slot j =>
    rw [State.sourceAllowed_slot] at h ⊢
    refine ⟨?_, hp l slot j rfl h.2⟩
    by_contra hc
    have := hm l slot j rfl (by simpa using hc)
    simp [h.1] at this
  | _ => rfl

/-- An act that changes nothing the laws of the map read keeps them. -/
theorem State.KeepsMap.of_view {s t : State} (h : t.mapView = s.mapView) : s.KeepsMap t := by
  simp only [State.mapView, MapView.mk.injEq] at h
  obtain ⟨hcur, hst, hpm, hfo, htt, hex, hpa, hpb, hsl⟩ := h
  have hm : ∀ line slot, t.management line slot = s.management line slot := fun line slot => by
    simp only [State.management, Link.locations, hcur, hpm, hfo]
  have hslots : ∀ l : Line, (t.port l).record.slots = (s.port l).record.slots := fun l => by
    have := congrArg (fun v : Vector Nat 8 => v[l]) hsl
    simpa [State.port] using this
  have ha : ∀ e, t.sourceAllowed e = s.sourceAllowed e := fun e => by
    cases e <;> simp only [State.sourceAllowed, hm, hslots]
  refine ⟨fun hl => ?_, fun _ hl => ?_, fun hl => ?_⟩
  · simpa only [State.linkLaw, hst, hpm, hfo, htt, hex] using hl
  · simpa only [State.mapLaw, hpa, hpb, hm] using hl
  · simpa only [State.sourceLaw, hpa, hpb, ha] using hl

/-- An act that only writes the pages keeps the laws where each entry after it stood there before it, in one of the pages, or fits. -/
theorem State.KeepsMap.of_entries {s t : State} (hk : t.link = s.link) (he : t.engine.executor = s.engine.executor)
    (hp : t.ports = s.ports)
    (h : ∀ (name : PageName) (line : Line) (slot : Slot),
      (∃ old, entryAt (t.switch.page name) line slot = entryAt (s.switch.page old) line slot)
        ∨ s.entryFits line slot (entryAt (t.switch.page name) line slot)) : s.KeepsMap t := by
  have hm : ∀ line slot, t.management line slot = s.management line slot := fun line slot => by
    simp only [State.management, hk]
  have ha : ∀ e, t.sourceAllowed e = s.sourceAllowed e := fun e => by
    have hport : ∀ l, t.port l = s.port l := fun l => by simp only [State.port, hp]
    cases e <;> simp only [State.sourceAllowed, hm, hport]
  refine ⟨fun hl => by simpa only [State.linkLaw, hk, he] using hl, fun _ hl => ?_, fun hl => ?_⟩
  · rw [State.mapLaw_iff] at hl ⊢
    intro name line slot
    rw [hm]
    obtain ⟨old, ho⟩ | hf := h name line slot
    · rw [ho]; exact hl old line slot
    · exact hf.1
  · rw [State.sourceLaw_iff] at hl ⊢
    intro name line slot
    rw [ha]
    obtain ⟨old, ho⟩ | hf := h name line slot
    · rw [ho]; exact hl old line slot
    · exact hf.2

/-- CONTROL at a management position and RELEASE at any other fit (R4, R21, R30). -/
theorem State.blankEntry_fits (s : State) (line : Line) (slot : Slot) :
    s.entryFits line slot (if s.management line slot then .control else .release) := by
  unfold State.entryFits
  split <;> simp_all [State.sourceAllowed]

/-! ### Acts that change nothing the laws of the map read -/

theorem State.setPort_mapView {s : State} {l : Line} {p : LinePort}
    (h : p.record.slots = (s.port l).record.slots) : (s.setPort l p).mapView = s.mapView := by
  have hv : (s.ports.set l p).map (fun p => p.record.slots) = s.ports.map fun p => p.record.slots := by
    ext i hi
    simp only [Vector.getElem_map, Vector.getElem_set]
    split
    · subst_vars; exact h
    · rfl
  simp [State.mapView, State.setPort, hv]

/-- The link's receiver, transmitter, mark and counters are not read. -/
theorem State.withLink_mapView {s : State} {k : Link} (h1 : k.current = s.link.current)
    (h2 : k.state = s.link.state) (h3 : k.pendingMove = s.link.pendingMove)
    (h4 : k.former = s.link.former) (h5 : k.trialTimer = s.link.trialTimer) :
    (s.withLink k).mapView = s.mapView := by
  simp [State.mapView, h1, h2, h3, h4, h5]

theorem State.withEngine_mapView {s : State} {q : RequestEngine}
    (h : q.executor = s.engine.executor) : (s.withEngine q).mapView = s.mapView := by
  simp [State.mapView, h]

@[simp] theorem State.setStore_mapView (s : State) (l : Line) (e : Store) :
    (s.setStore l e).mapView = s.mapView := rfl
@[simp] theorem State.withStores_mapView (s : State) (v : Vector Store 8) :
    (s.withStores v).mapView = s.mapView := rfl
@[simp] theorem State.withTiming_mapView (s : State) (t : Timing) :
    (s.withTiming t).mapView = s.mapView := rfl
@[simp] theorem State.withSchedule_mapView (s : State) (v : List ScheduleEntry) :
    (s.withSchedule v).mapView = s.mapView := rfl
@[simp] theorem State.withMc_mapView (s : State) (v : MapController) :
    (s.withMc v).mapView = s.mapView := rfl
@[simp] theorem State.withProbes_mapView (s : State) (v : Vector Probe 4) :
    (s.withProbes v).mapView = s.mapView := rfl
@[simp] theorem State.withNotices_mapView (s : State) (v : NoticeUnit) :
    (s.withNotices v).mapView = s.mapView := rfl
@[simp] theorem State.withOpening_mapView (s : State) (v : Opening) :
    (s.withOpening v).mapView = s.mapView := rfl
@[simp] theorem State.withPending_mapView (s : State) (v : List Instr) :
    (s.withPending v).mapView = s.mapView := rfl
@[simp] theorem State.raise_mapView (s : State) (e : Event) : (s.raise e).mapView = s.mapView := rfl
@[simp] theorem State.raiseAll_mapView (s : State) (es : List Event) :
    (s.raiseAll es).mapView = s.mapView :=
  foldl_keeps State.mapView State.raise (fun _ _ => rfl) es s
@[simp] theorem State.answer_mapView (s : State) (r : Request) (c : Status) (d : List Byte) :
    (s.answer r c d).mapView = s.mapView := rfl
@[simp] theorem State.badLength_mapView (s : State) (r : Request) :
    (s.badLength r).mapView = s.mapView := rfl
@[simp] theorem State.fillReserved_mapView (s : State) (k o : Byte) (c : Status) (d : List Byte) :
    (s.fillReserved k o c d).mapView = s.mapView := rfl
@[simp] theorem State.opened_mapView (s : State) : s.opened.mapView = s.mapView := rfl
@[simp] theorem State.acceptPage_mapView (s : State) (m : McState) (f : Option Word) :
    (s.acceptPage m f).mapView = s.mapView := rfl
@[simp] theorem State.setProbeAt_mapView (s : State) (p : ProbeIndex) (v : Probe) :
    (s.setProbeAt p v).mapView = s.mapView := rfl
@[simp] theorem State.setPatternAt_mapView (s : State) (i : PatternIndex) (v : Pattern) :
    (s.setPatternAt i v).mapView = s.mapView := rfl
@[simp] theorem State.promotePatterns_mapView (s : State) :
    s.promotePatterns.mapView = s.mapView := rfl
@[simp] theorem State.mcState_mapView (s : State) (m : McState) :
    (s.mcState m).mapView = s.mapView := rfl
@[simp] theorem State.lastStep_mapView (s : State) : s.lastStep.mapView = s.mapView := rfl
@[simp] theorem State.receiving_mapView (s : State) (r : Receiver) :
    (s.receiving r).mapView = s.mapView := rfl
@[simp] theorem State.clearCounters_mapView (s : State) :
    s.clearCounters.mapView = s.mapView := rfl
@[simp] theorem State.put_mapView (s : State) (b : Byte) : (s.put b).mapView = s.mapView := rfl
@[simp] theorem State.linkTaken_mapView (s : State) : s.linkTaken.mapView = s.mapView := rfl
@[simp] theorem State.startResponse_mapView (s : State) (r : Response) :
    (s.startResponse r).mapView = s.mapView := rfl

@[simp] theorem State.clearStats_mapView (s : State) (l : Line) :
    (s.clearStats l).mapView = s.mapView := by
  simp [State.clearStats, State.setPort_mapView]

@[simp] theorem State.refclkPeriod_mapView (s : State) : s.refclkPeriod.mapView = s.mapView := by
  unfold State.refclkPeriod; split <;> simp

@[simp] theorem State.arrive_mapView (s : State) (l : Line) (f : InputFrame) :
    (s.arrive l f).mapView = s.mapView := by
  simp only [State.arrive]; split <;> simp

@[simp] theorem State.alignmentLost_mapView (s : State) (l : Line) :
    (s.alignmentLost l).mapView = s.mapView := by
  simp only [State.alignmentLost, State.raise_mapView, State.withTiming_mapView]
  refine (State.withLink_mapView ?_ ?_ ?_ ?_ ?_).trans
    ((State.setStore_mapView _ _ _).trans (State.setPort_mapView ?_)) <;> rfl

@[simp] theorem State.framerAct_mapView (s : State) (l : Line) (a : FramerAct) :
    (s.framerAct l a).mapView = s.mapView := by
  cases a <;> simp [State.framerAct]

@[simp] theorem State.rxPeriod_mapView (s : State) (l : Line) (x : RxSample) :
    (s.rxPeriod l x).mapView = s.mapView := by
  simp [State.rxPeriod, State.framerPeriod, State.setPort_mapView]

@[simp] theorem State.rxPeriods_mapView (s : State) (l : Line) (xs : List RxSample) :
    (s.rxPeriods l xs).mapView = s.mapView := by
  unfold State.rxPeriods
  split
  · rfl
  · exact foldl_keeps State.mapView _ (fun t x => State.rxPeriod_mapView t l x) xs s

@[simp] theorem State.takeStores_mapView (s : State) : s.takeStores.mapView = s.mapView := by
  simp [State.takeStores]

@[simp] theorem State.finishMc_mapView (s : State) (f : Option (Byte × Byte × List Byte)) :
    (s.finishMc f).mapView = s.mapView := by
  unfold State.finishMc; split <;> simp

@[simp] theorem State.abortPage_mapView (s : State) : s.abortPage.mapView = s.mapView := by
  unfold State.abortPage; split <;> simp

@[simp] theorem State.probeBoundary_mapView (s : State) (i : ProbeIndex) :
    (s.probeBoundary i).mapView = s.mapView := by
  simp only [State.probeBoundary]; (repeat' split) <;> simp

@[simp] theorem State.noticeBoundary_mapView (s : State) (b : Bool) :
    (s.noticeBoundary b).mapView = s.mapView := by
  unfold State.noticeBoundary; split <;> simp

theorem State.beginPort_record (s : State) (l : Line) :
    (s.beginPort l).record = (s.port l).record := by
  simp only [State.beginPort]; split <;> rfl

@[simp] theorem State.beginFrames_mapView (s : State) : s.beginFrames.mapView = s.mapView := by
  have hv : (Vector.ofFn s.beginPort).map (fun p => p.record.slots) = s.ports.map fun p => p.record.slots := by
    ext i hi
    simp only [Vector.getElem_map, Vector.getElem_ofFn, State.beginPort_record]
    rfl
  simp [State.mapView, State.beginFrames, hv]

@[simp] theorem State.meet_mapView (before s : State) (shares : List Taker) (c : Coincidence) :
    (State.meet before shares s c).mapView = s.mapView := by
  simp only [State.meet]; (repeat' split) <;> simp

/-- Intake adds a request or a response; the executor stays as it is (R144, R145). -/
@[simp] theorem State.intake_mapView (s : State) (r : Request) : (s.intake r).mapView = s.mapView := by
  unfold State.intake
  split
  · rfl
  · split
    · apply State.withEngine_mapView; unfold RequestEngine.resend; split <;> rfl
    · apply State.withEngine_mapView; unfold RequestEngine.accept; (repeat' split) <;> rfl

@[simp] theorem State.startNotice_mapView (s : State) : s.startNotice.mapView = s.mapView := by
  simp only [State.startNotice]; split <;> rfl

@[simp] theorem State.readied_mapView (s : State) : s.readied.mapView = s.mapView := by
  simp only [State.readied, State.chooseMessage]; (repeat' split) <;> simp

@[simp] theorem State.placeOctet_mapView (s : State) (m : OutMessage) (next : Nat) :
    (s.placeOctet m next).mapView = s.mapView := by
  simp only [State.placeOctet, State.endMessage]; (repeat' split) <;> rfl

@[simp] theorem State.fillSlot_mapView (s : State) : s.fillSlot.mapView = s.mapView := by
  unfold State.fillSlot; split <;> simp

@[simp] theorem State.fillFrame_mapView (s : State) : s.fillFrame.mapView = s.mapView := by
  have h : ∀ (n : Nat) (t : State), (State.fillSlots n t).mapView = t.mapView := by
    intro n
    induction n with
    | zero => exact fun _ => rfl
    | succ n ih => intro t; rw [State.fillSlots, ih, State.fillSlot_mapView]
  exact h _ s

theorem LinePort.txPeriods_record (n : Nat) (p : LinePort) :
    (LinePort.txPeriods n p).record = p.record := by
  induction n generalizing p with
  | zero => rfl
  | succ n ih =>
    rw [LinePort.txPeriods, ih]
    unfold LinePort.txPeriod
    (repeat' split) <;> rfl

end Sys2Proof.Machine
end

section
/-! SUPPORT. What the acts of a boundary do to the laws of the map: the Map Controller, the schedule table, the link, and the boundary as a whole. -/

namespace Sys2Proof.Machine

/-! ### Acts of the Map Controller and the schedule table -/

theorem State.copyLine_keepsMap (s : State) (l : Line) : s.KeepsMap (s.copyLine l) := by
  refine .of_entries rfl rfl rfl fun name line slot => Or.inl ?_
  simp only [State.copyLine, State.writeStandbyLine, State.withSwitch_switch, Switch.page_withStandby]
  split
  · rw [entryAt_set]
    split
    · subst_vars; exact ⟨s.switch.active, rfl⟩
    · exact ⟨s.switch.active.other, rfl⟩
  · exact ⟨name, rfl⟩

theorem State.clearLine_keepsMap (s : State) (l : Line) : s.KeepsMap (s.clearLine l) := by
  refine .of_entries rfl rfl rfl fun name line slot => ?_
  simp only [State.clearLine, State.writeStandbyLine, State.withSwitch_switch, Switch.page_withStandby]
  split
  · rw [entryAt_set]
    split
    · subst_vars; right; simpa using s.blankEntry_fits line slot
    · exact Or.inl ⟨s.switch.active.other, rfl⟩
  · exact Or.inl ⟨name, rfl⟩

theorem State.swapAt_keepsMap (s : State) (n : Word) : s.KeepsMap (s.swapAt n) :=
  .of_view rfl

theorem State.mcStep_keepsMap (s : State) (n : Word) : s.KeepsMap (s.mcStep n) := by
  unfold State.mcStep
  split
  · exact .refl s
  · split
    · exact (s.copyLine_keepsMap _).trans (.of_view rfl)
    · exact (s.copyLine_keepsMap _).trans (.of_view rfl)
  · split
    · exact (s.clearLine_keepsMap _).trans (.of_view rfl)
    · exact (s.clearLine_keepsMap _).trans (.of_view rfl)
  · split
    · exact s.swapAt_keepsMap n
    · exact .refl s

theorem State.mcShare_keepsMap (s : State) : s.KeepsMap s.mcShare :=
  (s.mcStep_keepsMap s.comingFrame).trans (.of_view (by simp [State.mcShare]))

theorem State.handOver_keepsMap (s : State) (n : Word) (a : Action) : s.KeepsMap (s.handOver n a).1 := by
  cases a with
  | swap =>
    simp only [State.handOver]
    split
    · exact s.swapAt_keepsMap n
    · exact .refl s
  | pattern i v => exact .of_view rfl

theorem fireAll_keepsMap (n : Word) (es : List ScheduleEntry) (s : State) :
    s.KeepsMap (fireAll n es s).1 := by
  induction es generalizing s with
  | nil => exact .refl s
  | cons e es ih => exact (s.handOver_keepsMap n e.action).trans (ih _)

theorem State.fire_keepsMap (s : State) (n : Word) : s.KeepsMap (s.fire n).1 :=
  (State.KeepsMap.of_view (State.withSchedule_mapView s _)).trans (fireAll_keepsMap n _ _)

theorem State.timingShare_keepsMap (s : State) : s.KeepsMap s.timingShare :=
  (s.fire_keepsMap s.comingFrame).trans (.of_view (by simp [State.timingShare]))

theorem State.fireOnce_keepsMap (s : State) : s.KeepsMap s.fireOnce.1 := by
  unfold State.fireOnce
  split
  · exact .refl s
  · exact s.fire_keepsMap _

theorem State.mapEffects_keepsMap (s : State) : s.KeepsMap s.mapEffects :=
  ((State.KeepsMap.of_view s.promotePatterns_mapView).trans (State.mcStep_keepsMap _ _)).trans
    (State.fireOnce_keepsMap _)

/-! ### Locations given up and taken -/

/-- A position is a management position where the current, the pending or the former location covers it (R3). -/
theorem State.management_iff (s : State) (line : Line) (slot : Slot) :
    s.management line slot = true ↔
      s.link.current.covers line slot = true
        ∨ (∃ loc, s.link.pendingMove = some loc ∧ loc.covers line slot = true)
        ∨ ∃ loc, s.link.former = some loc ∧ loc.covers line slot = true := by
  simp [State.management, coveredBy, Link.locations]

/-- The entries of both pages after a location is given up (R5). -/
theorem State.giveUp_entry (s : State) (gone : Location) (k : Link) (name : PageName) (line : Line) (slot : Slot) :
    entryAt ((s.giveUp gone k).switch.page name) line slot =
      if gone.covers line slot && !coveredBy k.locations line slot then .release
      else entryAt (s.switch.page name) line slot := by
  simp [State.giveUp, Switch.leaveLocation]

/-- Where the remaining locations are all the link's others, CONTROL stands at management positions alone after one is given up (R4, R5). -/
theorem State.giveUp_mapLaw {s : State} {gone : Location} {k : Link} (h : s.mapLaw)
    (hm : ∀ line slot, s.management line slot = (gone.covers line slot || coveredBy k.locations line slot)) :
    (s.giveUp gone k).mapLaw := by
  rw [State.mapLaw_iff] at h ⊢
  intro name line slot
  have hs : (s.giveUp gone k).management line slot = coveredBy k.locations line slot := rfl
  specialize h name line slot
  rw [State.giveUp_entry, hs]
  rw [hm] at h
  cases hg : gone.covers line slot <;> cases hr : coveredBy k.locations line slot <;> simp_all

/-- Giving up a location forbids no source (R6). -/
theorem State.giveUp_sourceLaw {s : State} {gone : Location} {k : Link} (h : s.sourceLaw)
    (hm : ∀ line slot, coveredBy k.locations line slot = true → s.management line slot = true) :
    (s.giveUp gone k).sourceLaw := by
  rw [State.sourceLaw_iff] at h ⊢
  intro name line slot
  rw [State.giveUp_entry]
  split
  · rfl
  · exact State.sourceAllowed_mono (h name line slot) (fun l t _ _ => hm l t) fun _ _ _ _ h => h

/-- A link with no pending and no former location, SETTLED and with no timer, meets the link law whatever the executor does (R164). -/
theorem State.linkLaw_of_rest {s : State} {loc : Location} (h : s.link.restsOn loc) : s.linkLaw := by
  obtain ⟨_, hst, hpm, hfo, _, htt⟩ := h
  simp [State.linkLaw, hst, hpm, hfo, htt]

/-- A resting link's only location is the current one. -/
theorem Link.locations_of_rest {k : Link} {loc : Location} (h : k.restsOn loc) : k.locations = [loc] := by
  obtain ⟨hcur, _, hpm, hfo, _⟩ := h
  simp [Link.locations, hcur, hpm, hfo]

/-- A link that gives up one of its two locations and rests on the other keeps the laws of the map (R5, R179, R180). -/
theorem State.giveUp_keepsMap {s : State} {gone kept : Location} {k : Link} (hk : k.restsOn kept)
    (hkept : ∀ line slot, kept.covers line slot = true → s.management line slot = true)
    (hall : s.linkLaw → ∀ line slot,
      s.management line slot = (gone.covers line slot || kept.covers line slot)) :
    s.KeepsMap (s.giveUp gone k) := by
  have hc : ∀ line slot, coveredBy k.locations line slot = kept.covers line slot := fun line slot => by
    simp [Link.locations_of_rest hk, coveredBy]
  refine ⟨fun _ => State.linkLaw_of_rest (loc := kept) hk, fun hl hm => ?_, fun hs => ?_⟩
  · exact State.giveUp_mapLaw hm fun line slot => by rw [hall hl, hc]
  · exact State.giveUp_sourceLaw hs fun line slot h => hkept line slot (by rw [← hc]; exact h)

/-- In TRIAL the management positions are those of the current and the former location (R164). -/
theorem State.management_trial {s : State} {former : Location} (h : s.linkLaw)
    (hst : s.link.state = .trial) (hf : s.link.former = some former) (line : Line) (slot : Slot) :
    s.management line slot = (s.link.current.covers line slot || former.covers line slot) := by
  have hp : s.link.pendingMove = none := (h.2.1 hst).1
  simp [State.management, Link.locations, coveredBy, hp, hf]

/-- With a move pending the management positions are those of the current and the pending location (R164). -/
theorem State.management_pending {s : State} {pending : Location} (h : s.linkLaw)
    (hst : s.link.state = .settled) (hp : s.link.pendingMove = some pending) (line : Line) (slot : Slot) :
    s.management line slot = (s.link.current.covers line slot || pending.covers line slot) := by
  have hf : s.link.former = none := (h.1 hst).1
  simp [State.management, Link.locations, coveredBy, hp, hf]

theorem State.revert_keepsMap {s : State} (hst : s.link.state = .trial) (why : MoveReason) :
    s.KeepsMap (s.revert why) := by
  unfold State.revert
  split
  case h_2 => exact .refl s
  case h_1 former hf =>
    refine State.KeepsMap.trans (State.giveUp_keepsMap (kept := former) ⟨rfl, rfl, rfl, rfl, rfl, rfl⟩
      (fun line slot h => ?_) fun hl => s.management_trial hl hst hf)
      (.of_view (State.raise_mapView _ _))
    exact (s.management_iff line slot).2 (.inr (.inr ⟨former, hf, h⟩))

theorem State.confirm_keepsMap (s : State) : s.KeepsMap s.confirm := by
  unfold State.confirm
  split
  case h_2 => exact .refl s
  case h_1 former hst hf =>
    have hg : s.KeepsMap (s.giveUp former (s.link.settleOn s.link.current)) := by
      refine State.giveUp_keepsMap (kept := s.link.current) ⟨rfl, rfl, rfl, rfl, rfl, rfl⟩
        (fun line slot h => ?_) fun hl line slot => ?_
      · exact (s.management_iff line slot).2 (.inl h)
      · rw [s.management_trial hl hst hf, Bool.or_comm]
    exact hg.trans (.of_view (State.raise_mapView _ _))

theorem State.trialPart_keepsMap (s : State) : s.KeepsMap s.trialPart := by
  unfold State.trialPart
  split
  case h_1 => exact .refl s
  case h_2 hst =>
    split
    · exact State.revert_keepsMap hst _
    · split
      · exact State.revert_keepsMap hst _
      · rename_i ht
        refine ⟨fun hl => ?_, fun _ hm => hm, fun hs => hs⟩
        obtain ⟨h1, h2, h3⟩ := hl
        obtain ⟨hp, hf, ht1, ht2⟩ := h2 hst
        refine ⟨fun h => ?_, fun _ => ⟨hp, hf, ?_, ?_⟩, h3⟩
        · simp [hst] at h
        · simp only [State.withLink_link]; omega
        · simp only [State.withLink_link]; omega

/-- At the switch boundary the link is SETTLED with a pending location (R177). -/
theorem State.switchDue_eq_some {s : State} {pending : Location} (h : s.switchDue = some pending) :
    s.link.state = .settled ∧ s.link.transmitter = .stopped ∧ s.link.pendingMove = some pending := by
  unfold State.switchDue at h
  split at h
  case h_1 hst htx => exact ⟨hst, htx, h⟩
  case h_2 => cases h

theorem State.revertSwitch_keepsMap {s : State} {pending : Location} (hst : s.link.state = .settled)
    (hp : s.link.pendingMove = some pending) : s.KeepsMap (s.revertSwitch pending) := by
  have hg : s.KeepsMap (s.giveUp pending
      { s.link.settleOn s.link.current with receiver := .hunt, transmitter := .free }) := by
    refine State.giveUp_keepsMap (kept := s.link.current) ⟨rfl, rfl, rfl, rfl, rfl, rfl⟩
      (fun line slot h => ?_) fun hl line slot => ?_
    · exact (s.management_iff line slot).2 (.inl h)
    · rw [s.management_pending hl hst hp, Bool.or_comm]
  exact ⟨fun _ => State.linkLaw_of_rest (loc := s.link.current) ⟨rfl, rfl, rfl, rfl, rfl, rfl⟩,
    hg.map, hg.source⟩

theorem State.switchTo_keepsMap {s : State} {pending : Location} (hst : s.link.state = .settled)
    (hp : s.link.pendingMove = some pending) : s.KeepsMap (s.switchTo pending) := by
  have hm : ∀ line slot, (s.switchTo pending).management line slot
      = (pending.covers line slot || s.link.current.covers line slot) := fun line slot => by
    simp [State.switchTo, State.management, Link.locations, coveredBy]
  refine ⟨fun hl => ?_, fun hl h => ?_, fun h => ?_⟩
  · simp [State.linkLaw, State.switchTo, Config.trialBoundaries]
  · rw [State.mapLaw_iff] at h ⊢
    intro name line slot
    rw [hm, Bool.or_comm, ← s.management_pending hl hst hp]
    exact h name line slot
  · rw [State.sourceLaw_iff] at h ⊢
    intro name line slot
    refine State.sourceAllowed_mono (h name line slot) (fun l t _ _ hc => ?_) fun _ _ _ _ h => h
    rw [hm, Bool.or_eq_true] at hc
    rw [State.management_iff]
    exact hc.elim (fun h => .inr (.inl ⟨pending, hp, h⟩)) .inl

theorem State.headParts_keepsMap (s : State) : s.KeepsMap s.headParts := by
  refine s.trialPart_keepsMap.trans ?_
  unfold State.headParts State.switchPart
  split
  case h_1 => exact .refl _
  case h_2 pending hd =>
    obtain ⟨hst, _, hp⟩ := State.switchDue_eq_some hd
    split
    · exact State.revertSwitch_keepsMap hst hp
    · exact State.switchTo_keepsMap hst hp

/-! ### The link's act -/

theorem State.deliver_keepsMap (s : State) (seq kind : Byte) (payload : List Byte) :
    s.KeepsMap (s.deliver seq kind payload) := by
  unfold State.deliver
  split
  · exact .of_view (State.withLink_mapView rfl rfl rfl rfl rfl)
  · refine s.confirm_keepsMap.trans (.of_view ?_)
    simp only [State.deliverGood]
    split <;> simp

theorem State.delivering_keepsMap (s : State) (seq kind : Byte) (payload : List Byte) :
    s.KeepsMap (State.delivering seq kind payload s) :=
  (State.KeepsMap.of_view (s.receiving_mapView .hunt)).trans (State.deliver_keepsMap _ seq kind payload)

theorem State.receive_keepsMap (s : State) (b : Byte) : s.KeepsMap (s.receive b) := by
  have hchecked : ∀ len octets check, s.KeepsMap (s.checked len octets check) := fun len octets check => by
    refine (State.KeepsMap.of_view (s.receiving_mapView .hunt)).trans ?_
    unfold State.checked
    split
    · split
      · exact State.deliver_keepsMap _ _ _ _
      · exact .refl _
    · exact .of_view (State.withLink_mapView rfl rfl rfl rfl rfl)
  unfold State.receive
  split
  case h_1 => split <;> exact .of_view rfl
  case h_2 => split <;> exact .of_view rfl
  case h_3 => split <;> exact .of_view rfl
  case h_4 => exact .of_view rfl
  case h_5 => exact hchecked _ _ _

theorem State.foldl_keepsMap {α : Type} {f : State → α → State} (h : ∀ (s : State) a, s.KeepsMap (f s a))
    (l : List α) (s : State) : s.KeepsMap (l.foldl f s) := by
  induction l generalizing s with
  | nil => exact .refl s
  | cons a l ih => exact (h s a).trans (ih _)

theorem State.readFrame_keepsMap (s : State) : s.KeepsMap s.readFrame := by
  unfold State.readFrame
  split
  · exact .refl s
  · exact State.foldl_keepsMap State.receive_keepsMap _ s

theorem State.linkAct_keepsMap {inbound : State → State} (h : ∀ u : State, u.KeepsMap (inbound u)) (s : State) :
    s.KeepsMap (s.linkAct inbound) :=
  (s.headParts_keepsMap.trans (h s.headParts)).trans (.of_view (by simp [State.linkAct]))

theorem State.linkShare_keepsMap {inbound : State → State} (h : ∀ u : State, u.KeepsMap (inbound u)) (s : State) :
    s.KeepsMap (s.linkShare inbound) :=
  (State.KeepsMap.of_view s.takeStores_mapView).trans (State.linkAct_keepsMap h _)

/-! ### The whole boundary -/

theorem State.takeShare_keepsMap (before : State) (found : Taker → State) (s : State) (t : Taker) :
    s.KeepsMap (State.takeShare before found s t) := by
  cases t with
  | link =>
    simp only [State.takeShare]
    split
    · exact .refl s
    · exact State.linkAct_keepsMap State.readFrame_keepsMap s
  | _ => exact .of_view (by simp [State.takeShare])

theorem takeInTurn_keepsMap {meet : State → Coincidence → State} {share : State → Taker → State}
    (hm : ∀ (s : State) c, s.KeepsMap (meet s c)) (hs : ∀ (s : State) t, s.KeepsMap (share s t)) (events : List Coincidence)
    (shares : List Taker) (s : State) : s.KeepsMap (takeInTurn meet share events shares s) := by
  induction shares generalizing events s with
  | nil => exact .refl s
  | cons t rest ih => exact ((State.foldl_keepsMap hm _ s).trans (hs _ t)).trans (ih _ _)

theorem State.numberedEffects_keepsMap (s : State) (found : Taker → State) :
    s.KeepsMap (s.numberedEffects found) :=
  s.mapEffects_keepsMap.trans (.of_view rfl)

theorem State.numberedBoundary_keepsMap (s : State) (order : BoundaryOrder) :
    s.KeepsMap (s.numberedBoundary order) := by
  simp only [State.numberedBoundary]
  refine State.KeepsMap.trans ?_ (State.foldl_keepsMap (fun t c => .of_view (t.rxPeriod_mapView _ _)) _ _)
  refine State.KeepsMap.trans ?_ (.of_view ((State.withOpening_mapView _ _).trans (State.beginFrames_mapView _)))
  exact State.KeepsMap.trans (State.numberedEffects_keepsMap s _)
    (takeInTurn_keepsMap (fun t c => .of_view (State.meet_mapView _ t _ c))
      (fun t _ => State.takeShare_keepsMap _ _ t _) _ _ _)

end Sys2Proof.Machine
end

section
/-! SUPPORT. What the requests that write the pages, the line records or the locations do to the laws of the map. -/

namespace Sys2Proof.Machine

/-! ### Restarts -/

/-- Where both pages are blank around the link's locations, CONTROL stands at the management positions alone (R4, R21). -/
theorem State.mapLaw_of_blank {t : State} (hw : t.switch = blankSwitch t.link.locations) : t.mapLaw := by
  rw [State.mapLaw_iff]
  intro name line slot
  rw [hw, Switch.page_blankSwitch, entryAt_blankPage]
  exact (t.blankEntry_fits line slot).1

/-- Where both pages are blank no entry has a source, so none has a forbidden one (R6, R21). -/
theorem State.sourceLaw_of_blank {t : State} (hw : t.switch = blankSwitch t.link.locations) : t.sourceLaw := by
  rw [State.sourceLaw_iff]
  intro name line slot
  rw [hw, Switch.page_blankSwitch, entryAt_blankPage]
  exact (t.blankEntry_fits line slot).2

theorem State.blank_keepsMap {s t : State} (hw : t.switch = blankSwitch t.link.locations)
    (hl : s.linkLaw → t.linkLaw) : s.KeepsMap t :=
  ⟨hl, fun _ _ => State.mapLaw_of_blank hw, fun _ => State.sourceLaw_of_blank hw⟩

/-- The link rests on the strap location after a full restart (R185). -/
theorem restartLink_rests (straps : Straps) : (restartLink straps).restsOn (strapLocation straps) :=
  ⟨rfl, rfl, rfl, rfl, rfl, rfl⟩

theorem State.fullRestart_keepsMap (s : State) (straps : Straps) (cause : RestartCause) (held : Bool) :
    s.KeepsMap (s.fullRestart straps cause held) :=
  State.blank_keepsMap rfl fun _ => State.linkLaw_of_rest (restartLink_rests straps)

theorem State.rebuild_keepsMap (s : State) : s.KeepsMap s.rebuild :=
  State.blank_keepsMap rfl id

/-! ### Set Line -/

/-- No entry of either page passes a test that no transmit line has an entry for (R76). -/
theorem Switch.lowestLine_eq_none {w : Switch} {test : Entry → Bool} (h : w.lowestLine test = none)
    (name : PageName) (line : Line) (slot : Slot) : test (entryAt (w.page name) line slot) = false := by
  have hl := List.find?_eq_none.mp h line (List.mem_finRange line)
  simp only [Switch.lineHas, Bool.or_eq_true, List.any_eq_true, not_or, not_exists, not_and,
    Bool.not_eq_true, Vector.mem_toList_iff] at hl
  cases name with
  | a => exact hl.1 _ (Vector.getElem_mem _)
  | b => exact hl.2 _ (Vector.getElem_mem _)

/-- A Set Line that passes its checks shortens no line below a source in use (R76, check 4). -/
theorem State.lineRefusal_eq_none {s : State} {line : Line} {record : LineRecord}
    (h : s.lineRefusal line record = none) :
    record.slots < (s.port line).record.slots →
      s.switch.lowestLine (Entry.namesBeyond line record.slots) = none := by
  intro hlt
  simp only [State.lineRefusal, hlt, if_true] at h
  split at h
  · cases h
  · split at h
    · cases h
    · simpa using h

theorem State.applyLine_record (s : State) (line l : Line) (record : LineRecord) :
    ((s.applyLine line record).port l).record = if l = line then record else (s.port l).record := by
  have hset : ∀ p : LinePort, ((s.setPort line p).port l) = if l = line then p else s.port l := fun p => by
    by_cases h : l = line
    · subst h; simp [State.port, State.setPort]
    · have hv : line.val ≠ l.val := fun hv => h (Fin.ext hv.symm)
      simp [State.port, State.setPort, h, hv]
  simp only [State.applyLine]
  split
  · show ((s.setPort line _).port l).record = _
    rw [hset]; split <;> rfl
  · rw [hset]; split <;> rfl

theorem State.applyLine_keepsMap {s : State} {line : Line} {record : LineRecord}
    (h : s.lineRefusal line record = none) : s.KeepsMap (s.applyLine line record) := by
  have hm : ∀ l slot, (s.applyLine line record).management l slot = s.management l slot := fun _ _ => by
    simp [State.management]
  refine ⟨fun hl => by simpa [State.linkLaw] using hl, fun _ hl => ?_, fun hs => ?_⟩
  · rw [State.mapLaw_iff] at hl ⊢
    intro name l slot
    rw [hm, State.applyLine_switch]
    exact hl name l slot
  · rw [State.sourceLaw_iff] at hs ⊢
    intro name l slot
    rw [State.applyLine_switch]
    refine State.sourceAllowed_mono (hs name l slot) (fun m t _ _ hc => by rwa [hm] at hc)
      fun m t j he ht => ?_
    rw [State.applyLine_record]
    split
    case isFalse => exact ht
    case isTrue hml =>
      subst hml
      by_contra hc
      have hnone := State.lineRefusal_eq_none h (by omega)
      have := Switch.lowestLine_eq_none hnone name l slot
      rw [he] at this
      simp [Entry.namesBeyond] at this
      omega

/-! ### Write Entries -/

/-- An accepted entry's target is no management position, and the entry is no CONTROL and has an allowed source (R11). -/
theorem State.checkEntry_ok {s : State} {line : Line} {slot : Slot} {e : Byte × Byte × Byte × Byte}
    {entry : Entry} (h : s.checkEntry line slot e = .ok entry) :
    s.management line slot = false ∧ entry ≠ .control ∧ s.sourceAllowed entry = true := by
  unfold State.checkEntry at h
  split at h
  · cases h
  rename_i hm
  refine ⟨by simpa using hm, ?_⟩
  split at h
  · cases h; exact ⟨nofun, rfl⟩
  split at h
  · unfold State.checkSlotSource at h
    split at h
    · cases h
    · cases h
    · split at h
      · cases h
      split at h
      · cases h
      split at h
      · cases h
      · cases h
        refine ⟨nofun, ?_⟩
        rw [State.sourceAllowed_slot]
        simp_all
  split at h
  · unfold checkPatternSource at h
    split at h
    · cases h
    · cases h
    · cases h; exact ⟨nofun, rfl⟩
  split at h <;> cases h

/-- Every entry that the whole check accepts was accepted for its own slot (R11). -/
theorem State.checkEntries_ok {s : State} {line : Line} (octets : List (Byte × Byte × Byte × Byte)) :
    ∀ {slot index : Nat} {entries : List (Slot × Entry)},
      s.checkEntries line slot index octets = .ok entries →
        ∀ x ∈ entries, s.entryFits line x.1 x.2 := by
  induction octets with
  | nil => intro slot index entries h x hx; cases h; cases hx
  | cons e rest ih =>
    intro slot index entries h x hx
    simp only [State.checkEntries] at h
    split at h
    case isFalse => cases h
    split at h
    case h_1 => cases h
    case h_2 entry he =>
      split at h
      case h_1 => cases h
      case h_2 checked hc =>
        cases h
        obtain rfl | hx := List.mem_cons.mp hx
        · obtain ⟨hm, hne, hs⟩ := State.checkEntry_ok he
          exact ⟨by simp [hm, hne], hs⟩
        · exact ih hc x hx

theorem entryAt_putEntries_cases (line : Line) (entries : List (Slot × Entry)) :
    ∀ (p : Page) (l : Line) (t : Slot),
      entryAt (putEntries p line entries) l t = entryAt p l t
        ∨ l = line ∧ ∃ e, (t, e) ∈ entries ∧ entryAt (putEntries p line entries) l t = e := by
  induction entries with
  | nil => exact fun _ _ _ => .inl rfl
  | cons x rest ih =>
    intro p l t
    obtain h | ⟨hl, e, he, h⟩ := ih (putEntry p line x.1 x.2) l t
    · change entryAt (putEntries (putEntry p line x.1 x.2) line rest) l t = _ ∨ _
      rw [h, entryAt_putEntry]
      split
      case isTrue hx =>
        obtain ⟨rfl, rfl⟩ := hx
        refine .inr ⟨rfl, x.2, List.mem_cons_self, ?_⟩
        change entryAt (putEntries (putEntry p l x.1 x.2) l rest) l x.1 = _
        rw [h, entryAt_putEntry]
        simp
      case isFalse => exact .inl rfl
    · exact .inr ⟨hl, e, List.mem_cons_of_mem _ he, h⟩

theorem writeEntries_keepsMap (r : Request) (s : State) : s.KeepsMap (writeEntries r s) := by
  unfold writeEntries
  split
  case h_2 => exact .of_view (State.badLength_mapView s r)
  split
  · exact .of_view (State.badLength_mapView s r)
  split
  · exact .of_view (State.answer_mapView ..)
  split
  · exact .of_view (State.answer_mapView ..)
  split
  · exact .of_view (State.answer_mapView ..)
  split
  · exact .of_view (State.answer_mapView ..)
  rename_i line _ _ _ _ entries hc
  refine .of_entries rfl rfl rfl fun name l t => ?_
  simp only [State.answer_switch, State.withSwitch_switch, Switch.page_withStandby]
  split
  · obtain h | ⟨rfl, e, he, h⟩ := entryAt_putEntries_cases line entries s.switch.standbyPage l t
    · exact .inl ⟨_, h⟩
    · right; rw [h]; exact State.checkEntries_ok _ hc _ he
  · exact .inl ⟨name, rfl⟩

/-! ### Move Channel -/

/-- A location whose move is accepted is in no use as a source, and the link is SETTLED (R175, checks 2 and 5). -/
theorem State.moveRefusal_eq_none {s : State} {loc : Location} (h : s.moveRefusal loc = none) :
    s.link.state = .settled ∧ s.switch.lowestLine (Entry.namesSource loc) = none := by
  simp only [State.moveRefusal] at h
  split at h
  · cases h
  rename_i hst
  refine ⟨by cases hs : s.link.state <;> simp_all, ?_⟩
  (repeat' split at h) <;> simp_all

/-- With no move pending before it, an accepted move and its hold-marked answer keep the laws (R5, R150, R176). -/
theorem State.acceptMove_keepsMap {s : State} {loc : Location} (r : Request) (d : List Byte)
    (hfree : s.engine.executor = .ready) (h : s.moveRefusal loc = none) :
    s.KeepsMap ((s.acceptMove loc).answerHeld r d) := by
  obtain ⟨hst, hnone⟩ := State.moveRefusal_eq_none h
  have hm : ∀ line slot, ((s.acceptMove loc).answerHeld r d).management line slot
      = (s.link.current.covers line slot || (loc.covers line slot
          || coveredBy s.link.former.toList line slot)) := fun _ _ => rfl
  have hsub : ∀ line slot, coveredBy s.link.former.toList line slot = true →
      s.management line slot = true := fun line slot hc => by
    simp only [State.management, coveredBy, Link.locations, List.any_cons, List.any_append,
      Bool.or_eq_true] at hc ⊢
    exact .inr (.inr hc)
  have he : ∀ name line slot,
      entryAt (((s.acceptMove loc).answerHeld r d).switch.page name) line slot
        = if loc.covers line slot then .control else entryAt (s.switch.page name) line slot := by
    intro name line slot
    change entryAt ((s.switch.joinLocation loc).page name) line slot = _
    simp [Switch.joinLocation]
  refine ⟨fun hl => ?_, fun hl hlaw => ?_, fun hs => ?_⟩
  · obtain ⟨h1, -, -⟩ := hl
    refine ⟨fun _ => h1 hst, fun ht => ?_, fun _ => rfl⟩
    simp [State.answerHeld, State.acceptMove, hst] at ht
  · rw [State.mapLaw_iff] at hlaw ⊢
    intro name line slot
    have hp : s.link.pendingMove = none := by
      by_contra hc
      have := hl.2.2 (Option.isSome_iff_ne_none.mpr hc)
      simp [hfree] at this
    have hold : s.management line slot
        = (s.link.current.covers line slot || coveredBy s.link.former.toList line slot) := by
      simp [State.management, Link.locations, coveredBy, hp]
    rw [he, hm]
    specialize hlaw name line slot
    rw [hold] at hlaw
    split
    case isTrue hc => simp [hc]
    case isFalse hc => rw [hlaw]; simp [hc]
  · rw [State.sourceLaw_iff] at hs ⊢
    intro name line slot
    rw [he]
    split
    · rfl
    refine State.sourceAllowed_mono (hs name line slot) (fun m t j hent hc => ?_) fun _ _ _ _ h => h
    have hn := Switch.lowestLine_eq_none hnone name line slot
    rw [hent] at hn
    rw [hm, show loc.covers m t = false from hn, Bool.false_or, Bool.or_eq_true] at hc
    exact hc.elim (fun h => (s.management_iff m t).2 (.inl h)) (hsub m t)

end Sys2Proof.Machine
end

section
/-! CERTIFICATE. Every command keeps the laws of the map (R4 to R6, R164): StepsKeepTheMapLaw. -/

namespace Sys2Proof.Machine

/-! ### Requests -/

/-- A row keeps the laws of the map where carrying out the request it takes does; the executor is READY then (R149). -/
theorem State.serve_keepsMap (s : State) (test : Request → Bool) {carry : Request → State → State}
    (h : ∀ r t, t.engine.executor = .ready → State.KeepsMap t (carry r t)) :
    s.KeepsMap (s.serve test carry) := by
  obtain hs | ⟨r, rest, ht, -, hs⟩ := s.serve_cases test carry
  · rw [hs]; exact .refl s
  · obtain ⟨-, -, hready, -, -⟩ := ht
    rw [hs]
    exact (State.KeepsMap.of_view (t := s.taken rest) (State.withEngine_mapView rfl)).trans
      (h r _ hready)

/-- A row whose request changes nothing the laws of the map read keeps them. -/
theorem State.serve_keepsMap_of_view (s : State) (test : Request → Bool) {carry : Request → State → State}
    (h : ∀ r t, (carry r t).mapView = t.mapView) : s.KeepsMap (s.serve test carry) :=
  s.serve_keepsMap test fun r t _ => .of_view (h r t)

section reports
variable (r : Request) (s : State)

@[simp] theorem echo_mapView : (echo r s).mapView = s.mapView := by
  unfold echo; split <;> simp
@[simp] theorem identify_mapView : (identify r s).mapView = s.mapView := by
  unfold identify; split <;> simp
@[simp] theorem getLine_mapView : (getLine r s).mapView = s.mapView := by
  unfold getLine; (repeat' split) <;> simp
@[simp] theorem readStats_mapView : (readStats r s).mapView = s.mapView := by
  unfold readStats; (repeat' split) <;> simp
@[simp] theorem setReference_mapView : (setReference r s).mapView = s.mapView := by
  unfold setReference; (repeat' split) <;> simp
@[simp] theorem getTiming_mapView : (getTiming r s).mapView = s.mapView := by
  unfold getTiming; split <;> simp
@[simp] theorem readEntries_mapView : (readEntries r s).mapView = s.mapView := by
  unfold readEntries; (repeat' split) <;> simp
@[simp] theorem setPattern_mapView : (setPattern r s).mapView = s.mapView := by
  unfold setPattern; (repeat' split) <;> simp
@[simp] theorem getPattern_mapView : (getPattern r s).mapView = s.mapView := by
  unfold getPattern; (repeat' split) <;> simp
theorem pageRequest_mapView {accept : State → State} (h : (accept s).mapView = s.mapView) :
    (pageRequest accept r s).mapView = s.mapView := by
  unfold pageRequest; (repeat' split) <;> simp [h]
@[simp] theorem getPages_mapView : (getPages r s).mapView = s.mapView := by
  unfold getPages; split <;> simp
@[simp] theorem addSchedule_mapView : (addSchedule r s).mapView = s.mapView := by
  simp only [addSchedule]; (repeat' split) <;> simp
@[simp] theorem cancelSchedule_mapView : (cancelSchedule r s).mapView = s.mapView := by
  unfold cancelSchedule; (repeat' split) <;> simp
@[simp] theorem listSchedule_mapView : (listSchedule r s).mapView = s.mapView := by
  unfold listSchedule; split <;> simp
@[simp] theorem setProbe_mapView : (setProbe r s).mapView = s.mapView := by
  unfold setProbe; (repeat' split) <;> simp
@[simp] theorem readProbe_mapView : (readProbe r s).mapView = s.mapView := by
  unfold readProbe; (repeat' split) <;> simp
@[simp] theorem getLink_mapView : (getLink r s).mapView = s.mapView := by
  unfold getLink; (repeat' split) <;> simp
@[simp] theorem setNotices_mapView : (setNotices r s).mapView = s.mapView := by
  simp only [setNotices]; (repeat' split) <;> simp
@[simp] theorem getNotices_mapView : (getNotices r s).mapView = s.mapView := by
  unfold getNotices; split <;> simp

end reports

theorem setLine_keepsMap (r : Request) (s : State) : s.KeepsMap (setLine r s) := by
  unfold setLine
  split
  case h_2 => exact .of_view (State.badLength_mapView s r)
  split
  · exact .of_view (State.answer_mapView ..)
  split
  · exact .of_view (State.answer_mapView ..)
  · rename_i h
    exact (State.applyLine_keepsMap h).trans (.of_view (State.answer_mapView ..))

theorem moveChannel_keepsMap (r : Request) {s : State} (hfree : s.engine.executor = .ready) :
    s.KeepsMap (moveChannel r s) := by
  unfold moveChannel
  split
  case h_2 => exact .of_view (State.badLength_mapView s r)
  split
  · exact .of_view (State.answer_mapView ..)
  split
  · exact .of_view (State.answer_mapView ..)
  · rename_i h
    exact State.acceptMove_keepsMap r _ hfree h

/-- A hold-marked answer only makes the executor HELD, as a pending move wants it (R150). -/
theorem State.answerHeld_keepsMap (s : State) (r : Request) (d : List Byte) :
    s.KeepsMap (s.answerHeld r d) :=
  ⟨fun ⟨h1, h2, _⟩ => ⟨h1, h2, fun _ => rfl⟩, fun _ h => h, fun h => h⟩

theorem restartFull_keepsMap (r : Request) (s : State) : s.KeepsMap (restartFull r s) := by
  unfold restartFull
  split
  · split
    · exact s.answerHeld_keepsMap r _
    · exact .of_view (State.answer_mapView ..)
  · exact .of_view (State.badLength_mapView s r)

theorem restartSwitch_keepsMap (r : Request) (s : State) : s.KeepsMap (restartSwitch r s) := by
  unfold restartSwitch
  split
  · split
    · exact ((State.KeepsMap.of_view s.abortPage_mapView).trans (State.rebuild_keepsMap _)).trans
        (.of_view (State.answer_mapView ..))
    · exact .of_view (State.answer_mapView ..)
  · exact .of_view (State.badLength_mapView s r)

/-! ### Every command -/

theorem State.KeepsMap.ite {s t u : State} {c : Prop} [Decidable c] (ht : s.KeepsMap t) (hu : s.KeepsMap u) :
    s.KeepsMap (if c then t else u) := by
  split
  · exact ht
  · exact hu

theorem State.takeBoundary_keepsMap (s : State) (order : BoundaryOrder) :
    s.KeepsMap (s.takeBoundary order) :=
  .ite (s.fullRestart_keepsMap _ _ _) (s.numberedBoundary_keepsMap order)

/-- Every command keeps the laws of the map (R4, R6, R164). -/
theorem exec_keepsMap {c : Instr} {s t : State} (h : exec c s = .next t) : s.KeepsMap t := by
  cases c <;> cases h
  case powerUp => exact s.fullRestart_keepsMap _ _ _
  case restartN => exact s.fullRestart_keepsMap _ _ _
  case restartNRelease => exact .ite (s.fullRestart_keepsMap _ _ _) (.refl s)
  case fullRestartBoundary => exact .ite (s.fullRestart_keepsMap _ _ _) (.refl s)
  case boundary order =>
    have hpoint : s.KeepsMap s.pointTaken := .of_view rfl
    exact .ite (s.takeBoundary_keepsMap order)
      (.ite (hpoint.trans (s.pointTaken.takeBoundary_keepsMap order)) (.refl s))
  case txFrameEnd line periods =>
    exact .of_view (State.setPort_mapView (by rw [LinePort.txPeriods_record]))
  case stall => exact .ite (.of_view rfl) (.refl s)
  case copyComplete =>
    split
    · exact .ite s.mcShare_keepsMap (.refl s)
    · exact .refl s
  case clearComplete =>
    split
    · exact .ite s.mcShare_keepsMap (.refl s)
    · exact .refl s
  case takePendingSwap =>
    split
    · exact .ite s.mcShare_keepsMap (.refl s)
    · exact .refl s
  case scheduleFiring => exact .ite s.timingShare_keepsMap (.refl s)
  case requestIntake => exact .ite (s.linkShare_keepsMap fun u => u.delivering_keepsMap _ _ _) (.refl s)
  case noticeAck => exact .ite (s.linkShare_keepsMap fun u => u.delivering_keepsMap _ _ _) (.refl s)
  case foreignKind => exact .ite (s.linkShare_keepsMap fun u => u.delivering_keepsMap _ _ _) (.refl s)
  case messageEnd => exact .ite (s.linkShare_keepsMap State.readFrame_keepsMap) (.refl s)
  case channelSwitch => exact .ite (s.linkShare_keepsMap State.readFrame_keepsMap) (.refl s)
  case trialTimeout => exact .ite (s.linkShare_keepsMap State.readFrame_keepsMap) (.refl s)
  case lineLostRevert => exact .ite (s.linkShare_keepsMap State.readFrame_keepsMap) (.refl s)
  case retransmitTimeout => exact .ite (.of_view rfl) (.refl s)
  case pulse => exact .of_view (State.rxPeriods_mapView ..)
  case flywheelFrameEnd => exact .of_view (State.rxPeriods_mapView ..)
  case restartFull => exact s.serve_keepsMap _ fun r t _ => restartFull_keepsMap r t
  case restartSwitch => exact s.serve_keepsMap _ fun r t _ => restartSwitch_keepsMap r t
  case setLine => exact s.serve_keepsMap _ fun r t _ => setLine_keepsMap r t
  case writeEntries => exact s.serve_keepsMap _ fun r t _ => writeEntries_keepsMap r t
  case moveChannel => exact s.serve_keepsMap _ fun r _ ht => moveChannel_keepsMap r ht
  case copyPage => exact s.serve_keepsMap_of_view _ fun r t => pageRequest_mapView r t rfl
  case clearPage => exact s.serve_keepsMap_of_view _ fun r t => pageRequest_mapView r t rfl
  case swapPages => exact s.serve_keepsMap_of_view _ fun r t => pageRequest_mapView r t rfl
  -- the other rows report, or set what the laws of the map do not read
  all_goals exact s.serve_keepsMap_of_view _ fun r t => by simp

/-- Every step keeps the laws of the map: the command at the front of the queue does, and so does a REFCLK period. -/
theorem step_keepsMap {s t : State} (h : step s = .next t) : s.KeepsMap t := by
  unfold step at h
  split at h
  · exact (State.KeepsMap.of_view (s.withPending_mapView _)).trans (exec_keepsMap h)
  · cases h; exact .of_view s.refclkPeriod_mapView

/-- Settles O53: what every command does to the laws (`exec_keepsMap`), command by command. -/
theorem stepsKeepTheMapLaw : Obligations.StepsKeepTheMapLaw :=
  ⟨fun _ _ ⟨hl, hm⟩ hs => ⟨(step_keepsMap hs).link hl, (step_keepsMap hs).map hl hm⟩,
    fun _ _ ⟨_, hsrc⟩ hs => (step_keepsMap hs).source hsrc⟩

end Sys2Proof.Machine
end

section
/-! CERTIFICATE. The full restarts and the state after reset: FullRestarts, ResetIsFullRestart. -/

namespace Sys2Proof.Machine

/-! ### The values of a full restart -/

/-- A line port after a full restart, item by item (R80). -/
theorem restartPort_record (straps : Straps) (line : Line) :
    (restartPort straps line).record =
      if line = straps.ctlLine then
        { rxOn := true, txOn := true
          slots := if straps.ctlFmt = 2 then 16 else if straps.ctlFmt = 3 then 64 else 32
          width := if straps.ctlFmt = 1 then .w16 else if straps.ctlFmt = 2 then .w32 else .w8
          loss := .fill, lossPattern := 0 }
      else
        { rxOn := false, txOn := false, slots := 32, width := .w8, loss := .fill, lossPattern := 0 } := by
  by_cases h : line = straps.ctlLine <;> simp [restartPort, h, strapSlots, strapWidth]

theorem strapLocation_covers (straps : Straps) (line : Line) (slot : Slot) :
    (strapLocation straps).covers line slot = true
      ↔ line = straps.ctlLine ∧ slot.val < if straps.ctlW then 2 else 1 := by
  simp only [Location.covers, Bool.and_eq_true, decide_eq_true_eq]
  simp [strapLocation, eq_comm (a := line)]

section restart
variable (s : State) (straps : Straps) (cause : RestartCause) (held : Bool)

@[simp] theorem State.fullRestart_port (line : Line) :
    (s.fullRestart straps cause held).port line = restartPort straps line := by
  simp [State.fullRestart, State.port]

@[simp] theorem State.fullRestart_store (line : Line) :
    (s.fullRestart straps cause held).store line = restartStore := by
  simp [State.fullRestart, State.store]

/-- A full restart leaves every item of the part at its full-restart value. -/
theorem State.fullRestart_fullyRestarted :
    (s.fullRestart straps cause held).fullyRestarted straps cause := by
  refine ⟨fun line => ?_, rfl, rfl, rfl, rfl, rfl, rfl, rfl, rfl, rfl, rfl, rfl, rfl, rfl, rfl, rfl, rfl,
    rfl, fun name line slot => ?_, rfl, fun i => ?_, rfl, fun p => ?_, rfl, rfl, rfl⟩
  · simp only [State.fullRestart_port, State.fullRestart_store]
    refine ⟨restartPort_record straps line, ?_, rfl, rfl, rfl, rfl, rfl, rfl, rfl, rfl, rfl, rfl, rfl, rfl,
      rfl, ?_, rfl⟩
    · simp [restartPort, emptyFramer]
    · simp [State.fullRestart, restartTiming]
  · change entryAt ((blankSwitch [strapLocation straps]).page name) line slot = _
    rw [Switch.page_blankSwitch, entryAt_blankPage]
    simp [coveredBy, strapLocation_covers]
  · simp [State.pattern, State.fullRestart, blankSwitch]
  · simp [State.probe, State.fullRestart, restartProbe]

end restart

theorem State.reset_eq_fullRestart :
    State.reset = State.reset.fullRestart resetStraps .powerOrPin false := rfl

/-- Settles O2: State.reset is a full restart, and its laws are those of blank pages and empty queues. -/
theorem resetIsFullRestart : Obligations.ResetIsFullRestart := by
  refine ⟨⟨?_, rfl, rfl⟩, State.linkLaw_of_rest (restartLink_rests _), State.mapLaw_of_blank rfl,
    State.sourceLaw_of_blank rfl, by decide, by decide, by decide, by decide, by decide, by decide,
    by decide, by decide, trivial, by decide, ?_, fun _ => rfl⟩
  · rw [State.reset_eq_fullRestart]
    exact State.fullRestart_fullyRestarted _ resetStraps _ _
  · simp [State.payloadLaw, State.reset, restartEngine, restartLink, Receiver.law]

/-- A boundary that falls with the transmitter STOPPED and no move pending is the restart boundary (R161). -/
theorem State.restartBoundary {s : State} (hh : s.held = false) (hp : s.timing.placed = true)
    (ho : s.opening.isOpen = false) (ht : s.link.transmitter = .stopped)
    (hm : s.link.pendingMove = none) : s.boundaryDue = true ∧ s.restartDue = true := by
  simp [State.boundaryDue, State.restartDue, hh, hp, ho, ht, hm]

/-- Settles O3: each of the five commands is a full restart of the state it finds. -/
theorem fullRestarts : Obligations.FullRestarts := by
  refine ⟨fun s straps high => ⟨?_, ?_, fun hh => ?_⟩, fun s straps order hh hp ho ht hm => ?_⟩
  · exact ⟨_, rfl, s.fullRestart_fullyRestarted _ _ _, rfl, rfl⟩
  · exact ⟨_, rfl, s.fullRestart_fullyRestarted _ _ _, rfl, rfl⟩
  · exact ⟨s.fullRestart straps .powerOrPin false, by simp [exec, execRestartNRelease, hh],
      s.fullRestart_fullyRestarted _ _ _, rfl, rfl⟩
  · obtain ⟨hdue, hrestart⟩ := State.restartBoundary hh hp ho ht hm
    exact ⟨⟨s.fullRestart straps .request false, by simp [exec, execFullRestartBoundary, hdue, hrestart],
        s.fullRestart_fullyRestarted _ _ _, rfl, rfl⟩,
      s.fullRestart s.straps .request false,
      by simp [exec, execBoundary, State.takeBoundary, hdue, hrestart],
      s.fullRestart_fullyRestarted _ _ _, rfl, rfl⟩

end Sys2Proof.Machine
end

section
/-! CERTIFICATE. The restart of the cross-connect: RestartSwitchRebuildsTheCrossConnect. -/

namespace Sys2Proof.Machine

/-! ### Restart of scope SWITCH -/

/-- The final response of a page operation's owner, with `rest` waiting (R25, R152). -/
def ownerResponse (rest : List Request) (kind owner : Byte) (status : Status) (data : List Byte) : Response :=
  { kind := kind + 0x80, seq := owner, status := status, credit := BitVec.ofNat 8 (4 - rest.length)
    data := data, hold := false }

/-- Filling the reserved place once a request has been taken, in the words of the statements (R25, R153). -/
theorem State.taken_fillReserved (s : State) (rest : List Request) (kind owner : Byte) (c : Status)
    (d : List Byte) :
    (s.taken rest).fillReserved kind owner c d =
      { s with engine := { s.engine.answered rest (ownerResponse rest kind owner c d) with reserved := false } } := by
  simp [State.fillReserved, RequestEngine.queueFinal, RequestEngine.answered, RequestEngine.response,
    ownerResponse, pushCache_eq, State.withEngine, responseKind, RequestEngine.credit, octet,
    Config.requestPlaces]

/-- Answering from a state that has answered another request in the same act (R39, R160). -/
theorem State.answer_engine (s : State) (r : Request) (c : Status) (d : List Byte) :
    (s.answer r c d).engine
      = s.engine.answered s.engine.requests (finalResponse r s.engine.requests c d false) := by
  simp [State.answer, RequestEngine.queueFinal, RequestEngine.answered, RequestEngine.response,
    finalResponse, pushCache_eq, responseKind, RequestEngine.credit, octet, Config.requestPlaces]

/-- The queue of requests is no business of an abort (R39). -/
@[simp] theorem State.abortPage_requests (s : State) : s.abortPage.engine.requests = s.engine.requests := by
  unfold State.abortPage; split <;> rfl

/-- Settles O52: abort, rebuild and answer in turn, item by item. -/
theorem restartSwitchRebuildsTheCrossConnect : Obligations.RestartSwitchRebuildsTheCrossConnect := by
  intro s r rest ht hkind hpay
  have hrow : restartRow 1 r = true := by simp [restartRow, hkind, hpay]
  have hexec : exec .restartSwitch s = .next ((s.taken rest).abortPage.rebuild.answer r .ok [2]) := by
    simp only [exec, execRestartSwitch, State.serve_takes ht hrow, restartSwitch, hpay, if_true]
  refine ⟨_, hexec, fun name line slot => ?_, rfl, fun i => ?_, rfl, rfl, fun i => ?_, ?_, ?_⟩
  · change entryAt ((blankSwitch (s.taken rest).abortPage.link.locations).page name) line slot = _
    rw [State.abortPage_link, Switch.page_blankSwitch, entryAt_blankPage]
    rfl
  · simp [State.pattern, State.rebuild, blankSwitch]
  · simp [State.probe, State.rebuild, restartProbe]
  · have hreq : (s.taken rest).abortPage.rebuild.engine.requests = rest := by simp
    rw [State.answer_engine, hreq, State.rebuild_engine]
    have habort : (s.taken rest).mc = s.mc := rfl
    cases hmc : s.mc.state <;>
      simp only [State.abortPage, McState.aborted, habort, hmc, State.taken_fillReserved] <;> rfl
  · simp

end Sys2Proof.Machine
end

section
/-! CERTIFICATE. The reports: ReportsReadTheState. -/

namespace Sys2Proof.Machine

/-! ### Reports -/

/-- A row that answers the request it takes and does no more leaves only the answer (R149). -/
theorem State.serve_answers {s : State} {r : Request} {rest : List Request} {test : Request → Bool}
    {carry : Request → State → State} {c : Status} {d : List Byte} (ht : s.takes r rest)
    (hk : test r = true) (h : carry r (s.taken rest) = (s.taken rest).answer r c d) :
    s.serve test carry = s.answered r rest c d := by
  rw [State.serve_takes ht hk, h, State.taken_answer]

/-- A request of the row's kind passes its test. -/
theorem ofKind_true {kind : Byte} {r : Request} (h : r.kind = kind) : ofKind kind r = true := by
  simp [ofKind, h]

theorem finRange_drop_take (n start count : Nat) :
    ((List.finRange n).drop start).take count
      = (List.finRange n).filter fun t => start ≤ t.val ∧ t.val < start + count := by
  have hsplit : List.finRange n = (List.finRange n).take start ++ (((List.finRange n).drop start).take count
      ++ (List.finRange n).drop (start + count)) := by
    rw [← List.drop_drop, List.take_append_drop, List.take_append_drop]
  conv_rhs => rw [hsplit]
  rw [List.filter_append, List.filter_append, List.filter_eq_nil_iff.mpr, List.filter_eq_self.mpr,
    List.filter_eq_nil_iff.mpr, List.nil_append, List.append_nil]
  · intro t h
    obtain ⟨i, hi, rfl⟩ := List.mem_drop_iff_getElem.mp h
    simp
  · intro t h
    obtain ⟨i, hi, rfl⟩ := List.mem_take_iff_getElem.mp h
    simp at hi ⊢
    omega
  · intro t h
    obtain ⟨i, hi, rfl⟩ := List.mem_take_iff_getElem.mp h
    simp at hi ⊢
    omega

theorem vector_toList_eq_map {α : Type} {n : Nat} (v : Vector α n) :
    v.toList = (List.finRange n).map fun i => v[i] := by
  apply List.ext_getElem <;> simp

/-- The entries read are those of the slots from the start slot on, in slot order (R16). -/
theorem readOctets_eq (p : Page) (line : Line) (start count : Nat) :
    readOctets p line start count =
      ((List.finRange 64).filter fun t => start ≤ t.val ∧ t.val < start + count).flatMap fun t =>
        (entryAt p line t).octets := by
  rw [readOctets, vector_toList_eq_map, ← List.map_drop, ← List.map_take, finRange_drop_take,
    List.flatMap_map]
  rfl

/-- The page that Read Entries reads by its selector (R15). -/
def State.pageRead (s : State) (standby : Bool) : PageName :=
  if standby then s.switch.active.other else s.switch.active

section reports
variable {s : State} {r : Request} {rest : List Request} (ht : s.takes r rest)
include ht

theorem exec_getLine {line : Line} (hk : r.kind = 0x09) (hp : r.payload = [BitVec.ofNat 8 line.val]) :
    exec .getLine s = .next (s.answered r rest .ok (s.lineReport line)) := by
  refine congrArg _ (State.serve_answers ht (ofKind_true hk) ?_)
  simp only [getLine, hp, lineOf_octet]
  rfl

theorem exec_getTiming (hk : r.kind = 0x11) (hp : r.payload = []) :
    exec .getTiming s = .next (s.answered r rest .ok s.timing.report) := by
  refine congrArg _ (State.serve_answers ht (ofKind_true hk) ?_)
  simp only [getTiming, hp]
  rfl

theorem exec_getPattern {i : PatternIndex} (hk : r.kind = 0x1B) (hp : r.payload = [BitVec.ofNat 8 i.val]) :
    exec .getPattern s
      = .next (s.answered r rest .ok (BitVec.ofNat 8 i.val :: (s.pattern i).octets)) := by
  refine congrArg _ (State.serve_answers ht (ofKind_true hk) ?_)
  simp only [getPattern, hp, patternOf_octet]
  rfl

theorem exec_getPages (hk : r.kind = 0x23) (hp : r.payload = []) :
    exec .getPages s = .next (s.answered r rest .ok
      ([s.switch.active.code, s.mc.state.code] ++ s.mc.state.report ++ frameRecord s.mc.endFrame
        ++ frameRecord s.mc.lastSwap)) := by
  refine congrArg _ (State.serve_answers ht (ofKind_true hk) ?_)
  simp only [getPages, hp]
  rfl

theorem exec_listSchedule (hk : r.kind = 0x2A) (hp : r.payload = []) :
    exec .listSchedule s = .next (s.answered r rest .ok
      (octet s.schedule.length :: s.schedule.flatMap ScheduleEntry.octets)) := by
  refine congrArg _ (State.serve_answers ht (ofKind_true hk) ?_)
  simp only [listSchedule, hp]
  rfl

theorem exec_getNotices (hk : r.kind = 0x3D) (hp : r.payload = []) :
    exec .getNotices s = .next (s.answered r rest .ok s.notices.report) := by
  refine congrArg _ (State.serve_answers ht (ofKind_true hk) ?_)
  simp only [getNotices, hp]
  rfl

/-- Read Entries with its fields in range (R15, R16). -/
theorem exec_readEntries {standby : Bool} {line : Line} {start count : Nat} (hk : r.kind = 0x19)
    (h1 : 1 ≤ count) (h13 : count ≤ 13) (hfit : start + count ≤ 64)
    (hp : r.payload = [if standby then 1 else 0, BitVec.ofNat 8 line.val, BitVec.ofNat 8 start,
      BitVec.ofNat 8 count]) :
    exec .readEntries s = .next
      (if standby && s.mc.state.rewriting then s.answered r rest .pageBusy [0]
      else s.answered r rest .ok
        ([(s.pageRead standby).code, BitVec.ofNat 8 line.val, BitVec.ofNat 8 start, BitVec.ofNat 8 count]
          ++ readOctets (s.switch.page (s.pageRead standby)) line start count)) := by
  have hs : (BitVec.ofNat 8 start).toNat = start := by simp; omega
  have hc : (BitVec.ofNat 8 count).toNat = count := by simp; omega
  have hrange : (decide (count < 1) || decide (13 < count) || decide (64 ≤ start)
      || decide (64 < start + count)) = false := by simp; omega
  refine congrArg Host.Outcome.next ?_
  rw [State.serve_takes ht (ofKind_true hk)]
  simp only [readEntries, hp, flagOf_octet, lineOf_octet, hs, hc, hrange, Bool.false_eq_true, if_false,
    State.withEngine_mc]
  split
  · exact State.taken_answer ..
  · exact State.taken_answer ..

end reports

theorem qualify_octets (q : Vector Nat 8) :
    q.toList.map octet = (List.finRange 8).map fun line => BitVec.ofNat 8 q[line] := by
  rw [vector_toList_eq_map, List.map_map]; rfl

/-- Settles O41: each report is what its row answers, read field by field. -/
theorem reportsReadTheState : Obligations.ReportsReadTheState := by
  refine ⟨fun s r rest ht => ⟨fun line hk hp => exec_getLine ht hk hp, fun hk hp => ?_,
    fun i hk hp => ?_, fun hk hp => ?_, fun hk hp => ?_, fun hk hp => exec_getNotices ht hk hp⟩,
    fun s r rest standby line start count ht hk h1 h13 hfit hp => ?_, fun _ _ _ _ => rfl⟩
  · rw [exec_getTiming ht hk hp, Timing.report, qualify_octets]
    rfl
  · exact exec_getPattern ht hk hp
  · rw [exec_getPages ht hk hp]
    cases s.mc.state <;> rfl
  · rw [exec_listSchedule ht hk hp]
    congr 4
    funext e
    rcases e with ⟨tag, due, _ | _⟩ <;> rfl
  · rw [exec_readEntries ht hk h1 h13 hfit hp]
    refine ⟨fun h => ?_, fun h1 h2 => by simp [h1, h2]⟩
    rw [if_neg (by rcases h with h | h <;> simp [h]), readOctets_eq]
    rfl

end Sys2Proof.Machine
end

section
/-! CERTIFICATE. Write Entries: WriteEntriesStoresItsEntries. -/

namespace Sys2Proof.Machine

/-! ### Entries written -/

/-- An entry's four octets as the fields that Write Entries reads (R203). -/
def Entry.fields : Entry → Byte × Byte × Byte × Byte
  | .release => (0, 0, 0, 0)
  | .slot l t j => (1, octet l.val, octet t.val, j.code)
  | .pattern i j => (2, octet i.val, 0, j.code)
  | .control => (3, 0, 0, 0)

theorem entryOctets_flatMap (entries : List Entry) :
    entryOctets (entries.flatMap Entry.octets) = entries.map Entry.fields := by
  induction entries with
  | nil => rfl
  | cons e rest ih => cases e <;> simp [Entry.octets, Entry.fields, entryOctets, ih]

theorem length_flatMap_octets (entries : List Entry) :
    (entries.flatMap Entry.octets).length = 4 * entries.length := by
  induction entries with
  | nil => rfl
  | cons e rest ih => cases e <;> simp [Entry.octets, ih] <;> omega

/-- An entry that may be written passes the check of its own octets (R11). -/
theorem State.checkEntry_fields {s : State} {line : Line} {slot : Slot} {e : Entry}
    (hm : s.management line slot = false) (hc : e ≠ .control) (hs : s.sourceAllowed e = true) :
    s.checkEntry line slot e.fields = .ok e := by
  cases e with
  | release => simp [State.checkEntry, hm, Entry.fields]
  | control => exact absurd rfl hc
  | pattern i j =>
    simp [State.checkEntry, hm, Entry.fields, checkPatternSource, octet, patternOf_octet, justifyOf_octet]
  | slot l t j =>
    rw [State.sourceAllowed_slot] at hs
    simp [State.checkEntry, hm, Entry.fields, State.checkSlotSource, octet, lineOf_octet, slotOf_octet,
      justifyOf_octet, hs]

/-- Entries with the slots they are written to, from `start` on (R12). -/
def placedFrom : Nat → List Entry → List (Slot × Entry)
  | _, [] => []
  | start, e :: rest => (Fin.ofNat 64 start, e) :: placedFrom (start + 1) rest

theorem slot_eq_ofNat {n : Nat} (h : n < 64) : (⟨n, h⟩ : Slot) = Fin.ofNat 64 n :=
  Fin.ext (Nat.mod_eq_of_lt h).symm

theorem State.checkEntries_fields {s : State} {line : Line} (entries : List Entry) :
    ∀ (start index : Nat), start + entries.length ≤ 64 →
      (∀ slot : Slot, start ≤ slot.val → slot.val < start + entries.length →
        s.management line slot = false) →
      (∀ e ∈ entries, e ≠ .control ∧ s.sourceAllowed e = true) →
      s.checkEntries line start index (entries.map Entry.fields) = .ok (placedFrom start entries) := by
  induction entries with
  | nil => exact fun _ _ _ _ _ => rfl
  | cons e rest ih =>
    intro start index hfit hm hs
    rw [List.length_cons] at hfit hm
    have hlt : start < 64 := by omega
    obtain ⟨hc, ha⟩ := hs e List.mem_cons_self
    have hrest := ih (start + 1) (index + 1) (by omega)
      (fun slot h1 h2 => hm slot (by omega) (by omega)) fun e he => hs e (List.mem_cons_of_mem _ he)
    have htarget := hm ⟨start, hlt⟩ (Nat.le_refl _) (by show start < _; omega)
    simp only [List.map_cons, State.checkEntries, hlt, dif_pos, State.checkEntry_fields htarget hc ha, hrest]
    rw [slot_eq_ofNat hlt]
    rfl

/-- The page after entries are written from `start` on: theirs there, the old ones elsewhere (R12). -/
theorem entryAt_putEntries (line : Line) (entries : List Entry) :
    ∀ (start : Nat) (p : Page) (l : Line) (t : Slot), start + entries.length ≤ 64 →
      entryAt (putEntries p line (placedFrom start entries)) l t =
        if l = line ∧ start ≤ t.val ∧ t.val < start + entries.length then
          entries.getD (t.val - start) .release
        else entryAt p l t := by
  induction entries with
  | nil => intro start p l t _; rw [if_neg (by simp)]; rfl
  | cons e rest ih =>
    intro start p l t hfit
    rw [List.length_cons] at hfit
    have hslot : ∀ h : start < 64, t = Fin.ofNat 64 start ↔ t.val = start := fun h => by
      rw [← slot_eq_ofNat h, Fin.ext_iff]
    change entryAt (putEntries (putEntry p line (Fin.ofNat 64 start) e) line
      (placedFrom (start + 1) rest)) l t = _
    rw [ih (start + 1) _ l t (by omega), entryAt_putEntry, List.length_cons]
    simp only [hslot (by omega)]
    by_cases hl : l = line
    · obtain hlt | heq | hgt := Nat.lt_trichotomy t.val start
      · simp [hl, show ¬ start + 1 ≤ t.val by omega, show ¬ t.val = start by omega,
          show ¬ start ≤ t.val by omega]
      · simp [hl, heq]
      · have hsub : t.val - start = (t.val - (start + 1)) + 1 := by omega
        have hend : start + 1 + rest.length = start + (rest.length + 1) := by omega
        simp only [hl, hsub, hend, List.getD_cons_succ, show start + 1 ≤ t.val by omega,
          show start ≤ t.val by omega, show ¬ t.val = start by omega, true_and, if_false]
    · simp [hl]

/-! ### Entries refused -/

theorem lineOf_eq (b : Byte) : lineOf b = if 8 ≤ b.toNat then none else some (Fin.ofNat 8 b.toNat) := by
  unfold lineOf
  by_cases h : b.toNat < 8
  · rw [dif_pos h, if_neg (by omega)]
    exact congrArg some (Fin.ext (Nat.mod_eq_of_lt h).symm)
  · rw [dif_neg h, if_pos (by omega)]

theorem slotOf_eq (b : Byte) : slotOf b = if 64 ≤ b.toNat then none else some (Fin.ofNat 64 b.toNat) := by
  unfold slotOf
  by_cases h : b.toNat < 64
  · rw [dif_pos h, if_neg (by omega), slot_eq_ofNat h]
  · rw [dif_neg h, if_pos (by omega)]

theorem patternOf_eq_none_iff (b : Byte) : patternOf b = none ↔ 16 ≤ b.toNat := by
  unfold patternOf
  split <;> simp <;> omega

theorem justifyOf_eq_none_iff (b : Byte) : justifyOf b = none ↔ 1 < b.toNat := by
  revert b; decide

/-- A check ends as the statement's words say: refused with this status, or passed. -/
def endsAs (refusal : Option Status) (out : Except Status Entry) : Prop :=
  match refusal with
  | some status => out = .error status
  | none => ∃ entry, out = .ok entry

theorem endsAs_error (status : Status) : endsAs (some status) (.error status) := rfl

theorem endsAs_ok (entry : Entry) : endsAs none (.ok entry) := ⟨entry, rfl⟩

/-- The check of a PATTERN source refuses its index, then its justify (R11, checks 6 and 7). -/
theorem checkPatternSource_endsAs (a j : Byte) :
    endsAs (if 16 ≤ a.toNat then some .badValue else if 1 < j.toNat then some .badValue else none)
      (checkPatternSource a j) := by
  simp only [← patternOf_eq_none_iff, ← justifyOf_eq_none_iff]
  unfold checkPatternSource
  cases patternOf a with
  | none => exact endsAs_error _
  | some i =>
    cases justifyOf j with
    | none => exact endsAs_error _
    | some justify => exact endsAs_ok _

/-- The check of a SLOT source refuses its line, its slot, a management position, and then its justify (R11, checks 3, 4, 5 and 7). -/
theorem State.checkSlotSource_endsAs (s : State) (a b j : Byte) :
    endsAs
      (if 8 ≤ a.toNat then some .badValue
      else if 64 ≤ b.toNat ∨ (s.port (Fin.ofNat 8 a.toNat)).record.slots ≤ b.toNat then some .badValue
      else if s.management (Fin.ofNat 8 a.toNat) (Fin.ofNat 64 b.toNat) then some .reserved
      else if 1 < j.toNat then some .badValue
      else none)
      (s.checkSlotSource a b j) := by
  simp only [← justifyOf_eq_none_iff, State.checkSlotSource, lineOf_eq, slotOf_eq]
  by_cases ha : 8 ≤ a.toNat
  · simp only [ha, if_true]; exact endsAs_error _
  by_cases hb : 64 ≤ b.toNat
  · simp only [ha, hb, if_true, if_false, true_or]; exact endsAs_error _
  have hval : (Fin.ofNat 64 b.toNat).val = b.toNat := Nat.mod_eq_of_lt (by omega)
  simp only [ha, hb, if_false, hval, false_or]
  by_cases hs : (s.port (Fin.ofNat 8 a.toNat)).record.slots ≤ b.toNat
  · simp only [hs, if_true]; exact endsAs_error _
  simp only [hs, if_false]
  split
  · exact endsAs_error _
  cases justifyOf j with
  | none => exact endsAs_error _
  | some justify => exact endsAs_ok _

/-- The check of one entry and the statement's words for it agree (R11). -/
theorem State.checkEntry_endsAs (s : State) (line : Line) (slot : Slot) (e : Byte × Byte × Byte × Byte) :
    endsAs (s.entryRefusal line slot e) (s.checkEntry line slot e) := by
  obtain ⟨kind, a, b, j⟩ := e
  by_cases hm : s.management line slot = true
  · simp only [State.entryRefusal, State.checkEntry, hm, if_true]; exact endsAs_error _
  simp only [State.entryRefusal, State.checkEntry, hm]
  by_cases h0 : kind = 0
  · subst h0; exact endsAs_ok _
  by_cases h1 : kind = 1
  · subst h1; exact s.checkSlotSource_endsAs a b j
  by_cases h2 : kind = 2
  · subst h2; exact checkPatternSource_endsAs a j
  by_cases h3 : kind = 3
  · subst h3; exact endsAs_error _
  have h4 : 3 < kind.toNat := by
    revert kind; decide
  simp only [h0, h1, h2, h3, h4, if_true, if_false]
  exact endsAs_error _

theorem State.checkEntry_eq_error {s : State} {line : Line} {slot : Slot} {e : Byte × Byte × Byte × Byte}
    {status : Status} (h : s.entryRefusal line slot e = some status) :
    s.checkEntry line slot e = .error status := by
  have hends := s.checkEntry_endsAs line slot e
  rwa [h] at hends

theorem State.checkEntry_isOk {s : State} {line : Line} {slot : Slot} {e : Byte × Byte × Byte × Byte}
    (h : s.entryRefusal line slot e = none) : ∃ entry, s.checkEntry line slot e = .ok entry := by
  have hends := s.checkEntry_endsAs line slot e
  rwa [h] at hends

/-- The first entry refused refuses them all, with its index (R11). -/
theorem State.checkEntries_eq_error {s : State} {line : Line} {status : Status}
    (octets : List (Byte × Byte × Byte × Byte)) :
    ∀ (start index k : Nat), start + octets.length ≤ 64 → (hk : k < octets.length) →
      (∀ j (hj : j < k), s.entryRefusal line (Fin.ofNat 64 (start + j)) octets[j] = none) →
      s.entryRefusal line (Fin.ofNat 64 (start + k)) octets[k] = some status →
      s.checkEntries line start index octets = .error (status, index + k) := by
  induction octets with
  | nil => intro _ _ _ _ hk; exact absurd hk (Nat.not_lt_zero _)
  | cons e rest ih =>
    intro start index k hfit hk hbefore hat
    rw [List.length_cons] at hfit hk
    have hlt : start < 64 := by omega
    rw [State.checkEntries, dif_pos hlt, slot_eq_ofNat hlt]
    cases k with
    | zero =>
      have he : s.checkEntry line (Fin.ofNat 64 start) e = .error status := State.checkEntry_eq_error hat
      rw [he]
      rfl
    | succ k =>
      obtain ⟨entry, he⟩ : ∃ entry, s.checkEntry line (Fin.ofNat 64 start) e = .ok entry :=
        State.checkEntry_isOk (hbefore 0 (Nat.succ_pos k))
      have hrest := ih (start + 1) (index + 1) k (by omega) (by omega)
        (fun j hj => by
          have := hbefore (j + 1) (by omega)
          rwa [List.getElem_cons_succ, show start + (j + 1) = start + 1 + j by omega] at this)
        (by rwa [List.getElem_cons_succ, show start + (k + 1) = start + 1 + k by omega] at hat)
      simp only [he, hrest, show index + (k + 1) = index + 1 + k by omega]

theorem length_entryOctets (count : Nat) (octets : List Byte) (h : octets.length = 4 * count) :
    (entryOctets octets).length = count := by
  induction count generalizing octets with
  | zero => rw [List.eq_nil_of_length_eq_zero h]; rfl
  | succ count ih =>
    match octets, h with
    | a :: b :: c :: d :: rest, h =>
      have hrest : rest.length = 4 * count := by simp at h; omega
      simp [entryOctets, ih rest hrest]
    | [], h | [_], h | [_, _], h | [_, _, _], h => simp at h <;> omega

theorem getElem_entryOctets (octets : List Byte) (j : Nat) (hj : j < (entryOctets octets).length) :
    (entryOctets octets)[j] = (octets.getD (4 * j) 0, octets.getD (4 * j + 1) 0,
      octets.getD (4 * j + 2) 0, octets.getD (4 * j + 3) 0) := by
  induction octets using entryOctets.induct generalizing j with
  | case1 a b c d rest ih =>
    cases j with
    | zero => rfl
    | succ j =>
      simp only [entryOctets, List.length_cons] at hj
      simp only [entryOctets, List.getElem_cons_succ, ih j (by omega)]
      rfl
  | case2 l h => simp [entryOctets] at hj

/-! ### Write Entries -/

section write
variable {s : State} {r : Request} {rest : List Request} (ht : s.takes r rest) (hk : r.kind = 0x18)
include ht hk

theorem exec_writeEntries : exec .writeEntries s = .next (writeEntries r (s.taken rest)) :=
  congrArg Host.Outcome.next (State.serve_takes ht (ofKind_true hk))

theorem exec_writeEntries_short (hp : r.payload.length < 3) :
    exec .writeEntries s = .next (s.answered r rest .badLength [BitVec.ofNat 8 r.payload.length]) := by
  rw [exec_writeEntries ht hk, ← State.taken_badLength, writeEntries]
  split
  next h => simp [h] at hp; omega
  next => rfl

variable {line start count : Byte} {octets : List Byte} (hp : r.payload = line :: start :: count :: octets)
include hp

theorem exec_writeEntries_badLength
    (hfits : ¬ (octets.length = 4 * count.toNat ∧ 1 ≤ count.toNat ∧ count.toNat ≤ 14)) :
    exec .writeEntries s = .next (s.answered r rest .badLength [BitVec.ofNat 8 r.payload.length]) := by
  have hlen : writeLength count octets = false := by
    simp only [writeLength, Bool.and_eq_false_iff, decide_eq_false_iff_not]; tauto
  rw [exec_writeEntries ht hk, ← State.taken_badLength, writeEntries, hp]
  simp only [hlen, Bool.not_false, if_true]

variable (hfits : octets.length = 4 * count.toNat ∧ 1 ≤ count.toNat ∧ count.toNat ≤ 14)
include hfits

theorem exec_writeEntries_badValue
    (hrange : ¬ (line.toNat < 8 ∧ start.toNat < 64 ∧ start.toNat + count.toNat ≤ 64)) :
    exec .writeEntries s = .next (s.answered r rest .badValue [0xFF]) := by
  have hlen : writeLength count octets = true := by simp [writeLength, hfits]
  rw [exec_writeEntries ht hk, ← State.taken_answer, writeEntries, hp]
  simp only [hlen, Bool.not_true, Bool.false_eq_true, if_false, lineOf_eq]
  by_cases hl : 8 ≤ line.toNat
  · simp only [hl, if_true]
  · have hout : (decide (64 ≤ start.toNat) || decide (64 < start.toNat + count.toNat)) = true := by
      simp; omega
    simp only [hl, if_false, hout, if_true]

/-- With count, line and slots in range Write Entries comes to the Map Controller's state and the entries' check (R10, R11). -/
theorem exec_writeEntries_inRange {l : Line} (hl : l.val = line.toNat) (hs : start.toNat < 64)
    (hsc : start.toNat + count.toNat ≤ 64) :
    exec .writeEntries s = .next
      (if s.mc.state ≠ .idle then s.answered r rest .pageBusy [0xFF]
      else
        match (s.taken rest).checkEntries l start.toNat 0 (entryOctets octets) with
        | .error failed => s.answered r rest failed.1 [octet failed.2]
        | .ok entries =>
          (s.withSwitch (s.switch.withStandby (putEntries s.switch.standbyPage l entries))).answered r
            rest .ok [s.switch.active.other.code]) := by
  have hlen : writeLength count octets = true := by simp [writeLength, hfits]
  have hline : lineOf line = some l := by
    rw [lineOf_eq, if_neg (by omega), ← hl]
    exact congrArg some (Fin.ext (Nat.mod_eq_of_lt l.isLt))
  have hin : (decide (64 ≤ start.toNat) || decide (64 < start.toNat + count.toNat)) = false := by
    simp; omega
  rw [exec_writeEntries ht hk, writeEntries, hp]
  simp only [hlen, hline, hin, Bool.not_true, Bool.false_eq_true, if_false]
  refine congrArg Host.Outcome.next ?_
  by_cases hbusy : (s.taken rest).mc.state ≠ .idle
  · rw [if_pos hbusy, if_pos (show s.mc.state ≠ .idle from hbusy), State.taken_answer]
  rw [if_neg hbusy, if_neg (show ¬ s.mc.state ≠ .idle from hbusy)]
  cases (s.taken rest).checkEntries l start.toNat 0 (entryOctets octets) with
  | error failed => exact State.taken_answer ..
  | ok entries => exact State.taken_answer (s.withSwitch _) ..

theorem exec_writeEntries_pageBusy (hline : line.toNat < 8) (hs : start.toNat < 64)
    (hsc : start.toNat + count.toNat ≤ 64) (hbusy : s.mc.state ≠ .idle) :
    exec .writeEntries s = .next (s.answered r rest .pageBusy [0xFF]) := by
  rw [exec_writeEntries_inRange ht hk hp hfits (l := ⟨line.toNat, hline⟩) rfl hs hsc, if_pos hbusy]

end write

/-- Settles O46: the entries' check by induction over the entries, and what each earlier check refuses. -/
theorem writeEntriesStoresItsEntries : Obligations.WriteEntriesStoresItsEntries := by
  refine ⟨fun s r rest line start entries ht hk h1 h14 hfit hidle hp hm hs => ?_,
    fun s r rest line start count octets ht hk hp => ⟨fun hfits => ?_, fun hfits hrange => ?_,
      fun hfits ⟨hl, hst, hsc⟩ hbusy => ?_,
      fun l k status hfits ⟨hl, hst, hsc⟩ hidle hline hkc hbefore hat => ?_⟩,
    fun s r rest ht hk hp => exec_writeEntries_short ht hk hp⟩
  · have hstart : (BitVec.ofNat 8 start).toNat = start := by simp; omega
    have hcount : (BitVec.ofNat 8 entries.length).toNat = entries.length := by simp; omega
    have hlen : (entries.flatMap Entry.octets).length = 4 * (BitVec.ofNat 8 entries.length).toNat := by
      rw [length_flatMap_octets, hcount]
    have hcheck : (s.taken rest).checkEntries line start 0 (entryOctets (entries.flatMap Entry.octets))
        = .ok (placedFrom start entries) := by
      rw [entryOctets_flatMap]
      exact State.checkEntries_fields entries start 0 hfit hm hs
    have hp : r.payload = BitVec.ofNat 8 line.val :: BitVec.ofNat 8 start
        :: BitVec.ofNat 8 entries.length :: entries.flatMap Entry.octets := hp
    refine ⟨putEntries s.switch.standbyPage line (placedFrom start entries), ?_,
      fun l t => entryAt_putEntries line entries start _ l t hfit⟩
    rw [exec_writeEntries_inRange ht hk hp ⟨hlen, by omega, by omega⟩ (l := line)
      (by simp; omega) (by omega) (by omega), hstart, hcheck, if_neg (by simp [hidle])]
    rfl
  · exact exec_writeEntries_badLength ht hk hp hfits
  · exact exec_writeEntries_badValue ht hk hp hfits hrange
  · exact exec_writeEntries_pageBusy ht hk hp hfits hl hst hsc hbusy
  · have hlen : (entryOctets octets).length = count.toNat := length_entryOctets _ _ hfits.1
    have hcheck : (s.taken rest).checkEntries l start.toNat 0 (entryOctets octets)
        = .error (status, 0 + k) := by
      refine State.checkEntries_eq_error _ _ _ _ (by omega) (by omega) (fun j hj => ?_) ?_
      · rw [getElem_entryOctets]; exact hbefore j hj
      · rw [getElem_entryOctets]; exact hat
    rw [exec_writeEntries_inRange ht hk hp hfits hline hst hsc, if_neg (by simp [hidle]), hcheck,
      Nat.zero_add]
    rfl

end Sys2Proof.Machine
end

section
/-! CERTIFICATE. Patterns at a boundary: BoundarySetsPatterns. -/

namespace Sys2Proof.Machine

/-! ### The link's act leaves the pattern table alone -/

@[simp] theorem State.giveUp_patterns (s : State) (g : Location) (k : Link) :
    (s.giveUp g k).switch.patterns = s.switch.patterns := rfl

@[simp] theorem State.revert_patterns (s : State) (why : MoveReason) :
    (s.revert why).switch.patterns = s.switch.patterns := by
  unfold State.revert; split <;> rfl

@[simp] theorem State.confirm_patterns (s : State) : s.confirm.switch.patterns = s.switch.patterns := by
  unfold State.confirm; split <;> rfl

@[simp] theorem State.headParts_patterns (s : State) :
    s.headParts.switch.patterns = s.switch.patterns := by
  have htrial : s.trialPart.switch.patterns = s.switch.patterns := by
    unfold State.trialPart; (repeat' split) <;> simp
  rw [← htrial, State.headParts, State.switchPart]
  (repeat' split) <;> rfl

@[simp] theorem State.deliver_patterns (s : State) (seq kind : Byte) (payload : List Byte) :
    (s.deliver seq kind payload).switch.patterns = s.switch.patterns := by
  unfold State.deliver State.deliverGood; (repeat' split) <;> simp

@[simp] theorem State.receive_patterns (s : State) (b : Byte) :
    (s.receive b).switch.patterns = s.switch.patterns := by
  have hchecked : ∀ len octets check, (s.checked len octets check).switch.patterns = s.switch.patterns := by
    intro len octets check
    unfold State.checked; (repeat' split) <;> simp
  unfold State.receive; (repeat' split) <;> simp [hchecked]

@[simp] theorem State.readFrame_patterns (s : State) :
    s.readFrame.switch.patterns = s.switch.patterns := by
  unfold State.readFrame
  split
  · rfl
  · exact foldl_keeps (fun t : State => t.switch.patterns) _ (fun a b => by simp) _ s

@[simp] theorem State.takeShare_patterns (before s : State) (found : Taker → State) (t : Taker) :
    (State.takeShare before found s t).switch.patterns = s.switch.patterns := by
  cases t <;> simp only [State.takeShare] <;> (try split) <;> simp [State.linkAct]

/-! ### A numbered boundary -/

/-- BOUNDARY at a numbered boundary that is due. -/
theorem exec_boundary_numbered {s : State} (h : s.numberedDue = true) (order : BoundaryOrder) :
    exec (.boundary order) s = .next (s.numberedBoundary order) := by
  simp only [State.numberedDue, Bool.and_eq_true, Bool.not_eq_true'] at h
  simp [exec, execBoundary, State.takeBoundary, h]

/-- What the shares of a boundary keep, a boundary with no bit period falling together with it has as the effects of its number leave it. -/
theorem State.numberedBoundary_plain_keeps {β : Type} (f : State → β) (s : State) (order : List Taker)
    (hs : ∀ found u t, f (State.takeShare s found u t) = f u)
    (hb : ∀ u o, f (State.withOpening (State.beginFrames u) o) = f u) :
    f (s.numberedBoundary ⟨order, []⟩) = f (s.numberedEffects fun _ => s) := by
  rw [State.numberedBoundary_plain, hb]
  exact foldl_keeps f _ (hs _) _ _

/-! ### Patterns -/

/-- The value an action gives to pattern `i`, if it is one of that pattern (R123). -/
def Action.valueFor (i : PatternIndex) : Action → Option Word
  | .pattern j v => if j = i then some v else none
  | .swap => none

theorem State.setPatternAt_pattern (s : State) (i j : PatternIndex) (v : Pattern) :
    (s.setPatternAt j v).pattern i = if j = i then v else s.pattern i := by
  by_cases h : j = i
  · subst h; simp [State.pattern, State.setPatternAt]
  · have hv : j.val ≠ i.val := fun hv => h (Fin.ext hv)
    simp [State.pattern, State.setPatternAt, h, hv]

theorem State.handOver_pattern (s : State) (n : Word) (a : Action) (i : PatternIndex) :
    (s.handOver n a).1.pattern i =
      match a.valueFor i with
      | some v => { present := v, pending := none }
      | none => s.pattern i := by
  cases a with
  | swap => simp only [State.handOver]; split <;> rfl
  | pattern j v =>
    simp only [State.handOver, State.setPatternAt_pattern, Action.valueFor]
    split <;> rfl

/-- The last entry handed over that gives pattern `i` a value sets it; with none it stays (R8, R123). -/
theorem fireAll_pattern (n : Word) (es : List ScheduleEntry) (s : State) (i : PatternIndex) :
    (fireAll n es s).1.pattern i =
      match es.reverse.findSome? fun e => e.action.valueFor i with
      | some v => { present := v, pending := none }
      | none => s.pattern i := by
  induction es generalizing s with
  | nil => rfl
  | cons e es ih =>
    rw [fireAll, ih, State.handOver_pattern, List.reverse_cons, List.findSome?_append]
    cases List.findSome? (fun e => e.action.valueFor i) es.reverse <;>
      cases h : e.action.valueFor i <;> simp [h]

theorem State.mcStep_patterns (s : State) (n : Word) :
    (s.mcStep n).switch.patterns = s.switch.patterns := by
  have hstandby : ∀ (w : Switch) (p : Page), (w.withStandby p).patterns = w.patterns := fun w p => by
    unfold Switch.withStandby; split <;> rfl
  unfold State.mcStep
  (repeat' split) <;>
    simp [State.copyLine, State.clearLine, State.writeStandbyLine, State.swapAt, Switch.swapped, hstandby]

/-- A pattern when the table comes to fire: its pending value, else its present one (R7). -/
theorem State.switchBoundary_pattern (s : State) (i : PatternIndex) :
    s.switchBoundary.pattern i
      = { present := (s.pattern i).pending.getD (s.pattern i).present, pending := none } := by
  have h : s.switchBoundary.pattern i = (s.pattern i).promote := by
    simp [State.pattern, State.switchBoundary, State.mcStep_patterns, State.promotePatterns]
  rw [h, Pattern.promote]
  rcases s.pattern i with ⟨present, _ | v⟩ <;> rfl

theorem State.switchBoundary_fireOnce {s : State} (h : s.opening.timingDone = false) :
    s.switchBoundary.fireOnce.1 = (s.switchBoundary.fire (s.timing.sfn + 1)).1 := by
  have hc : s.comingFrame = s.timing.sfn + 1 := by simp [State.comingFrame, h]
  rw [State.fireOnce, State.switchBoundary_timingDone, h, State.switchBoundary_comingFrame, hc]
  rfl

/-- Settles O11: the promotion of pending values, then the entries due in list order; no share of the boundary touches a pattern. -/
theorem boundarySetsPatterns : Obligations.BoundarySetsPatterns := by
  intro s order i hdue htiming
  refine ⟨_, exec_boundary_numbered hdue _, ?_⟩
  have hkept := State.numberedBoundary_plain_keeps (fun t => t.pattern i) s order
    (fun found u t => by simp [State.pattern]) fun _ _ => rfl
  have hfired : (s.numberedEffects fun _ => s).pattern i
      = (s.switchBoundary.fire (s.timing.sfn + 1)).1.pattern i := by
    rw [← State.switchBoundary_fireOnce htiming]; rfl
  have hvalue : (fun e : ScheduleEntry => e.action.valueFor i) = fun e =>
      match e.action with
      | .pattern j v => if j = i then some v else none
      | .swap => none := by
    funext e; cases e.action <;> rfl
  rw [hkept, hfired, State.fire, fireAll_pattern, State.due, State.switchBoundary_schedule, hvalue]
  cases List.findSome? _ (List.filter _ s.schedule).reverse with
  | some v => rfl
  | none => exact s.switchBoundary_pattern i

end Sys2Proof.Machine
end

section
/-! SUPPORT. A good message in TRIAL: what the link and the Notice Unit make of it. -/

namespace Sys2Proof.Machine

/-! ### A good message in TRIAL -/

theorem State.raise_notices (s : State) (e : Event) : (s.raise e).notices = s.notices.raise e := rfl

theorem State.confirm_trial {s : State} {former : Location} (hst : s.link.state = .trial)
    (hf : s.link.former = some former) :
    s.confirm = (s.giveUp former (s.link.settleOn s.link.current)).raise
      (.channel false .confirmed s.link.current) := by
  simp [State.confirm, hst, hf]

theorem State.confirm_settled {s : State} (hst : s.link.state = .settled) : s.confirm = s := by
  simp [State.confirm, hst]

theorem State.deliver_foreign {s : State} {kind : Byte} (h : foreign kind = true) (seq : Byte)
    (payload : List Byte) :
    s.deliver seq kind payload
      = s.withLink { s.link with foreignKinds := satInc s.link.foreignKinds } := by
  simp [State.deliver, h]

theorem State.deliver_good {s : State} {kind : Byte} (h : foreign kind = false) (seq : Byte)
    (payload : List Byte) : s.deliver seq kind payload = s.deliverGood seq kind payload := by
  simp [State.deliver, h]

section deliverGood
variable (s : State) (seq kind : Byte) (payload : List Byte)

theorem State.deliverGood_link : (s.deliverGood seq kind payload).link = s.confirm.link := by
  simp only [State.deliverGood]; split <;> simp

theorem State.deliverGood_switch : (s.deliverGood seq kind payload).switch = s.confirm.switch := by
  simp only [State.deliverGood]; split <;> simp

theorem State.deliverGood_opening : (s.deliverGood seq kind payload).opening = s.confirm.opening := by
  simp only [State.deliverGood]; split <;> simp

theorem State.deliverGood_notices :
    (s.deliverGood seq kind payload).notices = s.confirm.notices.goodMessage kind seq := by
  simp only [State.deliverGood]; split <;> simp

end deliverGood

/-- A request kind is not foreign, nor is it Notice Ack (R170). -/
theorem requestKind_of_range {kind : Byte} (h1 : 1 ≤ kind.toNat) (h2 : kind.toNat ≤ 0x3F) :
    requestKind kind = true ∧ kind ≠ Config.ackKind := by
  refine ⟨by simp [requestKind, h1, h2], fun h => ?_⟩
  rw [h] at h2
  exact absurd h2 (by decide)

theorem foreign_of_requestKind {kind : Byte} (h : requestKind kind = true) : foreign kind = false := by
  simp [foreign, h]

theorem foreign_of_range {kind : Byte} (h : kind = 0 ∨ 0x3F < kind.toNat) (hack : kind ≠ 0x60) :
    foreign kind = true := by
  have hr : requestKind kind = false := by
    simp only [requestKind, Bool.and_eq_false_iff, decide_eq_false_iff_not]
    rcases h with rfl | h
    · exact .inl (by decide)
    · exact .inr (by omega)
  simpa [foreign, hr, Config.ackKind] using hack

/-! ### What the Notice Unit makes of a good message -/

/-- A good message ends a stall and, when it is no ack of the head, does no more (R197). -/
def NoticeUnit.released (n : NoticeUnit) : NoticeUnit :=
  if n.state = .stalled then { n with sendCount := 0, state := .waiting } else n

/-- The message is a Notice Ack of the outstanding or stalled head (R195). -/
def NoticeUnit.acks (n : NoticeUnit) (kind seq : Byte) : Prop :=
  kind = Config.ackKind ∧ (n.state = .outstanding ∨ n.state = .stalled) ∧ n.headNumber = some seq

theorem NoticeUnit.goodMessage_acks {n : NoticeUnit} {kind seq : Byte} (h : n.acks kind seq) :
    n.goodMessage kind seq = n.removeHead := by
  obtain ⟨hkind, hst, hnum⟩ := h
  rcases hst with hst | hst <;> simp [NoticeUnit.goodMessage, hst, hkind, hnum]

theorem NoticeUnit.goodMessage_released {n : NoticeUnit} {kind seq : Byte} (h : ¬ n.acks kind seq) :
    n.goodMessage kind seq = n.released := by
  cases hst : n.state <;> simp_all [NoticeUnit.goodMessage, NoticeUnit.released, NoticeUnit.acks]

/-- The head removed, with the lost count reported in the place it freed (R191, R195). -/
theorem NoticeUnit.removeHead_eq (n : NoticeUnit) :
    n.removeHead =
      { n with
        queue :=
          if n.lost = 0 then n.queue.drop 1
          else n.queue.drop 1 ++ [{ event := .eventsLost n.lost, number := none }]
        lost := 0, timer := 0, sendCount := 0
        state := if n.lost = 0 ∧ n.queue.drop 1 = [] then .idle else .waiting } := by
  by_cases hl : n.lost = 0
  · simp [NoticeUnit.removeHead, NoticeUnit.reportLost, hl]
  · have hstate : (if (if (n.queue.drop 1).isEmpty then SendState.idle else .waiting) = .idle then .waiting
        else if (n.queue.drop 1).isEmpty then .idle else .waiting) = SendState.waiting := by
      cases (n.queue.drop 1).isEmpty <;> rfl
    simp only [NoticeUnit.removeHead, NoticeUnit.reportLost, NoticeUnit.append, hl, false_and, if_false,
      hstate]

/-! ### The link's commands in TRIAL -/

section trial
variable {s : State} (hfresh : s.freshBoundary) (hst : s.link.state = .trial)
  (hlost : s.link.lineLost = false) (htimer : 1 < s.link.trialTimer)
include hst hlost htimer

theorem Link.steady_of_trial : s.link.steady :=
  ⟨fun h => by simp [hst] at h, fun _ => ⟨hlost, htimer⟩⟩

/-- Parts 1 and 2 of the link's act in a trial that does not end by revert, the stores having taken the boundary (R165, R178). -/
theorem State.takeStores_headParts_trial :
    s.takeStores.headParts
      = s.takeStores.withLink { s.link with trialTimer := s.link.trialTimer - 1 } := by
  have h := State.headParts_trial (s := s.takeStores) (by simpa using hst)
    (by simpa using Link.steady_of_trial hst hlost htimer)
  simpa using h

include hfresh

/-- In a trial that does not end by revert a message can end in a newly taken frame (R166). -/
theorem State.inboundDue_trial (hframe : (s.takenFrame s.link.current.line).isSome = true) :
    s.inboundDue = true := by
  obtain ⟨hdue, hopen⟩ := hfresh
  simp [State.inboundDue, State.linkDue, hdue, hopen, closedOpening, State.switchDue, hst,
    State.trialRunsOut, State.trialLosesLine, hlost, hframe, htimer]

end trial

/-- What the confirmation of a move makes of every field but the engine and the notices, the stores having taken the boundary as in `b` (R5, R179). -/
def State.confirmedAs (s b : State) (former : Location) (u : State) : Prop :=
  u.link = { s.link with state := .settled, former := none, trialTimer := 0, receiver := .hunt }
    ∧ (∀ (name : PageName) (line : Line) (slot : Slot),
        entryAt (u.switch.page name) line slot =
          if former.covers line slot = true ∧ s.link.current.covers line slot = false then .release
          else entryAt (s.switch.page name) line slot)
    ∧ u.switch.active = s.switch.active ∧ u.switch.patterns = s.switch.patterns
    ∧ u.mc = s.mc ∧ u.ports = s.ports ∧ u.stores = b.stores ∧ u.timing = s.timing
    ∧ u.schedule = s.schedule ∧ u.probes = s.probes
    ∧ u.opening = { b.opening with givenUp := some former }

section confirmation
variable {s : State} {former : Location} (hfresh : s.freshBoundary) (hst : s.link.state = .trial)
  (hp : s.link.pendingMove = none) (hf : s.link.former = some former)
  (hlost : s.link.lineLost = false) (htimer : 1 < s.link.trialTimer)
include hst hp hf hlost htimer

/-- A good message delivered in part 3 confirms the move, and the Notice Unit learns of it (R179, R195, R197). -/
theorem State.delivering_confirms {kind : Byte} (hgood : foreign kind = false) (seq : Byte)
    (payload : List Byte) :
    s.confirmedAs s.takeStores former (State.delivering seq kind payload s.takeStores.headParts)
      ∧ (State.delivering seq kind payload s.takeStores.headParts).notices
        = (s.takeStores.notices.raise (.channel false .confirmed s.link.current)).goodMessage kind seq := by
  rw [State.takeStores_headParts_trial hst hlost htimer, State.delivering, State.deliver_good hgood]
  set v := (s.takeStores.withLink { s.link with trialTimer := s.link.trialTimer - 1 }).receiving .hunt with hv
  have hconfirm : v.confirm = (v.giveUp former (v.link.settleOn s.link.current)).raise
      (.channel false .confirmed s.link.current) := by
    have hcur : v.link.current = s.link.current := by simp [hv, State.receiving]
    rw [State.confirm_trial (former := former) (by simp [hv, State.receiving, hst])
      (by simp [hv, State.receiving, hf]), hcur]
  refine ⟨⟨?_, fun name line slot => ?_, ?_, ?_, ?_, ?_, ?_, ?_, ?_, ?_, ?_⟩, ?_⟩
  · rw [State.deliverGood_link, hconfirm]
    simp [hv, State.giveUp, State.receiving, Link.settleOn, hp, hlost]
  · rw [State.deliverGood_switch, hconfirm, State.raise_switch, State.giveUp_entry]
    simp [hv, Link.locations, Link.settleOn, coveredBy]
  · rw [State.deliverGood_switch, hconfirm]; simp [hv, State.giveUp, Switch.leaveLocation, Switch.onBoth]
  · rw [State.deliverGood_switch, hconfirm]; simp [hv]
  · simp [hv]
  · simp [hv]
  · simp [hv]
  · simp [hv]
  · simp [hv]
  · simp [hv]
  · rw [State.deliverGood_opening, hconfirm]; simp [hv, State.giveUp]
  · rw [State.deliverGood_notices, hconfirm, State.raise_notices]; simp [hv]

end confirmation

end Sys2Proof.Machine
end

section
/-! SUPPORT. BOUNDARY in TRIAL: what the octets read can do to a move, and what the transmitter and the other blocks leave of it. -/

namespace Sys2Proof.Machine

/-! ### What part 3 can do to a move -/

/-- The link's locations, state, mark and timer; the receiver, the transmitter and the counters set aside (R164). -/
def Link.move (k : Link) : Link :=
  { k with
    receiver := .hunt, transmitter := .free, inARow := 0, checkErrors := 0, lengthErrors := 0
    foreignKinds := 0 }

theorem Link.move_eq_iff (k k' : Link) :
    k.move = k'.move ↔ k.current = k'.current ∧ k.state = k'.state ∧ k.pendingMove = k'.pendingMove
      ∧ k.former = k'.former ∧ k.lineLost = k'.lineLost ∧ k.trialTimer = k'.trialTimer := by
  simp [Link.move]

/-- Links that agree on the move rest on the same location. -/
theorem Link.restsOn_of_move {k k' : Link} {loc : Location} (h : k.move = k'.move) (hr : k'.restsOn loc) :
    k.restsOn loc := by
  obtain ⟨h1, h2, h3, h4, h5, h6⟩ := hr
  obtain ⟨e1, e2, e3, e4, e5, e6⟩ := (Link.move_eq_iff k k').1 h
  exact ⟨e1.trans h1, e2.trans h2, e3.trans h3, e4.trans h4, e5.trans h5, e6.trans h6⟩

/-- All that an octet can do: change the link's receiver and counters, or deliver a good message (R168 to R170). -/
theorem State.receive_cases (s : State) (b : Byte) :
    (∃ k : Link, s.receive b = s.withLink k ∧ k.move = s.link.move)
      ∨ ∃ seq kind payload, foreign kind = false
        ∧ s.receive b = (s.receiving .hunt).deliverGood seq kind payload := by
  unfold State.receive
  split
  case h_1 =>
    split
    · exact .inl ⟨_, rfl, rfl⟩
    · exact .inl ⟨s.link, rfl, rfl⟩
  case h_2 =>
    split
    · exact .inl ⟨_, rfl, rfl⟩
    · exact .inl ⟨_, rfl, rfl⟩
  case h_3 =>
    split
    · exact .inl ⟨_, rfl, rfl⟩
    · exact .inl ⟨_, rfl, rfl⟩
  case h_4 => exact .inl ⟨_, rfl, rfl⟩
  case h_5 =>
    unfold State.checked
    split
    · split
      · rename_i seq kind payload _ _
        cases hk : foreign kind
        · exact .inr ⟨seq, kind, payload, hk, State.deliver_good hk _ _⟩
        · exact .inl ⟨_, State.deliver_foreign hk _ _, rfl⟩
      · exact .inl ⟨_, rfl, rfl⟩
    · exact .inl ⟨_, rfl, rfl⟩

/-- The last check octet of a good message delivers it (R169). -/
theorem State.receive_delivers {s : State} {len high low seq kind : Byte} {payload : List Byte}
    (hr : s.link.receiver = .check len (seq :: kind :: payload) (some high))
    (hcrc : high ++ low = crc (len :: seq :: kind :: payload)) (hgood : foreign kind = false) :
    s.receive low = (s.receiving .hunt).deliverGood seq kind payload := by
  have hcheck : crc (len :: seq :: kind :: payload) = halfOf high low := hcrc.symm
  simp [State.receive, hr, State.checked, hcheck, State.deliver_good hgood]

/-! ### The CHANNEL notice in the queue -/

/-- The event stands in the queue and was never sent, or the queue is full and no removal can make room unseen: its removal would leave EVENTS_LOST in the place, or there is no head to acknowledge (R189, R191, R195). -/
def NoticeUnit.holds (n : NoticeUnit) (e : Event) : Prop :=
  (∃ r ∈ n.queue, r.event = e ∧ r.number = none)
    ∨ 16 ≤ n.queue.length ∧ (n.lost ≠ 0 ∨ n.state ≠ .outstanding ∧ n.state ≠ .stalled)

theorem NoticeUnit.shows_of_holds {n : NoticeUnit} {e : Event} (h : n.holds e) : n.shows e :=
  h.imp (fun ⟨r, hr, he, _⟩ => ⟨r, hr, he⟩) fun h => h.1

theorem satInc_ne_zero (c : Half) : satInc c ≠ 0 := by
  unfold satInc
  split
  next h => rw [h]; decide
  next => bv_omega

/-- A CHANNEL event that is enabled is held once it has been raised (R189). -/
theorem NoticeUnit.raise_holds {n : NoticeUnit} {rev : Bool} {why : MoveReason} {loc : Location}
    (h : n.mask.getLsbD 5 = true) :
    (n.raise (.channel rev why loc)).holds (.channel rev why loc) := by
  simp only [NoticeUnit.raise, Event.enabled, h, Bool.not_true, Bool.false_eq_true, if_false, mergeEvent]
  split
  next => exact .inl ⟨_, List.mem_append_right _ List.mem_cons_self, rfl, rfl⟩
  next hfull => exact .inr ⟨Nat.le_of_not_lt hfull, .inl (satInc_ne_zero _)⟩

/-- A good message takes no event that is held from the queue: only a head that was sent can be acknowledged (R195). -/
theorem NoticeUnit.goodMessage_holds {n : NoticeUnit} {e : Event} (h : n.holds e) (kind seq : Byte) :
    (n.goodMessage kind seq).holds e := by
  by_cases hacks : n.acks kind seq
  · rw [NoticeUnit.goodMessage_acks hacks, NoticeUnit.removeHead_eq]
    obtain ⟨-, hst, hnum⟩ := hacks
    obtain ⟨r, hr, he, hrn⟩ | ⟨hfull, hlost⟩ := h
    · have hmem : r ∈ n.queue.drop 1 := by
        unfold NoticeUnit.headNumber at hnum
        cases hq : n.queue with
        | nil => simp [hq] at hr
        | cons x xs =>
          rw [hq] at hr hnum
          obtain rfl | hr := List.mem_cons.mp hr
          · simp [hrn] at hnum
          · exact hr
      refine .inl ⟨r, ?_, he, hrn⟩
      split
      · exact hmem
      · exact List.mem_append_left _ hmem
    · have hlost : n.lost ≠ 0 := hlost.resolve_right fun h => hst.elim h.1 h.2
      refine .inr ⟨?_, .inr ?_⟩
      · simp only [hlost, if_false, List.length_append, List.length_drop, List.length_singleton]
        omega
      · simp only [hlost, false_and, if_false]
        exact ⟨nofun, nofun⟩
  · rw [NoticeUnit.goodMessage_released hacks, NoticeUnit.released]
    split
    · obtain hr | ⟨hfull, -⟩ := h
      · exact .inl hr
      · exact .inr ⟨hfull, .inr ⟨nofun, nofun⟩⟩
    · exact h

/-! ### A trial that goes on, and one that a message confirms -/

/-- From `s` on, part 3 has left the trial, the pages and the notices as they were. -/
def State.trialGoesOn (s t : State) : Prop :=
  t.link.move = s.link.move ∧ t.switch = s.switch ∧ t.notices = s.notices

/-- From `s` on, part 3 has confirmed the move away from `former` (R179). -/
def State.trialConfirmed (s : State) (former : Location) (t : State) : Prop :=
  t.link.move = (s.link.settleOn s.link.current).move
    ∧ t.switch = s.switch.leaveLocation former [s.link.current]
    ∧ (s.notices.mask.getLsbD 5 = true → t.notices.holds (.channel false .confirmed s.link.current))

theorem State.trialGoesOn.deliverGood {s t : State} {former : Location} (h : s.trialGoesOn t)
    (hst : s.link.state = .trial) (hf : s.link.former = some former) (seq kind : Byte) (payload : List Byte) :
    s.trialConfirmed former ((t.receiving .hunt).deliverGood seq kind payload) := by
  obtain ⟨hmove, hswitch, hnotices⟩ := h
  obtain ⟨hcur, hstate, -, hformer, -, -⟩ := (Link.move_eq_iff _ _).1 hmove
  have hconfirm : (t.receiving .hunt).confirm
      = ((t.receiving .hunt).giveUp former ((t.receiving .hunt).link.settleOn s.link.current)).raise
        (.channel false .confirmed s.link.current) := by
    rw [← hcur]
    exact State.confirm_trial (s := t.receiving .hunt) (hstate.trans hst) (hformer.trans hf)
  refine ⟨?_, ?_, fun hmask => ?_⟩
  · rw [State.deliverGood_link, hconfirm]
    simp [State.giveUp, State.receiving, Link.settleOn, Link.move]
  · rw [State.deliverGood_switch, hconfirm, ← hswitch]
    rfl
  · rw [State.deliverGood_notices, hconfirm, State.raise_notices]
    refine NoticeUnit.goodMessage_holds (NoticeUnit.raise_holds ?_) _ _
    rwa [State.giveUp_notices, State.receiving_notices, hnotices]

/-- A confirmed move stays so, whatever comes after it in the frame. -/
theorem State.trialConfirmed.receive {s t : State} {former : Location} (h : s.trialConfirmed former t)
    (b : Byte) : s.trialConfirmed former (t.receive b) := by
  obtain ⟨hmove, hswitch, hholds⟩ := h
  obtain ⟨k, heq, hk⟩ | ⟨seq, kind, payload, -, heq⟩ := t.receive_cases b
  · rw [heq]; exact ⟨hk.trans hmove, hswitch, hholds⟩
  · obtain ⟨-, hstate, -⟩ := (Link.move_eq_iff _ _).1 hmove
    have hsame : (t.receiving .hunt).confirm = t.receiving .hunt :=
      State.confirm_settled (s := t.receiving .hunt) hstate
    rw [heq]
    refine ⟨?_, ?_, fun hmask => ?_⟩
    · rw [State.deliverGood_link, hsame]; exact hmove
    · rw [State.deliverGood_switch, hsame]; exact hswitch
    · rw [State.deliverGood_notices, hsame]
      exact NoticeUnit.goodMessage_holds (hholds hmask) _ _

theorem State.trialConfirmed.foldl {s t : State} {former : Location} (h : s.trialConfirmed former t)
    (octets : List Byte) : s.trialConfirmed former (octets.foldl State.receive t) := by
  induction octets generalizing t with
  | nil => exact h
  | cons b rest ih => exact ih (h.receive b)

/-- The octets read in TRIAL leave the trial as it is or confirm it. -/
theorem State.trialGoesOn.foldl {s t : State} {former : Location} (h : s.trialGoesOn t)
    (hst : s.link.state = .trial) (hf : s.link.former = some former) (octets : List Byte) :
    s.trialGoesOn (octets.foldl State.receive t) ∨ s.trialConfirmed former (octets.foldl State.receive t) := by
  induction octets generalizing t with
  | nil => exact .inl h
  | cons b rest ih =>
    obtain ⟨k, heq, hk⟩ | ⟨seq, kind, payload, -, heq⟩ := t.receive_cases b
    · obtain ⟨hmove, hswitch, hnotices⟩ := h
      refine ih ?_
      rw [heq]
      exact ⟨hk.trans hmove, hswitch, hnotices⟩
    · refine .inr ?_
      rw [List.foldl_cons, heq]
      exact (h.deliverGood hst hf seq kind payload).foldl rest

theorem State.readFrame_trial {s : State} {former : Location} (hst : s.link.state = .trial)
    (hf : s.link.former = some former) : s.trialGoesOn s.readFrame ∨ s.trialConfirmed former s.readFrame := by
  have hs : s.trialGoesOn s := ⟨rfl, rfl, rfl⟩
  unfold State.readFrame
  split
  · exact .inl hs
  · exact hs.foldl hst hf _

/-- The link after an octet depends on the link alone. -/
theorem State.receive_link_congr {s t : State} (h : s.link = t.link) (b : Byte) :
    (s.receive b).link = (t.receive b).link := by
  have hreceiving : ∀ r, (s.receiving r).link = (t.receiving r).link := fun r => by
    simp [State.receiving, h]
  have hconfirm : ∀ u v : State, u.link = v.link → u.confirm.link = v.confirm.link := fun u v huv => by
    unfold State.confirm
    rw [huv]
    split <;> simp [State.giveUp, huv]
  have hdeliver : ∀ seq kind payload, ((s.receiving .hunt).deliver seq kind payload).link
      = ((t.receiving .hunt).deliver seq kind payload).link := fun seq kind payload => by
    unfold State.deliver
    split
    · simp [hreceiving]
    · rw [State.deliverGood_link, State.deliverGood_link]
      exact hconfirm _ _ (hreceiving _)
  unfold State.receive
  rw [h]
  split
  case h_1 => split <;> simp [hreceiving, h]
  case h_2 => split <;> simp [hreceiving]
  case h_3 => split <;> exact hreceiving _
  case h_4 => exact hreceiving _
  case h_5 =>
    unfold State.checked
    split
    · split
      · exact hdeliver _ _ _
      · exact hreceiving _
    · simp [hreceiving]

/-- The link after part 3 depends on the link, the stores and the ports alone. -/
theorem State.readFrame_link_congr {s t : State} (hl : s.link = t.link) (hs : s.stores = t.stores)
    (hp : s.ports = t.ports) : s.readFrame.link = t.readFrame.link := by
  have hstore : ∀ l, s.store l = t.store l := fun l => by simp only [State.store, hs]
  have hframe : s.newFrame s.link.current.line = t.newFrame t.link.current.line := by
    simp only [State.newFrame, hl, hstore]
  have hoctets : ∀ frame, s.managementOctets frame = t.managementOctets frame := fun frame => by
    simp [State.managementOctets, State.port, hl, hp]
  unfold State.readFrame
  rw [hframe]
  split
  · exact hl
  next frame _ =>
    have hfold : ∀ (octets : List Byte) (u v : State), u.link = v.link →
        (octets.foldl State.receive u).link = (octets.foldl State.receive v).link := by
      intro octets
      induction octets with
      | nil => exact fun _ _ h => h
      | cons b rest ih => exact fun u v h => ih _ _ (State.receive_link_congr h b)
    rw [hoctets]
    exact hfold _ s t hl

/-! ### What leaves the move and the CHANNEL notice alone -/

/-- No record but a SLIP changes when a SLIP is merged, and none comes or goes (R190). -/
theorem mergeSlip_keeps {line : Line} {a d : Half} {q q' : List NoticeRecord}
    (h : mergeSlip line a d q = some q') :
    q'.length = q.length ∧ ∀ r ∈ q, (∀ l m n f, r.event ≠ .slip l m n f) → r ∈ q' := by
  induction q generalizing q' with
  | nil => cases h
  | cons x xs ih =>
    have hrest : (mergeSlip line a d xs).map (x :: ·) = some q' →
        q'.length = (x :: xs).length ∧ ∀ r ∈ x :: xs, (∀ l m n f, r.event ≠ .slip l m n f) → r ∈ q' := by
      intro h
      obtain ⟨ys, hys, rfl⟩ := Option.map_eq_some_iff.mp h
      obtain ⟨hlen, hmem⟩ := ih hys
      refine ⟨by simp [hlen], fun r hr he => ?_⟩
      obtain rfl | hr := List.mem_cons.mp hr
      · exact List.mem_cons_self
      · exact List.mem_cons_of_mem _ (hmem r hr he)
    rw [mergeSlip] at h
    split at h
    next hnum hev =>
      split at h
      · cases h
        refine ⟨rfl, fun r hr he => ?_⟩
        obtain rfl | hr := List.mem_cons.mp hr
        · exact absurd hev (he _ _ _ _)
        · exact List.mem_cons_of_mem _ hr
      · exact hrest h
    next => exact hrest h

section shows
variable {rev : Bool} {why : MoveReason} {loc : Location}

/-- An event raised later takes no CHANNEL record from the queue (R189, R190). -/
theorem NoticeUnit.raise_shows {n : NoticeUnit} (e : Event) (h : n.shows (.channel rev why loc)) :
    (n.raise e).shows (.channel rev why loc) := by
  have happend : (n.append e).shows (.channel rev why loc) := by
    obtain ⟨r, hr, he⟩ | hfull := h
    · exact .inl ⟨r, List.mem_append_left _ hr, he⟩
    · refine .inr ?_
      simp only [NoticeUnit.append, List.length_append]
      omega
  simp only [NoticeUnit.raise]
  split
  · exact h
  split
  next q hq =>
    unfold mergeEvent at hq
    split at hq
    next =>
      obtain ⟨hlen, hmem⟩ := mergeSlip_keeps hq
      obtain ⟨r, hr, he⟩ | hfull := h
      · exact .inl ⟨r, hmem r hr (by rw [he]; exact fun _ _ _ _ => nofun), he⟩
      · exact .inr (by rw [hlen]; exact hfull)
    next => cases hq
  next =>
    split
    · exact happend
    · exact h

/-- The transmitter's start of the head only numbers it (R193). -/
theorem NoticeUnit.start_shows {n : NoticeUnit} (h : n.shows (.channel rev why loc)) :
    n.start.shows (.channel rev why loc) := by
  unfold NoticeUnit.start
  split
  next => exact h
  next x xs hq =>
    split
    next => exact h
    next =>
      obtain ⟨r, hr, he⟩ | hfull := h
      · rw [hq] at hr
        obtain rfl | hr := List.mem_cons.mp hr
        · exact .inl ⟨_, List.mem_cons_self, he⟩
        · exact .inl ⟨r, List.mem_cons_of_mem _ hr, he⟩
      · exact .inr (by rw [hq] at hfull; exact hfull)

end shows

/-- An act that leaves the move and the pages alone, and takes no CHANNEL record from the notice queue. -/
structure State.LeavesMove (s t : State) : Prop where
  move : t.link.move = s.link.move
  switch : t.switch = s.switch
  executor : t.engine.executor = s.engine.executor
  mask : t.notices.mask = s.notices.mask
  shows : ∀ rev why loc, s.notices.shows (.channel rev why loc) → t.notices.shows (.channel rev why loc)

theorem State.LeavesMove.refl (s : State) : s.LeavesMove s :=
  ⟨rfl, rfl, rfl, rfl, fun _ _ _ h => h⟩

theorem State.LeavesMove.trans {s t u : State} (h : s.LeavesMove t) (h' : t.LeavesMove u) :
    s.LeavesMove u :=
  ⟨h'.move.trans h.move, h'.switch.trans h.switch, h'.executor.trans h.executor, h'.mask.trans h.mask,
    fun rev why loc hs => h'.shows rev why loc (h.shows rev why loc hs)⟩

/-- An act on one block that is none of those. -/
theorem State.LeavesMove.of_eq {s t : State} (hl : t.link.move = s.link.move) (hw : t.switch = s.switch)
    (he : t.engine.executor = s.engine.executor) (hn : t.notices = s.notices) : s.LeavesMove t :=
  ⟨hl, hw, he, by rw [hn], fun _ _ _ h => by rwa [hn]⟩

theorem NoticeUnit.raise_mask (n : NoticeUnit) (e : Event) : (n.raise e).mask = n.mask := by
  simp only [NoticeUnit.raise]
  (repeat' split) <;> rfl

theorem NoticeUnit.start_mask (n : NoticeUnit) : n.start.mask = n.mask := by
  unfold NoticeUnit.start
  (repeat' split) <;> rfl

theorem State.raise_leavesMove (s : State) (e : Event) : s.LeavesMove (s.raise e) :=
  ⟨rfl, rfl, rfl, NoticeUnit.raise_mask _ e, fun _ _ _ h => NoticeUnit.raise_shows e h⟩

theorem State.raiseAll_leavesMove (s : State) (es : List Event) : s.LeavesMove (s.raiseAll es) := by
  induction es generalizing s with
  | nil => exact .refl s
  | cons e es ih => exact (s.raise_leavesMove e).trans (ih _)

/-! ### The transmitter fills the slots -/

theorem State.startNotice_leavesMove (s : State) : s.LeavesMove s.startNotice := by
  simp only [State.startNotice]
  split
  · exact .refl s
  · exact ⟨rfl, rfl, rfl, s.notices.start_mask, fun _ _ _ h => NoticeUnit.start_shows h⟩

theorem State.readied_leavesMove (s : State) : s.LeavesMove s.readied := by
  unfold State.readied
  split
  · unfold State.chooseMessage
    split
    · split
      · exact s.startNotice_leavesMove
      · exact .of_eq rfl rfl rfl rfl
    · split
      · exact s.startNotice_leavesMove
      · exact .refl s
  · exact .refl s

theorem State.placeOctet_leavesMove (s : State) (m : OutMessage) (next : Nat) :
    s.LeavesMove (s.placeOctet m next) := by
  simp only [State.placeOctet]
  split
  · exact .of_eq rfl rfl rfl rfl
  · cases howner : m.owner with
    | response => simp only [State.endMessage, howner]; exact .of_eq rfl rfl rfl rfl
    | notice => simp only [State.endMessage, howner]; exact ⟨rfl, rfl, rfl, rfl, fun _ _ _ h => h⟩

theorem State.fillFrame_leavesMove (s : State) : s.LeavesMove s.fillFrame := by
  have hslot : ∀ t : State, t.LeavesMove t.fillSlot := fun t => by
    refine t.readied_leavesMove.trans ?_
    unfold State.fillSlot
    split
    · exact State.placeOctet_leavesMove _ _ _
    · exact .of_eq rfl rfl rfl rfl
    · exact .of_eq rfl rfl rfl rfl
  have hslots : ∀ (n : Nat) (t : State), t.LeavesMove (State.fillSlots n t) := by
    intro n
    induction n with
    | zero => exact State.LeavesMove.refl
    | succ n ih => exact fun t => (hslot t).trans (ih _)
  exact hslots _ s

/-! ### The other blocks' shares -/

theorem State.takeShare_leavesMove (before : State) (found : Taker → State) (s : State) {t : Taker}
    (ht : t ≠ .link) : s.LeavesMove (State.takeShare before found s t) := by
  cases t with
  | link => exact absurd rfl ht
  | store line => exact s.raiseAll_leavesMove _
  | timing => exact s.raiseAll_leavesMove _
  | schedule => exact s.raiseAll_leavesMove _
  | mapController =>
    simp only [State.takeShare, State.finishMc]
    split
    · exact .refl s
    · exact .of_eq rfl rfl rfl rfl
  | probe i =>
    simp only [State.takeShare, State.probeBoundary]
    split
    · exact .refl s
    split
    · exact .refl s
    split
    · refine State.LeavesMove.trans ?_ (State.raise_leavesMove _ _)
      exact .of_eq rfl rfl rfl rfl
    · exact .of_eq rfl rfl rfl rfl
  | notice =>
    simp only [State.takeShare, State.noticeBoundary]
    split
    · refine ⟨rfl, rfl, rfl, ?_, fun _ _ _ h => ?_⟩ <;>
        simp only [State.withNotices_notices, NoticeUnit.tick] <;> split
      · rfl
      · rfl
      · exact h
      · exact h
    · exact .refl s

theorem State.takeShare_link {before s : State} {found : Taker → State} {t : Taker} (ht : t ≠ .link) :
    (State.takeShare before found s t).link = s.link := by
  cases t with
  | link => exact absurd rfl ht
  | _ => simp [State.takeShare]

/-! ### The link takes its share once -/

theorem keepFirst_nodup {α κ : Type} [DecidableEq κ] (key : α → κ) (l : List α) :
    (keepFirst key l).Nodup := by
  induction l with
  | nil => exact List.nodup_nil
  | cons a rest ih =>
    rw [keepFirst, List.nodup_cons]
    exact ⟨fun h => by simp at h, ih.filter _⟩

theorem deferToLink_perm (waits : Taker → Bool) (l : List Taker) :
    ∀ waiting, (deferToLink waits waiting l).Perm (waiting ++ l) := by
  induction l with
  | nil => intro waiting; simp [deferToLink]
  | cons t rest ih =>
    intro waiting
    rw [deferToLink]
    split
    · exact List.perm_middle.symm
    split
    · simpa using ih (waiting ++ [t])
    · exact ((ih waiting).cons t).trans List.perm_middle.symm

/-- The link's share has a place of its own in the order: no other share is the link's (R99). -/
theorem State.shareOrder_split (s : State) (order : List Taker) :
    ∃ earlier later, s.shareOrder order = earlier ++ .link :: later ∧ .link ∉ earlier ∧ .link ∉ later := by
  obtain ⟨earlier, later, h⟩ := List.append_of_mem (s.mem_shareOrder order .link)
  have hnodup : (s.shareOrder order).Nodup :=
    (deferToLink_perm s.defers _ []).nodup_iff.mpr (keepFirst_nodup id _)
  rw [h] at hnodup
  have hmid := (List.perm_middle.nodup_iff.mp hnodup).notMem
  exact ⟨earlier, later, h, fun hm => hmid (List.mem_append_left _ hm), fun hm => hmid (List.mem_append_right _ hm)⟩

/-- Shares that are none of the link's leave the move, and all of the link, as they are. -/
theorem State.foldl_takeShare_leavesMove {shares : List Taker} (h : .link ∉ shares) (before : State)
    (found : Taker → State) (s : State) :
    s.LeavesMove (shares.foldl (State.takeShare before found) s)
      ∧ (shares.foldl (State.takeShare before found) s).link = s.link := by
  induction shares generalizing s with
  | nil => exact ⟨.refl s, rfl⟩
  | cons t rest ih =>
    have ht : t ≠ .link := fun heq => h (by simp [heq])
    obtain ⟨hleaves, hlink⟩ := ih (fun hm => h (List.mem_cons_of_mem _ hm)) (State.takeShare before found s t)
    exact ⟨(State.takeShare_leavesMove before found s ht).trans hleaves,
      hlink.trans (State.takeShare_link ht)⟩

/-- A boundary whose link share is still to come is the link's act between the other blocks' shares. -/
theorem State.numberedBoundary_linkAct {s : State} (hopen : s.opening.linkDone = false)
    (order : List Taker) :
    ∃ u : State, (s.numberedEffects fun _ => s).LeavesMove u
      ∧ u.link = s.link ∧ u.ports = s.ports ∧ u.stores = Vector.ofFn s.storeAfter
      ∧ (u.linkAct State.readFrame).LeavesMove (s.numberedBoundary ⟨order, []⟩) := by
  obtain ⟨earlier, later, hsplit, hearlier, hlater⟩ := s.mapEffects.shareOrder_split order
  obtain ⟨hbefore, hlink⟩ :=
    State.foldl_takeShare_leavesMove hearlier s (fun _ => s) (s.numberedEffects fun _ => s)
  refine ⟨_, hbefore, hlink.trans (State.numberedEffects_link s _), ?_, ?_, ?_⟩
  · exact (foldl_keeps State.ports _ (fun _ _ => by simp) _ _).trans (State.numberedEffects_ports s _)
  · exact (foldl_keeps State.stores _ (fun _ _ => by simp) _ _).trans
      (State.numberedEffects_stores s _)
  · have hact : ∀ u, State.takeShare s (fun _ => s) u .link = u.linkAct State.readFrame := fun u => by
      simp [State.takeShare, hopen]
    rw [State.numberedBoundary_plain, hsplit, List.foldl_append, List.foldl_cons, hact]
    exact (State.foldl_takeShare_leavesMove hlater s _ _).1.trans (.of_eq rfl rfl rfl rfl)

end Sys2Proof.Machine
end

section
/-! CERTIFICATE. The end of a trial by a good message: GoodMessageConfirmsTheTrial. -/

namespace Sys2Proof.Machine

/-! ### The pages where neither a copy nor a clear is in flight -/

theorem fireAll_page (n : Word) (es : List ScheduleEntry) (s : State) (name : PageName) :
    (fireAll n es s).1.switch.page name = s.switch.page name := by
  have hone : ∀ (t : State) (a : Action), (t.handOver n a).1.switch.page name = t.switch.page name := by
    intro t a
    cases a with
    | swap =>
      simp only [State.handOver]
      split
      · exact Switch.page_swapped _ _
      · rfl
    | pattern i v => cases name <;> rfl
  induction es generalizing s with
  | nil => rfl
  | cons e es ih => exact (ih _).trans (hone s e.action)

/-- Swaps and patterns leave both pages as they are (R34, R37). -/
theorem State.mapEffects_page {s : State} (h : s.mc.state.rewriting = false) (name : PageName) :
    s.mapEffects.switch.page name = s.switch.page name := by
  have hpromote : s.promotePatterns.switch.page name = s.switch.page name := by cases name <;> rfl
  have hstep : s.switchBoundary.switch.page name = s.switch.page name := by
    rw [← hpromote, State.switchBoundary, State.mcStep, State.promotePatterns_mc]
    split
    next => rfl
    next hc => simp [hc, McState.rewriting] at h
    next hc => simp [hc, McState.rewriting] at h
    next =>
      split
      · exact Switch.page_swapped _ _
      · rfl
  rw [← hstep, State.mapEffects, State.fireOnce]
  split
  · rfl
  · exact fireAll_page _ _ _ _

/-! ### BOUNDARY in TRIAL -/

/-- Reading a frame leaves the executor as it is (R144, R145). -/
theorem State.readFrame_executor (s : State) : s.readFrame.engine.executor = s.engine.executor := by
  have hgood : ∀ (t : State) seq kind payload,
      (t.deliverGood seq kind payload).engine.executor = t.engine.executor := fun t seq kind payload => by
    simp only [State.deliverGood]
    split
    · refine (congrArg MapView.executor (State.intake_mapView _ _)).trans ?_
      simp [State.mapView]
    · simp
  have hone : ∀ (t : State) (b : Byte), (t.receive b).engine.executor = t.engine.executor := fun t b => by
    obtain ⟨k, heq, -⟩ | ⟨seq, kind, payload, -, heq⟩ := t.receive_cases b
    · rw [heq]; rfl
    · rw [heq, hgood]; rfl
  unfold State.readFrame
  split
  · rfl
  · exact foldl_keeps (fun t : State => t.engine.executor) _ hone _ s

theorem State.readFrame_of_none {s : State} (h : s.newFrame s.link.current.line = none) :
    s.readFrame = s := by
  simp [State.readFrame, h]

theorem State.readFrame_of_some {s : State} {frame : InputFrame}
    (h : s.newFrame s.link.current.line = some frame) :
    s.readFrame = (s.managementOctets frame).foldl State.receive s := by
  simp [State.readFrame, h]

/-- The first octet read is that of the location's first slot (R166). -/
theorem State.managementOctets_head (s : State) {frame : InputFrame} (hwidth : 1 ≤ s.link.current.width)
    (hfirst : s.link.current.first.val < frame.length) :
    ∃ rest, s.managementOctets frame
      = upperOctet (s.port s.link.current.line).record.width (frame.getD s.link.current.first.val 0) :: rest := by
  obtain ⟨w, hw⟩ : ∃ w, s.link.current.width = w + 1 := ⟨s.link.current.width - 1, by omega⟩
  simp only [State.managementOctets, hw]
  rw [List.drop_eq_getElem_cons hfirst, List.take_succ_cons, List.map_cons, List.getD_eq_getElem _ _ hfirst]
  exact ⟨_, rfl⟩

/-- The frame that the link finds newly taken once the stores have taken the boundary (R89). -/
theorem State.takeStores_newFrame (s : State) (line : Line) :
    s.takeStores.newFrame line = s.takenFrame line := by
  simp [State.newFrame, State.takenFrame, State.store]

section trial
variable {s : State} {former : Location} (hst : s.link.state = .trial)
  (hlost : s.link.lineLost = false) (htimer : 1 < s.link.trialTimer)
include hst hlost htimer

/-- What BOUNDARY makes of a trial is what part 3 makes of it; the other blocks' shares come before and after (R165). -/
theorem State.numberedBoundary_trial (hopen : s.opening.linkDone = false) (order : List Taker) :
    ∃ v : State, v.readFrame.LeavesMove (s.numberedBoundary ⟨order, []⟩)
      ∧ v.link = { s.link with trialTimer := s.link.trialTimer - 1 }
      ∧ v.switch = s.mapEffects.switch ∧ v.engine.executor = s.engine.executor
      ∧ v.notices.mask = s.notices.mask
      ∧ v.readFrame.link = s.takeStores.headParts.readFrame.link := by
  obtain ⟨u, hu, hlink, hports, hstores, hafter⟩ := State.numberedBoundary_linkAct hopen order
  have hhead : u.headParts = u.withLink { s.link with trialTimer := s.link.trialTimer - 1 } := by
    have hsteady : u.link.steady := by rw [hlink]; exact Link.steady_of_trial hst hlost htimer
    rw [State.headParts_trial (by rw [hlink]; exact hst) hsteady, hlink]
  refine ⟨u.headParts, ?_, ?_, ?_, ?_, ?_, ?_⟩
  · refine State.LeavesMove.trans ?_ hafter
    exact (State.fillFrame_leavesMove _).trans (.of_eq rfl rfl rfl rfl)
  · rw [hhead]; rfl
  · rw [hhead]; exact hu.switch
  · rw [hhead]; exact hu.executor.trans (by simp)
  · rw [hhead]; exact hu.mask.trans (by simp)
  · rw [State.takeStores_headParts_trial hst hlost htimer, hhead]
    apply State.readFrame_link_congr
    · rfl
    · simp [hstores]
    · simp [hports]

theorem State.boundary_trial_executor (hopen : s.opening.linkDone = false) (order : List Taker) :
    (s.numberedBoundary ⟨order, []⟩).engine.executor = s.engine.executor := by
  obtain ⟨v, hrest, -, -, hexec, -, -⟩ := State.numberedBoundary_trial hst hlost htimer hopen order
  exact hrest.executor.trans (v.readFrame_executor.trans hexec)

/-- With no frame newly taken the trial goes on (R166). -/
theorem State.trial_noFrame (hnone : s.takenFrame s.link.current.line = none) :
    s.takeStores.headParts.readFrame.link.state = .trial := by
  rw [State.takeStores_headParts_trial hst hlost htimer]
  have hnew : (s.takeStores.withLink { s.link with trialTimer := s.link.trialTimer - 1 }).newFrame
      s.link.current.line = none := (s.takeStores_newFrame _).trans hnone
  rw [State.readFrame_of_none hnew]
  exact hst

/-- A good message whose last check octet is the first octet read ends the trial (R169, R179). -/
theorem State.trial_goodMessage {frame : InputFrame} {len seq kind high : Byte} {payload : List Byte}
    (hf : s.link.former = some former)
    (hframe : s.takenFrame s.link.current.line = some frame) (hwidth : 1 ≤ s.link.current.width)
    (hfirst : s.link.current.first.val < frame.length)
    (hrx : s.link.receiver = .check len (seq :: kind :: payload) (some high))
    (hcrc : high ++ upperOctet (s.port s.link.current.line).record.width
        (frame.getD s.link.current.first.val 0) = crc (len :: seq :: kind :: payload))
    (hgood : foreign kind = false) : s.takeStores.headParts.readFrame.link.state ≠ .trial := by
  rw [State.takeStores_headParts_trial hst hlost htimer]
  set v := s.takeStores.withLink { s.link with trialTimer := s.link.trialTimer - 1 } with hv
  have hnew : v.newFrame v.link.current.line = some frame := (s.takeStores_newFrame _).trans hframe
  have hport : v.port v.link.current.line = s.port s.link.current.line := by simp [hv, State.port]
  have hcur : v.link.current = s.link.current := rfl
  obtain ⟨rest, hoctets⟩ := v.managementOctets_head (frame := frame) hwidth hfirst
  rw [hport, hcur] at hoctets
  have hdelivered : v.trialConfirmed former ((v.receiving .hunt).deliverGood seq kind payload) :=
    State.trialGoesOn.deliverGood (s := v) ⟨rfl, rfl, rfl⟩ hst hf seq kind payload
  have hread : v.trialConfirmed former v.readFrame := by
    rw [State.readFrame_of_some hnew, hoctets, List.foldl_cons]
    rw [State.receive_delivers (s := v) hrx hcrc hgood]
    exact hdelivered.foldl rest
  obtain ⟨hmove, -, -⟩ := hread
  rw [((Link.move_eq_iff _ _).1 hmove).2.1]
  nofun

end trial

/-- A counter raised by 1 stops at 65535. -/
theorem satInc_eq (c : Half) : satInc c = BitVec.ofNat 16 (min 65535 (c.toNat + 1)) := by
  have hlt := c.isLt
  unfold satInc
  split
  next h => subst h; rfl
  next h =>
    have hne : c.toNat ≠ 65535 := fun hc => h (BitVec.eq_of_toNat_eq hc)
    apply BitVec.eq_of_toNat_eq
    rw [Nat.min_eq_right (by omega)]
    simp

/-- A Notice Ack is no request, so the Request Engine learns nothing of it (R170). -/
theorem State.deliverGood_ack_engine (s : State) (seq : Byte) (payload : List Byte) :
    (s.deliverGood seq Config.ackKind payload).engine = s.engine := by
  have hack : requestKind Config.ackKind = false := by decide
  simp [State.deliverGood, hack]

/-- The pages after a boundary at which part 3 confirms the move (R5). -/
theorem State.givesUp_of_confirmed {s t v : State} {former : Location}
    (hpages : v.switch = s.mapEffects.switch)
    (hswitch : t.switch = v.switch.leaveLocation former [s.link.current]) :
    s.givesUp t former s.link.current := by
  intro name line slot
  have hentry : entryAt (t.switch.page name) line slot =
      if former.covers line slot && !s.link.current.covers line slot then .release
      else entryAt (s.mapEffects.switch.page name) line slot := by
    rw [hswitch, hpages]
    simp [Switch.leaveLocation, coveredBy]
  rw [hentry]
  by_cases hgone : former.covers line slot = true ∧ s.link.current.covers line slot = false
  · simp [hgone]
  · rw [if_neg hgone, if_neg (by simpa using hgone)]
    intro hmc
    rw [State.mapEffects_page hmc]

section outcome
variable {s : State} {former : Location} (hst : s.link.state = .trial)
  (hf : s.link.former = some former) (hlost : s.link.lineLost = false) (htimer : 1 < s.link.trialTimer)
  (hopen : s.opening.linkDone = false) (order : List Taker)
include hst hf hlost htimer hopen

/-- A trial that BOUNDARY finds goes on with its timer 1 lower, or is confirmed; which of the two, part 3 on the state the stores leave says (R165, R178, R179). -/
theorem State.boundary_trial_outcome :
    (s.takeStores.headParts.readFrame.link.state = .trial
        ∧ (s.numberedBoundary ⟨order, []⟩).link.move
          = Link.move { s.link with trialTimer := s.link.trialTimer - 1 })
      ∨ s.takeStores.headParts.readFrame.link.state = .settled
        ∧ (s.numberedBoundary ⟨order, []⟩).link.move = (s.link.settleOn s.link.current).move
        ∧ s.givesUp (s.numberedBoundary ⟨order, []⟩) former s.link.current
        ∧ (s.notices.mask.getLsbD 5 = true →
          (s.numberedBoundary ⟨order, []⟩).notices.shows (.channel false .confirmed s.link.current)) := by
  obtain ⟨v, hrest, hlink, hpages, -, hmask, hcongr⟩ := State.numberedBoundary_trial hst hlost htimer hopen order
  have hvst : v.link.state = .trial := by rw [hlink]; exact hst
  have hvf : v.link.former = some former := by rw [hlink]; exact hf
  have hcur : v.link.current = s.link.current := by rw [hlink]
  rw [← hcongr]
  obtain ⟨hmove, -, -⟩ | ⟨hmove, hswitch, hholds⟩ := State.readFrame_trial hvst hvf
  · refine .inl ⟨((Link.move_eq_iff _ _).1 hmove).2.1.trans hvst, ?_⟩
    rw [hrest.move, hmove, hlink]
  · refine .inr ⟨((Link.move_eq_iff _ _).1 hmove).2.1, ?_, ?_, fun hbit => ?_⟩
    · rw [hrest.move, hmove, hcur, hlink]
      rfl
    · rw [hcur] at hswitch
      exact State.givesUp_of_confirmed hpages (hrest.switch.trans hswitch)
    · rw [hcur] at hholds
      exact hrest.shows _ _ _ (NoticeUnit.shows_of_holds (hholds (by rw [hmask]; exact hbit)))

end outcome

/-- Settles O22: the commands deliver one message (`State.delivering_confirms`), and BOUNDARY reads octets that leave the trial or confirm it (`State.readFrame_trial`). -/
theorem goodMessageConfirmsTheTrial : Obligations.GoodMessageConfirmsTheTrial := by
  refine ⟨?_, ?_, ?_⟩
  · intro s former seq kind payload hfresh hst hp hf hlost htimer hframe hk1 hk2 hlen
    obtain ⟨hrequest, hnoack⟩ := requestKind_of_range hk1 hk2
    have hdue := State.inboundDue_trial hfresh hst hlost htimer hframe
    obtain ⟨hreq, hreqn⟩ := State.delivering_confirms hst hp hf hlost htimer
      (foreign_of_requestKind hrequest) seq payload
    obtain ⟨hack, hackn⟩ := State.delivering_confirms hst hp hf hlost htimer
      (kind := Config.ackKind) (by decide) seq []
    refine ⟨⟨_, execRequestIntake_due hdue hrequest hlen, hreq, ?_⟩,
      ⟨_, execNoticeAck_due hdue, hack, ?_, fun h => ?_, fun h => ?_⟩⟩
    · rw [hreqn, NoticeUnit.goodMessage_released fun h => hnoack h.1]
      rfl
    · rw [State.takeStores_headParts_trial hst hlost htimer, State.delivering,
        State.deliver_good (by decide), State.deliverGood_ack_engine]
      simp
    · rw [hackn, NoticeUnit.goodMessage_acks ⟨rfl, h⟩, NoticeUnit.removeHead_eq]
    · rw [hackn, NoticeUnit.goodMessage_released fun hacks => h hacks.2]
      rfl
  · intro s kind hfresh hst hlost htimer hframe hkind hnoack
    have hforeign := foreign_of_range hkind hnoack
    have hdue := State.inboundDue_trial hfresh hst hlost htimer hframe
    have hdelivered : State.delivering 0 kind [] s.takeStores.headParts = { s.takeStores with
        link := { s.link with
          trialTimer := s.link.trialTimer - 1, receiver := .hunt
          foreignKinds := BitVec.ofNat 16 (min 65535 (s.link.foreignKinds.toNat + 1)) } } := by
      rw [State.takeStores_headParts_trial hst hlost htimer, State.delivering,
        State.deliver_foreign hforeign, ← satInc_eq]
      rfl
    simp only [exec, execForeignKind, hdue, hforeign, Bool.and_self, if_true, State.linkShare,
      State.linkAct, hdelivered]
  · intro s order former hfresh hst hp hf hlost htimer
    have hopen : s.opening.linkDone = false := by rw [hfresh.2]; rfl
    have houtcome := State.boundary_trial_outcome hst hf hlost htimer hopen order
    refine ⟨_, exec_boundary_numbered hfresh.1 _,
      State.boundary_trial_executor hst hlost htimer hopen order, fun hgoes => ?_, fun hends => ?_,
      State.trial_noFrame hst hlost htimer,
      fun frame len seq kind high payload hframe hwidth hfirst hrx hcrc hgood =>
        State.trial_goodMessage hst hlost htimer hf hframe hwidth hfirst hrx hcrc ?_⟩
    · obtain ⟨-, hmove⟩ | ⟨hends, -⟩ := houtcome
      · obtain ⟨h1, h2, h3, h4, h5, h6⟩ := (Link.move_eq_iff _ _).1 hmove
        exact ⟨h1, h4.trans hf, h3.trans hp, h2.trans hst, h5.trans hlost, h6⟩
      · rw [hends] at hgoes; cases hgoes
    · obtain ⟨hgoes, -⟩ | ⟨-, hmove, hgives, hshows⟩ := houtcome
      · exact absurd hgoes hends
      · exact ⟨Link.restsOn_of_move hmove ⟨rfl, rfl, rfl, rfl, rfl, rfl⟩, hgives, hshows⟩
    · obtain ⟨h1, h2⟩ | rfl := hgood
      · exact foreign_of_requestKind (requestKind_of_range h1 h2).1
      · decide

end Sys2Proof.Machine
end

section
/-! SUPPORT. What the laws of the queues and of the sequence numbers read of a state, and what each act on the Request Engine does to them (R25, R143, R146, R154, R167). -/

namespace Sys2Proof.Machine

/-! ### The laws, read of the Request Engine -/

/-- The sequence numbers that a Request Engine holds beside this owner of a page operation (R146). -/
def RequestEngine.heldSeqs (q : RequestEngine) (owner : Option Byte) : List Byte :=
  q.requests.map Request.seq ++ owner.toList ++ q.responses.map Response.seq

/-- The queues within their capacities and each sequence number in one place, a page operation of this owner in flight (R25, R143, R146, R154). -/
structure RequestEngine.Lawful (q : RequestEngine) (owner : Option Byte) : Prop where
  requests : q.requests.length ≤ 4
  places : q.responses.length + (if q.reserved then 1 else 0) ≤ 6
  cache : q.cache.length ≤ 4
  reserved : q.reserved = true ↔ owner ≠ none
  held : (q.heldSeqs owner).Nodup
  cached : (q.cache.map Response.seq).Nodup
  finished : ∀ seq ∈ q.cache.map Response.seq, seq ∉ q.requests.map Request.seq ++ owner.toList

/-- Every request, response and cached response fits a message (R167, R202). -/
structure RequestEngine.Fits (q : RequestEngine) : Prop where
  requests : ∀ r ∈ q.requests, r.payload.length ≤ 60
  responses : ∀ r ∈ q.responses, r.payload.length ≤ 60
  cache : ∀ r ∈ q.cache, r.payload.length ≤ 60

/-- A page operation has an owner just while it is in flight (R23). -/
theorem McState.owner_eq_none_iff (m : McState) : m.owner = none ↔ m = .idle := by
  cases m <;> simp [McState.owner]

theorem State.lawful_iff (s : State) :
    s.queueLaw ∧ s.seqLaw ↔ s.engine.Lawful s.mc.state.owner := by
  have hidle : s.mc.state ≠ .idle ↔ s.mc.state.owner ≠ none :=
    not_congr s.mc.state.owner_eq_none_iff.symm
  simp only [State.queueLaw, State.seqLaw, hidle]
  constructor
  · rintro ⟨⟨h1, h2, h3, h4⟩, h5, h6, h7⟩
    exact ⟨h1, h2, h3, h4, h5, h6, h7⟩
  · rintro ⟨h1, h2, h3, h4, h5, h6, h7⟩
    exact ⟨⟨h1, h2, h3, h4⟩, h5, h6, h7⟩

theorem State.payloadLaw_iff (s : State) :
    s.payloadLaw ↔ s.engine.Fits ∧ s.link.receiver.law ∧ s.schedule.length ≤ 8 := by
  constructor
  · rintro ⟨h1, h2, h3, h4, h5⟩
    exact ⟨⟨h1, h2, h3⟩, h4, h5⟩
  · rintro ⟨⟨h1, h2, h3⟩, h4, h5⟩
    exact ⟨h1, h2, h3, h4, h5⟩

/-! ### Acts on the Request Engine -/

section engine
variable {q : RequestEngine} {owner : Option Byte}

/-- The laws read the queues, the reservation and the cache; not the executor and the counters. -/
theorem RequestEngine.Lawful.congr {p : RequestEngine} (h : q.Lawful owner)
    (hq : p.requests = q.requests) (hr : p.responses = q.responses) (hv : p.reserved = q.reserved)
    (hc : p.cache = q.cache) : p.Lawful owner := by
  obtain ⟨h1, h2, h3, h4, h5, h6, h7⟩ := h
  refine ⟨?_, ?_, ?_, ?_, ?_, ?_, ?_⟩ <;> simpa only [RequestEngine.heldSeqs, hq, hr, hv, hc]

theorem RequestEngine.Fits.congr {p : RequestEngine} (h : q.Fits) (hq : p.requests = q.requests)
    (hr : p.responses = q.responses) (hc : p.cache = q.cache) : p.Fits := by
  obtain ⟨h1, h2, h3⟩ := h
  exact ⟨by rwa [hq], by rwa [hr], by rwa [hc]⟩

/-- A sequence number that is unfinished work's or a waiting response's (R146). -/
theorem RequestEngine.mem_heldSeqs (seq : Byte) :
    seq ∈ q.heldSeqs owner ↔ seq ∈ q.requests.map Request.seq ++ owner.toList
      ∨ seq ∈ q.responses.map Response.seq :=
  List.mem_append

/-- A response of a sequence number held nowhere joins the queue in a free place (R143, R146). -/
theorem RequestEngine.Lawful.respond (h : q.Lawful owner) {x : Response} (hp : q.hasPlace = true)
    (hx : x.seq ∉ q.heldSeqs owner) :
    RequestEngine.Lawful { q with responses := q.responses ++ [x] } owner := by
  obtain ⟨h1, h2, h3, h4, h5, h6, h7⟩ := h
  refine ⟨h1, ?_, h3, h4, ?_, h6, h7⟩
  · have hlt := of_decide_eq_true hp
    simp only [RequestEngine.occupied, Config.responsePlaces] at hlt
    simp only [List.length_append, List.length_singleton]
    omega
  · have hsplit : RequestEngine.heldSeqs { q with responses := q.responses ++ [x] } owner
        = q.heldSeqs owner ++ [x.seq] := by simp [RequestEngine.heldSeqs]
    rw [hsplit, List.nodup_append]
    refine ⟨h5, List.nodup_singleton _, fun a ha b hb heq => ?_⟩
    rw [List.mem_singleton.mp hb] at heq
    exact hx (heq ▸ ha)

/-- The cache grown by a final response holds nothing else than before and that response (R154). -/
theorem pushCache_sublist (cache : List Response) (x : Response) :
    (pushCache cache x).Sublist (cache ++ [x]) := by
  simp only [pushCache]
  split
  · exact List.drop_sublist 1 _
  · exact List.Sublist.refl _

/-- A response joins the cache, which its sequence number was not in and is unfinished no more (R154). -/
theorem RequestEngine.Lawful.keep (h : q.Lawful owner) {x : Response}
    (hx : x.seq ∉ q.requests.map Request.seq ++ owner.toList) (hc : x.seq ∉ q.cache.map Response.seq) :
    RequestEngine.Lawful { q with cache := pushCache q.cache x } owner := by
  obtain ⟨h1, h2, h3, h4, h5, h6, h7⟩ := h
  have hgrown : ((q.cache ++ [x]).map Response.seq).Nodup := by
    rw [List.map_append, List.nodup_append]
    refine ⟨h6, List.nodup_singleton _, fun a ha b hb heq => ?_⟩
    rw [List.map_singleton, List.mem_singleton] at hb
    exact hc (hb ▸ heq ▸ ha)
  have hsub := pushCache_sublist q.cache x
  refine ⟨h1, h2, ?_, h4, h5, hgrown.sublist (hsub.map _), fun seq hm => ?_⟩
  · rw [pushCache_eq]
    split <;> simp only [List.length_append, List.length_drop, List.length_singleton] <;> omega
  · have hold := (hsub.map Response.seq).subset hm
    rw [List.map_append, List.mem_append, List.map_singleton, List.mem_singleton] at hold
    obtain hold | rfl := hold
    · exact h7 seq hold
    · exact hx

/-- The response at the head of the queue leaves it (R172). -/
theorem RequestEngine.Lawful.dropResponse (h : q.Lawful owner) :
    RequestEngine.Lawful { q with responses := q.responses.drop 1 } owner := by
  obtain ⟨h1, h2, h3, h4, h5, h6, h7⟩ := h
  refine ⟨h1, ?_, h3, h4, h5.sublist ?_, h6, h7⟩
  · simp only [List.length_drop]
    omega
  · exact (List.Sublist.refl _).append ((List.drop_sublist 1 _).map _)

/-- A sequence number that is held nowhere and not cached, with a place free for its response: that of a request just taken, or of an operation just ended (R143, R146, R149). -/
structure RequestEngine.Free (q : RequestEngine) (owner : Option Byte) (seq : Byte) : Prop where
  place : q.hasPlace = true
  held : seq ∉ q.heldSeqs owner
  cached : seq ∉ q.cache.map Response.seq

theorem RequestEngine.Free.unfinished {seq : Byte} (h : q.Free owner seq) :
    seq ∉ q.requests.map Request.seq ++ owner.toList :=
  fun hm => h.held ((q.mem_heldSeqs seq).2 (.inl hm))

/-- A final response is queued and cached (R154). -/
theorem RequestEngine.Lawful.queueFinal (h : q.Lawful owner) {x : Response} (hx : q.Free owner x.seq) :
    (q.queueFinal x).Lawful owner :=
  RequestEngine.Lawful.keep (h.respond hx.place hx.held) hx.unfinished hx.cached

/-- The head request is taken: its sequence number is free until it is answered (R149). -/
theorem RequestEngine.Lawful.take (h : q.Lawful owner) {r : Request} {rest : List Request}
    (hq : q.requests = r :: rest) (hp : q.hasPlace = true) :
    RequestEngine.Lawful { q with requests := rest } owner
      ∧ RequestEngine.Free { q with requests := rest } owner r.seq := by
  obtain ⟨h1, h2, h3, h4, h5, h6, h7⟩ := h
  rw [hq] at h1 h7
  have hheld : q.heldSeqs owner = r.seq :: RequestEngine.heldSeqs { q with requests := rest } owner := by
    simp [RequestEngine.heldSeqs, hq]
  rw [hheld, List.nodup_cons] at h5
  refine ⟨⟨by rw [List.length_cons] at h1; exact Nat.le_of_succ_le h1, h2, h3, h4, h5.2, h6, fun seq hm hu => ?_⟩,
    ⟨hp, h5.1, fun hm => ?_⟩⟩
  · exact h7 seq hm (List.mem_cons_of_mem _ hu)
  · exact h7 r.seq hm List.mem_cons_self

/-- The operation in flight ends: its reservation becomes a free place for its owner's response (R25). -/
theorem RequestEngine.Lawful.release {o : Byte} (h : q.Lawful (some o)) :
    RequestEngine.Lawful { q with reserved := false } none
      ∧ RequestEngine.Free { q with reserved := false } none o := by
  obtain ⟨h1, h2, h3, h4, h5, h6, h7⟩ := h
  have hreserved : q.reserved = true := h4.2 nofun
  have hperm : (q.heldSeqs (some o)).Perm
      (o :: RequestEngine.heldSeqs { q with reserved := false } none) := by
    simp [RequestEngine.heldSeqs]
  obtain ⟨hout, hin⟩ := List.nodup_cons.mp (hperm.nodup_iff.mp h5)
  simp only [hreserved, if_true] at h2
  refine ⟨⟨h1, ?_, h3, by simp, hin, h6, fun seq hm hu => ?_⟩, ⟨?_, hout, fun hm => ?_⟩⟩
  · simp only [Bool.false_eq_true, if_false]
    omega
  · refine h7 seq hm (List.mem_append_left _ ?_)
    simpa using hu
  · simp only [RequestEngine.hasPlace, RequestEngine.occupied, Config.responsePlaces,
      Bool.false_eq_true, if_false, decide_eq_true_eq]
    omega
  · exact h7 o hm (List.mem_append_right _ List.mem_cons_self)

/-- The operation in flight ends with its owner's final response in the reserved place (R25, R154). -/
theorem RequestEngine.Lawful.fill {x : Response} (h : q.Lawful (some x.seq)) :
    RequestEngine.Lawful { q.queueFinal x with reserved := false } none :=
  h.release.1.queueFinal h.release.2

/-- A sequence number that is free stays so while an operation in flight ends (R39). -/
theorem RequestEngine.Free.fill {x : Response} {seq : Byte} (h : q.Free (some x.seq) seq)
    (hr : q.reserved = true) : RequestEngine.Free { q.queueFinal x with reserved := false } none seq := by
  obtain ⟨hplace, hheld, hcached⟩ := h
  have hne : seq ≠ x.seq := by
    rintro rfl
    simp [RequestEngine.heldSeqs] at hheld
  refine ⟨?_, ?_, fun hm => ?_⟩
  · have hlt := of_decide_eq_true hplace
    simp only [RequestEngine.occupied, Config.responsePlaces, hr, if_true] at hlt
    simp only [RequestEngine.hasPlace, RequestEngine.occupied, RequestEngine.queueFinal, Config.responsePlaces,
      List.length_append, List.length_singleton, Bool.false_eq_true, if_false, decide_eq_true_eq]
    omega
  · simp only [RequestEngine.heldSeqs, RequestEngine.queueFinal, List.map_append, List.mem_append,
      List.map_singleton, List.mem_singleton, Option.toList_some, Option.toList_none, List.not_mem_nil,
      not_or] at hheld ⊢
    tauto
  · have hold := ((pushCache_sublist q.cache x).map Response.seq).subset hm
    rw [List.map_append, List.mem_append, List.map_singleton, List.mem_singleton] at hold
    exact hold.elim hcached hne

/-- A page operation is accepted: the request's sequence number becomes the owner's, and a place is reserved (R25, R151). -/
theorem RequestEngine.Lawful.reserve {seq : Byte} (h : q.Lawful none) (hs : q.Free none seq) :
    RequestEngine.Lawful { q with reserved := true } (some seq) := by
  obtain ⟨h1, h2, h3, h4, h5, h6, h7⟩ := h
  have hperm : (RequestEngine.heldSeqs { q with reserved := true } (some seq)).Perm
      (seq :: q.heldSeqs none) := by
    simp [RequestEngine.heldSeqs]
  refine ⟨h1, ?_, h3, by simp, hperm.nodup_iff.mpr (List.nodup_cons.mpr ⟨hs.held, h5⟩), h6,
    fun x hm hu => ?_⟩
  · have hlt := of_decide_eq_true hs.place
    simp only [RequestEngine.occupied, Config.responsePlaces] at hlt
    simp only [if_true]
    omega
  · obtain hu | hu := List.mem_append.mp hu
    · exact h7 x hm (by simpa using hu)
    · obtain rfl : x = seq := by simpa [eq_comm] using hu
      exact hs.cached hm

/-- A re-send's copy waits in a free place, or is dropped and counted (R144, step 3). -/
theorem RequestEngine.Lawful.resend (h : q.Lawful owner) {x : Response} (hx : x.seq ∉ q.heldSeqs owner) :
    (q.resend x).Lawful owner := by
  unfold RequestEngine.resend
  split
  next hp => exact h.respond hp hx
  next => exact h.congr rfl rfl rfl rfl

/-- A new request joins the queue, is answered QUEUE_FULL, or is dropped and counted (R145). -/
theorem RequestEngine.Lawful.accept (h : q.Lawful owner) {r : Request} (hr : r.seq ∉ q.heldSeqs owner)
    (hc : r.seq ∉ q.cache.map Response.seq) : (q.accept r).Lawful owner := by
  unfold RequestEngine.accept
  split
  next hlt =>
    obtain ⟨h1, h2, h3, h4, h5, h6, h7⟩ := h
    have hperm : (RequestEngine.heldSeqs { q with requests := q.requests ++ [r] } owner).Perm
        (r.seq :: q.heldSeqs owner) := by
      simp [RequestEngine.heldSeqs]
    refine ⟨?_, h2, h3, h4, hperm.nodup_iff.mpr (List.nodup_cons.mpr ⟨hr, h5⟩), h6, fun seq hm hu => ?_⟩
    · simp only [List.length_append, List.length_singleton]
      exact hlt
    · have hu : seq = r.seq ∨ seq ∈ q.requests.map Request.seq ++ owner.toList := by
        simp only [List.map_append, List.map_singleton, List.mem_append, List.mem_singleton] at hu ⊢
        tauto
      obtain rfl | hu := hu
      · exact hc hm
      · exact h7 seq hm hu
  next =>
    split
    next hp => exact h.respond hp hr
    next => exact h.congr rfl rfl rfl rfl

/-- A response that fits a message joins the queue and, where it is final, the cache (R154, R167). -/
theorem RequestEngine.Fits.queueFinal (h : q.Fits) {x : Response} (hx : x.payload.length ≤ 60) :
    (q.queueFinal x).Fits := by
  have hgrown : ∀ l : List Response, (∀ r ∈ l, r.payload.length ≤ 60) → ∀ r ∈ l ++ [x], r.payload.length ≤ 60 := by
    intro l hl r hr
    obtain hr | hr := List.mem_append.mp hr
    · exact hl r hr
    · rwa [List.mem_singleton.mp hr]
  exact ⟨h.requests, hgrown _ h.responses, fun r hr => hgrown _ h.cache r ((pushCache_sublist _ x).subset hr)⟩

/-- A response's payload is status, credit and its data (R152). -/
theorem Response.payload_length (x : Response) : x.payload.length = x.data.length + 2 := rfl

theorem RequestEngine.Fits.resend (h : q.Fits) {x : Response} (hx : x ∈ q.cache) : (q.resend x).Fits := by
  unfold RequestEngine.resend
  split
  · refine ⟨h.requests, fun r hr => ?_, h.cache⟩
    obtain hr | hr := List.mem_append.mp hr
    · exact h.responses r hr
    · rw [List.mem_singleton.mp hr]
      exact h.cache x hx
  · exact h.congr rfl rfl rfl

theorem RequestEngine.Fits.accept (h : q.Fits) {r : Request} (hr : r.payload.length ≤ 60) :
    (q.accept r).Fits := by
  unfold RequestEngine.accept
  split
  · refine ⟨fun x hx => ?_, h.responses, h.cache⟩
    obtain hx | hx := List.mem_append.mp hx
    · exact h.requests x hx
    · rwa [List.mem_singleton.mp hx]
  split
  · refine ⟨h.requests, fun x hx => ?_, h.cache⟩
    obtain hx | hx := List.mem_append.mp hx
    · exact h.responses x hx
    · rw [List.mem_singleton.mp hx]
      simp [Response.payload_length]
  · exact h.congr rfl rfl rfl

end engine

end Sys2Proof.Machine
end

section
/-! SUPPORT. What the acts of the part do to the laws of the queues and of the sequence numbers: requests, the Map Controller, the schedule table, the link (R25, R143, R146, R154, R167). -/

namespace Sys2Proof.Machine

/-! ### Acts between two states -/

/-- What the laws read of a Request Engine: its queues, its reservation and its cache; the executor and the counters are set aside. -/
def RequestEngine.queues (q : RequestEngine) : RequestEngine :=
  { q with executor := .ready, droppedRequests := 0, droppedResends := 0 }

theorem RequestEngine.queues_eq_iff (p q : RequestEngine) :
    p.queues = q.queues ↔ p.requests = q.requests ∧ p.responses = q.responses
      ∧ p.reserved = q.reserved ∧ p.cache = q.cache := by
  simp [RequestEngine.queues]

theorem RequestEngine.Lawful.of_queues {p q : RequestEngine} {owner : Option Byte} (h : q.Lawful owner)
    (he : p.queues = q.queues) : p.Lawful owner := by
  obtain ⟨h1, h2, h3, h4⟩ := (RequestEngine.queues_eq_iff p q).1 he
  exact h.congr h1 h2 h3 h4

theorem RequestEngine.Fits.of_queues {p q : RequestEngine} (h : q.Fits) (he : p.queues = q.queues) :
    p.Fits := by
  obtain ⟨h1, h2, -, h4⟩ := (RequestEngine.queues_eq_iff p q).1 he
  exact h.congr h1 h2 h4

theorem RequestEngine.Free.of_queues {p q : RequestEngine} {owner : Option Byte} {seq : Byte}
    (h : q.Free owner seq) (he : p.queues = q.queues) : p.Free owner seq := by
  obtain ⟨h1, h2, h3, h4⟩ := (RequestEngine.queues_eq_iff p q).1 he
  obtain ⟨hp, hh, hc⟩ := h
  refine ⟨?_, ?_, ?_⟩
  · rw [RequestEngine.hasPlace, RequestEngine.occupied, h2, h3]
    exact hp
  · simpa only [RequestEngine.heldSeqs, h1, h2] using hh
  · rwa [h4]

/-- What an act that leads from `s` to `t` does to the laws of the queues: those that stand before it stand after it. -/
structure State.KeepsQueues (s t : State) : Prop where
  seq : s.engine.Lawful s.mc.state.owner → t.engine.Lawful t.mc.state.owner
  payload : s.payloadLaw → t.payloadLaw

theorem State.KeepsQueues.refl (s : State) : s.KeepsQueues s :=
  ⟨id, id⟩

theorem State.KeepsQueues.trans {s t u : State} (h : s.KeepsQueues t) (h' : t.KeepsQueues u) :
    s.KeepsQueues u :=
  ⟨fun hs => h'.seq (h.seq hs), fun hs => h'.payload (h.payload hs)⟩

theorem State.KeepsQueues.ite {s t u : State} {c : Prop} [Decidable c] (ht : s.KeepsQueues t)
    (hu : s.KeepsQueues u) : s.KeepsQueues (if c then t else u) := by
  split
  · exact ht
  · exact hu

theorem State.foldl_keepsQueues {α : Type} {f : State → α → State}
    (h : ∀ (s : State) a, s.KeepsQueues (f s a)) (l : List α) (s : State) :
    s.KeepsQueues (l.foldl f s) := by
  induction l generalizing s with
  | nil => exact .refl s
  | cons a l ih => exact (h s a).trans (ih _)

/-- An act that leaves the queues and the owner as they are, leaves the receiver or resets it, and adds no schedule entry. -/
theorem State.KeepsQueues.of_same {s t : State} (he : t.engine.queues = s.engine.queues)
    (ho : t.mc.state.owner = s.mc.state.owner)
    (hr : t.link.receiver = s.link.receiver ∨ t.link.receiver = .hunt)
    (hs : t.schedule.length ≤ s.schedule.length) : s.KeepsQueues t := by
  refine ⟨fun h => ?_, fun h => ?_⟩
  · rw [ho]
    exact h.of_queues he
  · rw [State.payloadLaw_iff] at h ⊢
    obtain ⟨h1, h2, h3⟩ := h
    refine ⟨h1.of_queues he, ?_, Nat.le_trans hs h3⟩
    obtain hr | hr := hr <;> rw [hr]
    · exact h2
    · trivial

/-! ### Requests carried out -/

/-- What carrying out request `r`, just taken, does to the laws: they stand once its sequence number has found its new place (R149). -/
structure State.Carries (r : Request) (s t : State) : Prop where
  seq : s.engine.Lawful s.mc.state.owner → s.engine.Free s.mc.state.owner r.seq →
    t.engine.Lawful t.mc.state.owner
  payload : s.payloadLaw → t.payloadLaw

/-- A row keeps the laws where carrying out the request it takes does. -/
theorem State.serve_keepsQueues (s : State) (test : Request → Bool) {carry : Request → State → State}
    (h : ∀ r t, State.Carries r t (carry r t)) : s.KeepsQueues (s.serve test carry) := by
  obtain hs | ⟨r, rest, ht, -, hs⟩ := s.serve_cases test carry
  · rw [hs]
    exact .refl s
  rw [hs]
  obtain ⟨-, -, -, hplace, hq⟩ := ht
  have hp : s.engine.hasPlace = true := decide_eq_true hplace
  refine ⟨fun hl => ?_, fun hl => (h r _).payload ?_⟩
  · obtain ⟨hl, hf⟩ := hl.take hq hp
    exact (h r (s.taken rest)).seq hl hf
  · rw [State.payloadLaw_iff] at hl ⊢
    obtain ⟨h1, h2, h3⟩ := hl
    refine ⟨⟨fun x hx => h1.requests x ?_, h1.responses, h1.cache⟩, h2, h3⟩
    rw [hq]
    exact List.mem_cons_of_mem _ hx

/-- A request answered from a state with the same queues, with data that fits a message (R149, R152). -/
theorem State.Carries.answer {r : Request} {s u : State} {c : Status} {d : List Byte}
    (he : u.engine.queues = s.engine.queues) (ho : u.mc.state.owner = s.mc.state.owner)
    (hr : u.link.receiver = s.link.receiver)
    (hs : s.schedule.length ≤ 8 → u.schedule.length ≤ 8 ∧ d.length ≤ 58) :
    State.Carries r s (u.answer r c d) := by
  refine ⟨fun hl hf => ?_, fun hl => ?_⟩
  · rw [State.answer_mc, ho]
    exact (hl.of_queues he).queueFinal (hf.of_queues he)
  · rw [State.payloadLaw_iff] at hl ⊢
    obtain ⟨h1, h2, h3⟩ := hl
    obtain ⟨hs, hd⟩ := hs h3
    refine ⟨(h1.of_queues he).queueFinal ?_, ?_, hs⟩
    · rw [Response.payload_length]
      exact Nat.add_le_add_right hd 2
    · rw [State.answer_link, hr]
      exact h2

/-- A request answered and no more. -/
theorem State.Carries.report {r : Request} {s : State} {c : Status} {d : List Byte} (hd : d.length ≤ 58) :
    State.Carries r s (s.answer r c d) :=
  .answer rfl rfl rfl fun hs => ⟨hs, hd⟩

theorem State.Carries.badLength (r : Request) (s : State) : State.Carries r s (s.badLength r) :=
  .report (by simp)

/-- A request answered with a hold mark: the executor is no business of the laws (R150). -/
theorem State.Carries.answerHeld {r : Request} {s u : State} {d : List Byte}
    (he : u.engine = s.engine) (hm : u.mc = s.mc) (hr : u.link.receiver = s.link.receiver)
    (hs : u.schedule = s.schedule) (hd : d.length ≤ 58) : State.Carries r s (u.answerHeld r d) := by
  refine ⟨fun hl hf => ?_, fun hl => ?_⟩
  · rw [State.answerHeld_mc, hm, ← he] at *
    exact RequestEngine.Lawful.of_queues
      (hl.queueFinal (x := u.engine.response r.kind r.seq .ok d true) hf) rfl
  · rw [State.payloadLaw_iff] at hl ⊢
    obtain ⟨h1, h2, h3⟩ := hl
    rw [← he] at h1
    refine ⟨RequestEngine.Fits.of_queues
      (h1.queueFinal (x := u.engine.response r.kind r.seq .ok d true) ?_) rfl, ?_, ?_⟩
    · rw [Response.payload_length]
      exact Nat.add_le_add_right hd 2
    · rw [State.answerHeld_link, hr]
      exact h2
    · rw [State.answerHeld_schedule, hs]
      exact h3

@[simp] theorem halfOctets_length (v : Half) : (halfOctets v).length = 2 := rfl

@[simp] theorem wordOctets_length (v : Word) : (wordOctets v).length = 4 := rfl

@[simp] theorem frameRecord_length (f : Option Word) : (frameRecord f).length = 5 := rfl

@[simp] theorem Location.octets_length (loc : Location) : loc.octets.length = 3 := rfl

@[simp] theorem McState.report_length (m : McState) : m.report.length = 6 := by
  cases m <;> rfl

@[simp] theorem Entry.octets_length (e : Entry) : e.octets.length = 4 := by
  cases e <;> rfl

section carried
variable (r : Request) (s : State)

theorem echo_carries : State.Carries r s (echo r s) := by
  unfold echo
  split
  next h => exact .report h
  next => exact .badLength r s

theorem identify_carries : State.Carries r s (identify r s) := by
  unfold identify
  split
  · exact .report (by decide)
  · exact .badLength r s

theorem getLine_carries : State.Carries r s (getLine r s) := by
  unfold getLine
  split
  · split
    · exact .report (by simp)
    · exact .report (by simp [State.lineReport, LineRecord.octets])
  · exact .badLength r s

theorem setLine_carries : State.Carries r s (setLine r s) := by
  unfold setLine
  split
  · split
    · exact .report (by simp)
    split
    · exact .report (by simp)
    · exact .answer (by simp) (by simp) (by simp) (by simp [LineRecord.octets])
  · exact .badLength r s

theorem readStats_carries : State.Carries r s (readStats r s) := by
  unfold readStats
  split
  · split
    · exact .report (by simp)
    · exact .report (by simp)
    · split <;> exact .answer (by simp) (by simp) (by simp) (by simp [State.stats])
  · exact .badLength r s

theorem setReference_carries : State.Carries r s (setReference r s) := by
  unfold setReference
  split
  · split
    · exact .report (by simp)
    · exact .answer rfl rfl rfl (by simp [Timing.settings])
  · exact .badLength r s

theorem getTiming_carries : State.Carries r s (getTiming r s) := by
  unfold getTiming
  split
  · exact .report (by simp [Timing.report, Timing.settings])
  · exact .badLength r s

theorem writeEntries_carries : State.Carries r s (writeEntries r s) := by
  unfold writeEntries
  split
  · split
    · exact .badLength r s
    split
    · exact .report (by simp)
    split
    · exact .report (by simp)
    split
    · exact .report (by simp)
    split
    · exact .report (by simp)
    · exact .answer rfl rfl rfl (by simp)
  · exact .badLength r s

/-- Of at most 13 entries no more than 52 octets are read (R15). -/
theorem readOctets_length_le (p : Page) (line : Line) (start count : Nat) :
    (readOctets p line start count).length ≤ 4 * count := by
  simp only [readOctets, List.length_flatMap, Entry.octets_length, List.map_const', List.sum_replicate,
    List.length_take, smul_eq_mul]
  omega

theorem readEntries_carries : State.Carries r s (readEntries r s) := by
  unfold readEntries
  split
  · split
    · exact .report (by simp)
    · exact .report (by simp)
    split
    · exact .report (by simp)
    next line _ _ hrange =>
      split
      · exact .report (by simp)
      · refine .report ?_
        rw [List.length_append]
        refine (Nat.add_le_add_left (readOctets_length_le _ line _ _) _).trans ?_
        simp at hrange ⊢
        omega
  · exact .badLength r s

theorem setPattern_carries : State.Carries r s (setPattern r s) := by
  unfold setPattern
  split
  · split
    · exact .report (by simp)
    · exact .answer rfl rfl rfl (by simp)
  · exact .badLength r s

theorem getPattern_carries : State.Carries r s (getPattern r s) := by
  unfold getPattern
  split
  · split
    · exact .report (by simp)
    · exact .report (by simp [Pattern.octets])
  · exact .badLength r s

/-- A page operation is accepted in IDLE, where nobody owns one, or answered (R25, R26). -/
theorem pageRequest_carries {accept : State → State} {m : McState} {f : Option Word}
    (ha : accept s = s.acceptPage m f) (hm : m.owner = some r.seq) :
    State.Carries r s (pageRequest accept r s) := by
  unfold pageRequest
  split
  · split
    next hidle =>
      rw [ha]
      refine ⟨fun hl hf => ?_, fun hl => ?_⟩
      · have hnone : s.mc.state.owner = none := by rw [hidle]; rfl
        rw [hnone] at hl hf
        change RequestEngine.Lawful { s.engine with reserved := true } m.owner
        rw [hm]
        exact hl.reserve hf
      · rw [State.payloadLaw_iff] at hl ⊢
        obtain ⟨h1, h2, h3⟩ := hl
        exact ⟨h1.congr rfl rfl rfl, h2, h3⟩
    all_goals exact .report (by simp)
  · exact .badLength r s

theorem getPages_carries : State.Carries r s (getPages r s) := by
  unfold getPages
  split
  · exact .report (by simp)
  · exact .badLength r s

theorem insertEntry_length (sfn : Word) (e : ScheduleEntry) (entries : List ScheduleEntry) :
    (insertEntry sfn e entries).length = entries.length + 1 := by
  induction entries with
  | nil => rfl
  | cons x rest ih =>
    rw [insertEntry]
    split
    · simp [ih]
    · rfl

theorem addSchedule_carries : State.Carries r s (addSchedule r s) := by
  unfold addSchedule
  split
  · simp only
    split
    · exact .report (by simp)
    split
    · exact .report (by simp)
    split
    · exact .report (by simp)
    next hroom =>
      split
      · exact .report (by simp)
      · refine .answer rfl rfl rfl fun _ => ⟨?_, by simp⟩
        rw [State.withSchedule_schedule, insertEntry_length]
        exact Nat.not_le.mp hroom
  · exact .badLength r s

theorem cancelSchedule_carries : State.Carries r s (cancelSchedule r s) := by
  unfold cancelSchedule
  split
  · split
    · exact .report (by simp)
    · refine .answer rfl rfl rfl fun hs => ⟨Nat.le_trans ?_ hs, by simp [ScheduleEntry.octets]⟩
      exact List.eraseP_sublist.length_le
  · exact .badLength r s

theorem listSchedule_carries : State.Carries r s (listSchedule r s) := by
  unfold listSchedule
  split
  · refine .answer rfl rfl rfl fun hs => ⟨hs, ?_⟩
    simp [ScheduleEntry.octets, List.length_flatMap]
    omega
  · exact .badLength r s

theorem setProbe_carries : State.Carries r s (setProbe r s) := by
  unfold setProbe
  split
  · split
    · exact .report (by simp)
    · exact .answer rfl rfl rfl (by simp)
  · exact .badLength r s

theorem readProbe_carries : State.Carries r s (readProbe r s) := by
  unfold readProbe
  split
  · split
    · exact .report (by simp)
    · exact .report (by simp)
    · split <;> exact .answer (by simp) (by simp) (by simp) (by simp [Probe.octets])
  · exact .badLength r s

theorem moveChannel_carries : State.Carries r s (moveChannel r s) := by
  unfold moveChannel
  split
  · split
    · exact .report (by simp)
    split
    · exact .report (by simp)
    · exact .answerHeld rfl rfl rfl rfl (by simp)
  · exact .badLength r s

theorem getLink_carries : State.Carries r s (getLink r s) := by
  have hreport : s.linkReport.length ≤ 58 := by
    cases hf : s.link.former <;> simp [State.linkReport, hf]
  unfold getLink
  split
  · split
    · exact .report (by simp)
    · split <;> exact .answer rfl rfl rfl fun hs => ⟨hs, hreport⟩
  · exact .badLength r s

theorem setNotices_carries : State.Carries r s (setNotices r s) := by
  unfold setNotices
  split
  · simp only
    split
    · exact .report (by simp)
    split
    · exact .report (by simp)
    · exact .answer rfl rfl rfl (by simp)
  · exact .badLength r s

theorem getNotices_carries : State.Carries r s (getNotices r s) := by
  unfold getNotices
  split
  · exact .report (by simp [NoticeUnit.report])
  · exact .badLength r s

theorem restartFull_carries : State.Carries r s (restartFull r s) := by
  unfold restartFull
  split
  · split
    · exact .answerHeld rfl rfl rfl rfl (by simp)
    · exact .report (by simp)
  · exact .badLength r s

/-- The operation in flight is aborted before the Restart is answered, so the answer finds its place (R39, R160). -/
theorem restartSwitch_carries : State.Carries r s (restartSwitch r s) := by
  unfold restartSwitch
  split
  case h_2 => exact .badLength r s
  split
  case isFalse => exact .report (by simp)
  cases hm : s.mc.state.aborted with
  | none =>
    have habort : s.abortPage = s := by simp [State.abortPage, hm]
    have howner : s.mc.state.owner = none := by
      cases hs : s.mc.state <;> simp [hs, McState.aborted, McState.owner] at hm ⊢
    rw [habort]
    exact .answer rfl howner.symm rfl (by simp [State.rebuild])
  | some final =>
    obtain ⟨kind, owner, detail⟩ := final
    have habort : s.abortPage = s.fillReserved kind owner .aborted [detail] := by
      simp [State.abortPage, hm]
    have howner : s.mc.state.owner = some owner := by
      cases hs : s.mc.state <;> simp [hs, McState.aborted] at hm ⊢; all_goals simp [McState.owner, hm]
    rw [habort]
    refine ⟨fun hl hf => ?_, fun hl => ?_⟩
    · rw [howner] at hl hf
      refine RequestEngine.Lawful.queueFinal (q := (s.fillReserved kind owner .aborted [detail]).engine)
        hl.fill (hf.fill ?_)
      exact hl.reserved.2 nofun
    · rw [State.payloadLaw_iff] at hl ⊢
      obtain ⟨h1, h2, h3⟩ := hl
      refine ⟨?_, h2, Nat.zero_le _⟩
      have hfill : (s.fillReserved kind owner .aborted [detail]).engine.Fits :=
        RequestEngine.Fits.congr (h1.queueFinal (x := s.engine.response kind owner .aborted [detail] false)
          (by simp [Response.payload_length, RequestEngine.response])) rfl rfl rfl
      exact hfill.queueFinal (by simp [Response.payload_length, RequestEngine.response])

end carried

end Sys2Proof.Machine
end

section
/-! SUPPORT. What the acts of a boundary do to the laws of the queues and of the sequence numbers: the Map Controller, the schedule table, the link, the framer events, and the boundary as a whole. -/

namespace Sys2Proof.Machine

/-! ### Acts of the Map Controller and the schedule table -/

/-- An operation ends only for its owner (R25). -/
theorem State.finishMc_keepsQueues {s : State} {final : Option (Byte × Byte × List Byte)}
    (h : ∀ kind owner data, final = some (kind, owner, data) →
      s.mc.state.owner = some owner ∧ data.length ≤ 58) : s.KeepsQueues (s.finishMc final) := by
  cases final with
  | none => exact .refl s
  | some final =>
    obtain ⟨kind, owner, data⟩ := final
    obtain ⟨howner, hdata⟩ := h _ _ _ rfl
    refine ⟨fun hl => ?_, fun hl => ?_⟩
    · rw [howner] at hl
      exact RequestEngine.Lawful.fill (x := s.engine.response kind owner .ok data false) hl
    · rw [State.payloadLaw_iff] at hl ⊢
      obtain ⟨h1, h2, h3⟩ := hl
      refine ⟨RequestEngine.Fits.congr (h1.queueFinal (x := s.engine.response kind owner .ok data false) ?_)
        rfl rfl rfl, h2, h3⟩
      rw [Response.payload_length]
      exact Nat.add_le_add_right hdata 2

/-- The final response of an operation that ends is its owner's, with five octets of data (R29, R31, R34). -/
theorem State.mcFinal_eq_some {s : State} {n : Word} {kind owner : Byte} {data : List Byte}
    (h : s.mcFinal n = some (kind, owner, data)) : s.mc.state.owner = some owner ∧ data.length = 5 := by
  unfold State.mcFinal at h
  cases hm : s.mc.state <;> simp only [hm] at h
  case idle => cases h
  all_goals
    split at h
    · cases h
      exact ⟨rfl, by simp⟩
    · cases h

/-- A step of the Map Controller leaves the operation its owner; the operation ends in `finishMc` (R28, R30, R34). -/
theorem State.mcStep_owner (s : State) (n : Word) :
    (s.mcStep n).mc.state.owner = s.mc.state.owner := by
  unfold State.mcStep
  cases hm : s.mc.state <;> simp only
  case idle => rw [hm]
  all_goals
    split <;> simp [State.mcState, State.lastStep, State.swapAt, hm, McState.owner]

theorem State.handOver_mcState (s : State) (n : Word) (a : Action) :
    (s.handOver n a).1.mc.state = s.mc.state := by
  cases a with
  | swap => simp only [State.handOver]; split <;> rfl
  | pattern i v => rfl

/-- The schedule table swaps pages; it neither begins nor ends a page operation (R36, R37). -/
theorem fireAll_mcState (n : Word) (es : List ScheduleEntry) (s : State) :
    (fireAll n es s).1.mc.state = s.mc.state := by
  induction es generalizing s with
  | nil => rfl
  | cons e es ih => exact (ih _).trans (s.handOver_mcState n e.action)

theorem State.fireOnce_mcState (s : State) : s.fireOnce.1.mc.state = s.mc.state := by
  unfold State.fireOnce
  split
  · rfl
  · exact fireAll_mcState _ _ _

theorem State.mapEffects_owner (s : State) : s.mapEffects.mc.state.owner = s.mc.state.owner := by
  rw [State.mapEffects, State.fireOnce_mcState]
  exact (State.mcStep_owner _ _).trans rfl

theorem State.mcShare_keepsQueues (s : State) : s.KeepsQueues s.mcShare := by
  have hstep : s.KeepsQueues (s.mcStep s.comingFrame) :=
    .of_same (by simp) (s.mcStep_owner _) (.inl (by simp)) (by simp)
  refine (hstep.trans (State.finishMc_keepsQueues fun kind owner data hf => ?_)).trans
    (.of_same rfl rfl (.inl rfl) (Nat.le_refl _))
  obtain ⟨ho, hd⟩ := State.mcFinal_eq_some hf
  exact ⟨(s.mcStep_owner _).trans ho, by omega⟩

theorem State.timingShare_keepsQueues (s : State) : s.KeepsQueues s.timingShare := by
  refine .of_same (by simp) ?_ (.inl (by simp)) ?_
  · simp only [State.timingShare, State.raiseAll_mc, State.withOpening_mc, State.withTiming_mc]
    exact congrArg McState.owner (fireAll_mcState _ _ _)
  · rw [State.timingShare_schedule]
    exact List.length_filter_le _ _

theorem State.numberedEffects_keepsQueues (s : State) (found : Taker → State) :
    s.KeepsQueues (s.numberedEffects found) := by
  refine .of_same (by simp) s.mapEffects_owner (.inl (by simp)) ?_
  rw [State.numberedEffects_schedule]
  split
  · exact Nat.le_refl _
  · exact List.length_filter_le _ _

/-! ### The link's act -/

theorem State.headParts_keepsQueues (s : State) : s.KeepsQueues s.headParts := by
  have hrevert : ∀ why, s.KeepsQueues (s.revert why) := fun why => by
    unfold State.revert
    split
    · exact .of_same (by simp) (by simp) (.inr (by simp [State.revertTrial, State.giveUp])) (by simp)
    · exact .refl s
  have htrial : s.KeepsQueues s.trialPart := by
    unfold State.trialPart
    split
    · exact .refl s
    split
    · exact hrevert _
    split
    · exact hrevert _
    · exact .of_same rfl rfl (.inl rfl) (Nat.le_refl _)
  have hswitch : ∀ u : State, u.KeepsQueues u.switchPart := fun u => by
    unfold State.switchPart
    split
    · exact .refl u
    split
    · exact .of_same (by simp [State.revertSwitch, RequestEngine.queues]) (by simp)
        (.inr (by simp [State.revertSwitch, State.giveUp])) (by simp)
    · exact .of_same rfl rfl (.inr rfl) (by simp)
  exact htrial.trans (hswitch _)

/-- Intake classifies a message by its sequence number, so none is held twice (R144, R146). -/
theorem State.KeepsQueues.intake {s t : State} {r : Request} (h : s.KeepsQueues t)
    (hr : s.payloadLaw → r.payload.length ≤ 60) : s.KeepsQueues (t.intake r) := by
  unfold State.intake
  split
  case isTrue => exact h
  rename_i hfree
  have hheld : r.seq ∉ t.engine.heldSeqs t.mc.state.owner := by
    simp only [RequestEngine.answering, State.working, Bool.or_eq_true, List.any_eq_true,
      decide_eq_true_eq, not_or] at hfree
    obtain ⟨hresponses, hrequests, howner⟩ := hfree
    simp only [RequestEngine.heldSeqs, List.mem_append, List.mem_map, Option.mem_toList, not_or]
    exact ⟨⟨hrequests, howner⟩, hresponses⟩
  split
  next cached hfind =>
    have hseq : cached.seq = r.seq := by simpa using List.find?_some hfind
    refine ⟨fun hl => ?_, fun hl => ?_⟩
    · exact (h.seq hl).resend (by rw [hseq]; exact hheld)
    · obtain ⟨h1, h2, h3⟩ := (State.payloadLaw_iff t).1 (h.payload hl)
      exact (State.payloadLaw_iff _).2 ⟨h1.resend (List.mem_of_find?_eq_some hfind), h2, h3⟩
  next hfind =>
    have hcached : r.seq ∉ t.engine.cache.map Response.seq := by
      simpa [List.find?_eq_none] using hfind
    refine ⟨fun hl => (h.seq hl).accept hheld hcached, fun hl => ?_⟩
    obtain ⟨h1, h2, h3⟩ := (State.payloadLaw_iff t).1 (h.payload hl)
    exact (State.payloadLaw_iff _).2 ⟨h1.accept (hr hl), h2, h3⟩

theorem State.confirm_receiver (s : State) : s.confirm.link.receiver = s.link.receiver := by
  unfold State.confirm
  split <;> rfl

/-- A good message is delivered; a request's payload came in a message (R167, R170). -/
theorem State.KeepsQueues.deliver {s t : State} (h : s.KeepsQueues t) (seq kind : Byte) {payload : List Byte}
    (hp : s.payloadLaw → payload.length ≤ 60) : s.KeepsQueues (t.deliver seq kind payload) := by
  unfold State.deliver
  split
  · exact h.trans (.of_same rfl rfl (.inl rfl) (Nat.le_refl _))
  have htold : s.KeepsQueues (t.confirm.withNotices (t.confirm.notices.goodMessage kind seq)) :=
    h.trans (.of_same (by simp) (by simp) (.inl t.confirm_receiver) (by simp))
  simp only [State.deliverGood]
  split
  · exact htold.intake hp
  · exact htold

theorem State.hunting_keepsQueues (s : State) : s.KeepsQueues (s.receiving .hunt) :=
  .of_same rfl rfl (.inr rfl) (Nat.le_refl _)

theorem State.delivering_keepsQueues (s : State) (seq kind : Byte) {payload : List Byte}
    (hp : payload.length ≤ 60) : s.KeepsQueues (State.delivering seq kind payload s) :=
  s.hunting_keepsQueues.deliver seq kind fun _ => hp

/-- The receiver goes on to a state that its law allows (R168). -/
theorem State.receiving_keepsQueues {s : State} {x : Receiver} (hx : s.link.receiver.law → x.law) :
    s.KeepsQueues (s.receiving x) := by
  refine ⟨id, fun hl => ?_⟩
  rw [State.payloadLaw_iff] at hl ⊢
  obtain ⟨h1, h2, h3⟩ := hl
  exact ⟨h1, hx h2, h3⟩

/-- The receiver collects the octets that LEN announced, so what it delivers came in a message (R168, R169). -/
theorem State.receive_keepsQueues (s : State) (b : Byte) : s.KeepsQueues (s.receive b) := by
  unfold State.receive
  split
  case h_1 => exact .ite (State.receiving_keepsQueues fun _ => trivial) (.refl s)
  case h_2 =>
    split
    next hlen =>
      simp only [Bool.and_eq_true, decide_eq_true_eq] at hlen
      exact State.receiving_keepsQueues fun _ => ⟨hlen.1, hlen.2, by simp; omega⟩
    next => exact .of_same rfl rfl (.inr rfl) (Nat.le_refl _)
  case h_3 len octets hr =>
    split
    next hlt =>
      refine State.receiving_keepsQueues fun hl => ?_
      rw [hr] at hl
      obtain ⟨h1, h2, -⟩ := hl
      exact ⟨h1, h2, by simpa using hlt⟩
    next hge =>
      refine State.receiving_keepsQueues fun hl => ?_
      rw [hr] at hl
      obtain ⟨h1, h2, h3⟩ := hl
      exact ⟨h1, h2, by simp; omega⟩
  case h_4 len octets hr =>
    refine State.receiving_keepsQueues fun hl => ?_
    rw [hr] at hl
    exact hl
  case h_5 len octets high hr =>
    unfold State.checked
    split
    · split
      next seq kind payload _ =>
        refine s.hunting_keepsQueues.deliver seq kind fun hl => ?_
        obtain ⟨-, hlaw, -⟩ := (State.payloadLaw_iff s).1 hl
        rw [hr] at hlaw
        obtain ⟨-, h2, h3⟩ := hlaw
        simp only [List.length_cons] at h3
        omega
      next => exact s.hunting_keepsQueues
    · exact s.hunting_keepsQueues.trans (.of_same rfl rfl (.inl rfl) (Nat.le_refl _))

theorem State.readFrame_keepsQueues (s : State) : s.KeepsQueues s.readFrame := by
  unfold State.readFrame
  split
  · exact .refl s
  · exact State.foldl_keepsQueues State.receive_keepsQueues _ s

theorem State.readied_receiver (s : State) : s.readied.link.receiver = s.link.receiver := by
  simp only [State.readied, State.chooseMessage, State.startNotice, State.startResponse]
  (repeat' split) <;> rfl

/-- A response leaves its queue with its last octet (R172). -/
theorem State.placeOctet_keepsQueues (s : State) (m : OutMessage) (next : Nat) :
    s.KeepsQueues (s.placeOctet m next) := by
  simp only [State.placeOctet]
  split
  · exact .of_same rfl rfl (.inl rfl) (Nat.le_refl _)
  cases howner : m.owner with
  | notice =>
    simp only [State.endMessage, howner]
    exact .of_same (by simp) (by simp) (.inl (by simp [State.put])) (by simp)
  | response =>
    simp only [State.endMessage, howner]
    refine ⟨fun hl => hl.dropResponse, fun hl => ?_⟩
    rw [State.payloadLaw_iff] at hl ⊢
    obtain ⟨h1, h2, h3⟩ := hl
    exact ⟨⟨h1.requests, fun x hx => h1.responses x (List.mem_of_mem_drop hx), h1.cache⟩, h2, h3⟩

theorem State.fillFrame_keepsQueues (s : State) : s.KeepsQueues s.fillFrame := by
  have hslot : ∀ t : State, t.KeepsQueues t.fillSlot := fun t => by
    refine State.KeepsQueues.trans (t := t.readied)
      (.of_same (by simp) (by simp) (.inl t.readied_receiver) (by simp)) ?_
    unfold State.fillSlot
    split
    · exact State.placeOctet_keepsQueues _ _ _
    · exact .of_same rfl rfl (.inl rfl) (Nat.le_refl _)
    · exact .of_same rfl rfl (.inl rfl) (Nat.le_refl _)
  have hslots : ∀ (n : Nat) (t : State), t.KeepsQueues (State.fillSlots n t) := by
    intro n
    induction n with
    | zero => exact State.KeepsQueues.refl
    | succ n ih => exact fun t => (hslot t).trans (ih _)
  exact hslots _ s

theorem State.linkAct_keepsQueues {inbound : State → State} (h : ∀ u : State, u.KeepsQueues (inbound u))
    (s : State) : s.KeepsQueues (s.linkAct inbound) :=
  ((s.headParts_keepsQueues.trans (h _)).trans (State.fillFrame_keepsQueues _)).trans
    (.of_same rfl rfl (.inl rfl) (Nat.le_refl _))

theorem State.linkShare_keepsQueues {inbound : State → State} (h : ∀ u : State, u.KeepsQueues (inbound u))
    (s : State) : s.KeepsQueues (s.linkShare inbound) :=
  State.KeepsQueues.trans (t := s.takeStores) (.of_same (by simp) (by simp) (.inl (by simp)) (by simp))
    (State.linkAct_keepsQueues h _)

/-! ### Framer events -/

theorem State.framerAct_receiver (s : State) (line : Line) (a : FramerAct) :
    (s.framerAct line a).link.receiver = s.link.receiver ∨ (s.framerAct line a).link.receiver = .hunt := by
  cases a with
  | quiet => exact .inl rfl
  | gained => exact .inl rfl
  | frameEnd bits => exact .inl (by simp [State.framerAct])
  | lost =>
    simp only [State.framerAct, State.alignmentLost, State.raise_link, State.withTiming_link,
      State.withLink_link, Link.alignmentLost]
    split
    · exact .inr rfl
    · exact .inl rfl

theorem State.rxPeriod_keepsQueues (s : State) (line : Line) (x : RxSample) :
    s.KeepsQueues (s.rxPeriod line x) :=
  .of_same (by simp) (by simp) (State.framerAct_receiver _ _ _) (by simp)

theorem State.rxPeriods_keepsQueues (s : State) (line : Line) (xs : List RxSample) :
    s.KeepsQueues (s.rxPeriods line xs) :=
  .ite (.refl s) (State.foldl_keepsQueues (fun t x => t.rxPeriod_keepsQueues line x) xs s)

/-- A framer event that meets a store or a timing record as it was before the boundary does no more to the queues (R169). -/
theorem State.meet_keepsQueues (before : State) (shares : List Taker) (s : State) (c : Coincidence) :
    s.KeepsQueues (State.meet before shares s c) := by
  refine .of_same (by simp) (by simp) ?_ (by simp)
  simp only [State.meet]
  (repeat' split) <;> exact State.framerAct_receiver _ _ _

/-! ### The whole boundary -/

/-- A share of the boundary keeps the laws; the Map Controller's, where the operation it ends is the one in flight. -/
theorem State.takeShare_keepsQueues (before : State) (found : Taker → State) (s : State) (t : Taker)
    (h : t = .mapController → s.mc.state.owner = before.mc.state.owner) :
    s.KeepsQueues (State.takeShare before found s t) := by
  cases t with
  | link => exact .ite (.refl s) (State.linkAct_keepsQueues State.readFrame_keepsQueues s)
  | mapController =>
    refine State.finishMc_keepsQueues fun kind owner data hf => ?_
    obtain ⟨ho, hd⟩ := State.mcFinal_eq_some hf
    exact ⟨(h rfl).trans ho, by omega⟩
  | _ =>
    exact .of_same (by simp [State.takeShare]) (by simp [State.takeShare])
      (.inl (by simp [State.takeShare])) (by simp [State.takeShare])

theorem State.takeShare_mc {before s : State} {found : Taker → State} {t : Taker} (ht : t ≠ .mapController) :
    (State.takeShare before found s t).mc = s.mc := by
  cases t with
  | mapController => exact absurd rfl ht
  | link => simp only [State.takeShare]; split <;> simp
  | _ => simp [State.takeShare]

/-- The shares in turn keep the laws: until the Map Controller's one share the operation in flight is that before the boundary (R25, R99). -/
theorem takeInTurn_keepsQueues (before : State) (all : List Taker) (found : Taker → State)
    (shares : List Taker) :
    ∀ (events : List Coincidence) (s : State), shares.Nodup →
      (.mapController ∈ shares → s.mc.state.owner = before.mc.state.owner) →
      s.KeepsQueues (takeInTurn (State.meet before all) (State.takeShare before found) events shares s) := by
  induction shares with
  | nil => exact fun _ s _ _ => .refl s
  | cons t rest ih =>
    intro events s hnodup howner
    obtain ⟨hfresh, hrest⟩ := List.nodup_cons.mp hnodup
    set met := (events.filter fun c => fallsBefore c t).foldl (State.meet before all) s with hmet
    have hmc : met.mc = s.mc := foldl_keeps State.mc _ (fun _ _ => by simp) _ _
    have hmeets : s.KeepsQueues met := State.foldl_keepsQueues (State.meet_keepsQueues before all) _ s
    refine (hmeets.trans (State.takeShare_keepsQueues before found met t fun ht => ?_)).trans
      (ih _ _ hrest fun hm => ?_)
    · rw [hmc]
      exact howner (by simp [ht])
    · rw [State.takeShare_mc (by rintro rfl; exact hfresh hm), hmc]
      exact howner (List.mem_cons_of_mem _ hm)

/-- No block takes a boundary twice (R99). -/
theorem State.shareOrder_nodup (s : State) (order : List Taker) : (s.shareOrder order).Nodup :=
  (deferToLink_perm s.defers _ []).nodup_iff.mpr (keepFirst_nodup id _)

theorem State.numberedBoundary_keepsQueues (s : State) (order : BoundaryOrder) :
    s.KeepsQueues (s.numberedBoundary order) := by
  have hbegin : ∀ u : State, u.KeepsQueues (u.beginFrames.withOpening closedOpening) := fun u =>
    .of_same rfl rfl (.inl rfl) (Nat.le_refl _)
  refine State.KeepsQueues.trans ?_
    (State.foldl_keepsQueues (fun t (c : Coincidence) => t.rxPeriod_keepsQueues c.line c.sample) _ _)
  refine State.KeepsQueues.trans ?_ (hbegin _)
  exact (State.numberedEffects_keepsQueues s _).trans
    (takeInTurn_keepsQueues s _ _ _ _ _ (State.shareOrder_nodup _ _) fun _ => s.mapEffects_owner)

theorem State.fullRestart_keepsQueues (s : State) (straps : Straps) (cause : RestartCause) (held : Bool) :
    s.KeepsQueues (s.fullRestart straps cause held) := by
  refine ⟨fun _ => ⟨?_, ?_, ?_, ?_, ?_, ?_, ?_⟩, fun _ => ?_⟩
  all_goals simp [State.fullRestart, restartEngine, restartMc, McState.owner, RequestEngine.heldSeqs,
    State.payloadLaw, restartLink, Receiver.law]

theorem State.takeBoundary_keepsQueues (s : State) (order : BoundaryOrder) :
    s.KeepsQueues (s.takeBoundary order) :=
  .ite (s.fullRestart_keepsQueues _ _ _) (s.numberedBoundary_keepsQueues order)

end Sys2Proof.Machine
end

section
/-! CERTIFICATE. Every command keeps the laws of the queues, of the sequence numbers and of the payloads (R25, R143, R146, R154, R167): StepsKeepTheSequenceLaw. -/

namespace Sys2Proof.Machine

/-- Every command keeps the laws of the queues. -/
theorem exec_keepsQueues {c : Instr} {s t : State} (h : exec c s = .next t) : s.KeepsQueues t := by
  cases c <;> cases h
  case powerUp => exact s.fullRestart_keepsQueues _ _ _
  case restartN => exact s.fullRestart_keepsQueues _ _ _
  case restartNRelease => exact .ite (s.fullRestart_keepsQueues _ _ _) (.refl s)
  case fullRestartBoundary => exact .ite (s.fullRestart_keepsQueues _ _ _) (.refl s)
  case boundary order =>
    have hpoint : s.KeepsQueues s.pointTaken := .of_same rfl rfl (.inl rfl) (Nat.le_refl _)
    exact .ite (s.takeBoundary_keepsQueues order)
      (.ite (hpoint.trans (s.pointTaken.takeBoundary_keepsQueues order)) (.refl s))
  case txFrameEnd => exact .of_same rfl rfl (.inl rfl) (Nat.le_refl _)
  case stall => exact .ite (.of_same rfl rfl (.inl rfl) (Nat.le_refl _)) (.refl s)
  case copyComplete =>
    split
    · exact .ite s.mcShare_keepsQueues (.refl s)
    · exact .refl s
  case clearComplete =>
    split
    · exact .ite s.mcShare_keepsQueues (.refl s)
    · exact .refl s
  case takePendingSwap =>
    split
    · exact .ite s.mcShare_keepsQueues (.refl s)
    · exact .refl s
  case scheduleFiring => exact .ite s.timingShare_keepsQueues (.refl s)
  case requestIntake seq kind payload =>
    split
    next hdue =>
      simp only [Bool.and_eq_true, decide_eq_true_eq] at hdue
      exact s.linkShare_keepsQueues fun u => u.delivering_keepsQueues seq kind hdue.2
    next => exact .refl s
  case noticeAck =>
    exact .ite (s.linkShare_keepsQueues fun u => u.delivering_keepsQueues _ _ (Nat.zero_le _)) (.refl s)
  case foreignKind =>
    exact .ite (s.linkShare_keepsQueues fun u => u.delivering_keepsQueues _ _ (Nat.zero_le _)) (.refl s)
  case messageEnd => exact .ite (s.linkShare_keepsQueues State.readFrame_keepsQueues) (.refl s)
  case channelSwitch => exact .ite (s.linkShare_keepsQueues State.readFrame_keepsQueues) (.refl s)
  case trialTimeout => exact .ite (s.linkShare_keepsQueues State.readFrame_keepsQueues) (.refl s)
  case lineLostRevert => exact .ite (s.linkShare_keepsQueues State.readFrame_keepsQueues) (.refl s)
  case retransmitTimeout => exact .ite (.of_same rfl rfl (.inl rfl) (Nat.le_refl _)) (.refl s)
  case pulse => exact s.rxPeriods_keepsQueues _ _
  case flywheelFrameEnd => exact s.rxPeriods_keepsQueues _ _
  case echo => exact s.serve_keepsQueues _ echo_carries
  case identify => exact s.serve_keepsQueues _ identify_carries
  case restartFull => exact s.serve_keepsQueues _ restartFull_carries
  case restartSwitch => exact s.serve_keepsQueues _ restartSwitch_carries
  case setLine => exact s.serve_keepsQueues _ setLine_carries
  case getLine => exact s.serve_keepsQueues _ getLine_carries
  case readStats => exact s.serve_keepsQueues _ readStats_carries
  case setReference => exact s.serve_keepsQueues _ setReference_carries
  case getTiming => exact s.serve_keepsQueues _ getTiming_carries
  case writeEntries => exact s.serve_keepsQueues _ writeEntries_carries
  case readEntries => exact s.serve_keepsQueues _ readEntries_carries
  case setPattern => exact s.serve_keepsQueues _ setPattern_carries
  case getPattern => exact s.serve_keepsQueues _ getPattern_carries
  case copyPage => exact s.serve_keepsQueues _ fun r t => pageRequest_carries r t rfl rfl
  case clearPage => exact s.serve_keepsQueues _ fun r t => pageRequest_carries r t rfl rfl
  case swapPages => exact s.serve_keepsQueues _ fun r t => pageRequest_carries r t rfl rfl
  case getPages => exact s.serve_keepsQueues _ getPages_carries
  case addSchedule => exact s.serve_keepsQueues _ addSchedule_carries
  case cancelSchedule => exact s.serve_keepsQueues _ cancelSchedule_carries
  case listSchedule => exact s.serve_keepsQueues _ listSchedule_carries
  case setProbe => exact s.serve_keepsQueues _ setProbe_carries
  case readProbe => exact s.serve_keepsQueues _ readProbe_carries
  case moveChannel => exact s.serve_keepsQueues _ moveChannel_carries
  case getLink => exact s.serve_keepsQueues _ getLink_carries
  case setNotices => exact s.serve_keepsQueues _ setNotices_carries
  case getNotices => exact s.serve_keepsQueues _ getNotices_carries
  case unknownKind => exact s.serve_keepsQueues _ fun r t => .report (by simp)

/-- Every step keeps the laws of the queues: the command at the front of the queue does, and so does a REFCLK period. -/
theorem step_keepsQueues {s t : State} (h : step s = .next t) : s.KeepsQueues t := by
  unfold step at h
  split at h
  · have hpop : ∀ cs, s.KeepsQueues (s.withPending cs) := fun _ =>
      .of_same rfl rfl (.inl rfl) (Nat.le_refl _)
    exact (hpop _).trans (exec_keepsQueues h)
  · cases h
    exact .of_same (by simp) (by simp) (.inl (by simp)) (by simp)

/-- Settles O57: what every command does to the laws (`exec_keepsQueues`), command by command. -/
theorem stepsKeepTheSequenceLaw : Obligations.StepsKeepTheSequenceLaw := by
  refine ⟨fun s t hlaw h => ?_, fun s t hlaw h => (step_keepsQueues h).payload hlaw⟩
  rw [State.lawful_iff] at hlaw ⊢
  exact (step_keepsQueues h).seq hlaw

end Sys2Proof.Machine
end

section
/-! CERTIFICATE. Page operations: their acceptance, their end ahead of BOUNDARY, and a pending swap taken ahead of it: PageOperationsAreAccepted, LastStepEndsCopyAndClear, PendingSwapTakesEffect. -/

namespace Sys2Proof.Machine

/-! ### Acceptance -/

section request
variable {s : State} {r : Request} {rest : List Request} {accept : State → State} (ht : s.takes r rest)
  (hp : r.payload = [])
include hp

/-- In IDLE a page operation with an empty payload is handed to the Map Controller (R26). -/
theorem pageRequest_idle (hm : s.mc.state = .idle) : pageRequest accept r s = accept s := by
  simp [pageRequest, hp, hm]

/-- An operation in flight refuses the next one with its own state code (R26, R32, R35). -/
theorem pageRequest_busy (hm : s.mc.state ≠ .idle) :
    pageRequest accept r s = s.answer r .pageBusy [s.mc.state.code] := by
  cases hs : s.mc.state with
  | idle => exact absurd hs hm
  | _ => simp [pageRequest, hp, hs]

include ht

variable {kind : Byte} {carry : Request → State → State} (hk : r.kind = kind)
  (hcarry : carry r (s.taken rest) = pageRequest accept r (s.taken rest))
include hk hcarry

/-- A row of a page operation's kind hands the operation over in IDLE, with nothing answered yet (R25, R151). -/
theorem State.serve_page_idle (hm : s.mc.state = .idle) :
    s.serve (ofKind kind) carry = accept (s.taken rest) := by
  rw [State.serve_takes ht (ofKind_true hk), hcarry]
  exact pageRequest_idle hp hm

/-- It answers PAGE_BUSY while one is in flight, and leaves that one as it is (R26). -/
theorem State.serve_page_busy (hm : s.mc.state ≠ .idle) :
    s.serve (ofKind kind) carry = s.answered r rest .pageBusy [s.mc.state.code] := by
  rw [State.serve_takes ht (ofKind_true hk), hcarry, ← State.taken_answer]
  exact pageRequest_busy (s := s.taken rest) hp hm

end request

/-- Settles O47: in IDLE the row's request is the acceptance alone, else an answer. -/
theorem pageOperationsAreAccepted : Obligations.PageOperationsAreAccepted := by
  refine ⟨fun s r rest ht hp hm => ⟨fun hk => ?_, fun hk => ?_, fun hk => ?_⟩,
    fun s r rest ht hp hm => ?_⟩
  · exact congrArg Host.Outcome.next (State.serve_page_idle ht hp hk (carry := copyPage) rfl hm)
  · exact congrArg Host.Outcome.next (State.serve_page_idle ht hp hk (carry := clearPage) rfl hm)
  · exact congrArg Host.Outcome.next (State.serve_page_idle ht hp hk (carry := swapPages) rfl hm)
  · exact ⟨fun hk => congrArg Host.Outcome.next (State.serve_page_busy ht hp hk (carry := copyPage) rfl hm),
      fun hk => congrArg Host.Outcome.next (State.serve_page_busy ht hp hk (carry := clearPage) rfl hm),
      fun hk => congrArg Host.Outcome.next (State.serve_page_busy ht hp hk (carry := swapPages) rfl hm)⟩

/-! ### The Map Controller takes the boundary ahead -/

/-- The final response of a page operation, in the words of the statements (R25, R153). -/
theorem State.fillReserved_eq (s : State) (kind owner : Byte) (c : Status) (d : List Byte) :
    s.fillReserved kind owner c d =
      { s with
        engine :=
          { s.engine.answered s.engine.requests (ownerResponse s.engine.requests kind owner c d) with
            reserved := false } } :=
  s.taken_fillReserved s.engine.requests kind owner c d

/-- The step on line 7 of a copy or clear, and with it the operation's end (R29, R31). -/
theorem State.mcShare_rewriting {s : State} (hopen : s.opening = closedOpening) {p : Page} {kind owner : Byte}
    (hstep : s.mcStep s.comingFrame = (s.withSwitch (s.switch.withStandby p)).lastStep)
    (hfinal : s.mcFinal s.comingFrame
      = some (kind, owner, s.switch.active.other.code :: wordOctets (s.timing.sfn + 1))) :
    s.mcShare =
      { s with
        switch := s.switch.withStandby p
        mc := { s.mc with state := .idle }
        engine :=
          { s.engine.answered s.engine.requests
              (ownerResponse s.engine.requests kind owner .ok
                (s.switch.active.other.code :: wordOctets (s.timing.sfn + 1))) with
            reserved := false }
        opening := { closedOpening with isOpen := true, stepped := true } } := by
  simp only [State.mcShare, hstep, hfinal, State.finishMc, State.fillReserved_eq]
  simp [State.opened, State.mcState, State.lastStep, State.withSwitch, State.withMc, State.withOpening, hopen]

/-- Settles O16: the last step writes its line, and the operation ends in the same act. -/
theorem lastStepEndsCopyAndClear : Obligations.LastStepEndsCopyAndClear := by
  intro s owner ⟨hdue, hopen⟩
  have hn := State.comingFrame_fresh hopen
  refine ⟨fun hm => ⟨s.switch.standbyPage.set (7 : Line) s.switch.activePage[(7 : Line)], ?_, fun line slot => ?_⟩,
    fun hm => ⟨s.switch.standbyPage.set (7 : Line)
      (Vector.ofFn fun slot => if s.management 7 slot then .control else .release), ?_, fun line slot => ?_⟩⟩
  · have hexec : exec .copyComplete s = .next s.mcShare := by simp [exec, execCopyComplete, hm, hdue]
    rw [hexec, State.mcShare_rewriting hopen (kind := 0x20) (owner := owner)]
    · rfl
    · simp [State.mcStep, hm, State.copyLine, State.writeStandbyLine]
    · simp [State.mcFinal, hm, hn]
  · rw [entryAt_set]
    split
    · subst_vars; rfl
    · rfl
  · have hexec : exec .clearComplete s = .next s.mcShare := by simp [exec, execClearComplete, hm, hdue]
    rw [hexec, State.mcShare_rewriting hopen (kind := 0x21) (owner := owner)]
    · rfl
    · simp [State.mcStep, hm, State.clearLine, State.writeStandbyLine]
    · simp [State.mcFinal, hm, hn]
  · rw [entryAt_set]
    split
    · subst_vars; simp
    · rfl

/-- Settles O17: the swap, the end of the operation and its final response are one act. -/
theorem pendingSwapTakesEffect : Obligations.PendingSwapTakesEffect := by
  intro s owner ⟨hdue, hopen⟩ hm
  have hn := State.comingFrame_fresh hopen
  have hexec : exec .takePendingSwap s = .next s.mcShare := by
    simp [exec, execTakePendingSwap, hm, hdue, hn]
  have hstep : s.mcStep s.comingFrame = s.swapAt (s.timing.sfn + 1) := by simp [State.mcStep, hm, hn]
  have hfinal : s.mcFinal s.comingFrame
      = some (0x22, owner, wordOctets (s.timing.sfn + 1) ++ [s.switch.active.other.code]) := by
    simp [State.mcFinal, hm, hn]
  rw [hexec]
  simp only [State.mcShare, hstep, hfinal, State.finishMc, State.fillReserved_eq]
  simp [State.opened, State.mcState, State.swapAt, State.withSwitch, State.withMc, State.withOpening, hopen,
    ownerResponse, Switch.swapped]

end Sys2Proof.Machine
end

section
/-! SUPPORT. An event that a share of a boundary raises, and the notice queue after the boundary (R189, R190, R193 to R195). -/

namespace Sys2Proof.Machine

/-! ### What takes no event from the notice queue -/

/-- An event that a later one may be merged into: SLIP (R190). -/
def Event.merges : Event → Bool
  | .slip _ _ _ _ => true
  | _ => false

/-- All that raising an event can do: nothing, where it is disabled; a merge; a new record; or one more lost (R189). -/
theorem NoticeUnit.raise_cases (n : NoticeUnit) (e : Event) :
    (e.enabled n.mask = false ∧ n.raise e = n)
      ∨ (e.merges = true ∧ ∃ q, n.raise e = { n with queue := q } ∧ q.length = n.queue.length
        ∧ ∀ r ∈ n.queue, r.event.merges = false → r ∈ q)
      ∨ (n.queue.length < 16 ∧ n.raise e = n.append e)
      ∨ (16 ≤ n.queue.length ∧ n.raise e = { n with lost := satInc n.lost }) := by
  unfold NoticeUnit.raise
  split
  next h => exact .inl ⟨by simpa using h, rfl⟩
  split
  next q hq =>
    unfold mergeEvent at hq
    split at hq
    next =>
      obtain ⟨hlen, hmem⟩ := mergeSlip_keeps hq
      refine .inr (.inl ⟨rfl, q, rfl, hlen, fun r hr hm => hmem r hr fun l a d f he => ?_⟩)
      rw [he] at hm
      cases hm
    next => cases hq
  next =>
    split
    next h => exact .inr (.inr (.inl ⟨h, rfl⟩))
    next h => exact .inr (.inr (.inr ⟨Nat.le_of_not_lt h, rfl⟩))

/-- An event that is enabled and never merged is held once it has been raised (R189). -/
theorem NoticeUnit.raise_holds_of_enabled {n : NoticeUnit} {e : Event} (he : e.enabled n.mask = true)
    (hm : e.merges = false) : (n.raise e).holds e := by
  obtain ⟨h, -⟩ | ⟨h, -⟩ | ⟨-, h⟩ | ⟨hfull, h⟩ := n.raise_cases e
  · rw [he] at h; cases h
  · rw [hm] at h; cases h
  · rw [h]
    exact .inl ⟨_, List.mem_append_right _ List.mem_cons_self, rfl, rfl⟩
  · rw [h]
    exact .inr ⟨hfull, .inl (satInc_ne_zero _)⟩

/-- An act that takes no event from the notice queue, and lets no record be acknowledged that could not be before. -/
structure State.KeepsEvents (s t : State) : Prop where
  mask : t.notices.mask = s.notices.mask
  holds : ∀ e, e.merges = false → s.notices.holds e → t.notices.holds e
  shows : ∀ e, e.merges = false → s.notices.shows e → t.notices.shows e

theorem State.KeepsEvents.of_notices {s t : State} (h : t.notices = s.notices) : s.KeepsEvents t :=
  ⟨by rw [h], fun _ _ hs => by rwa [h], fun _ _ hs => by rwa [h]⟩

theorem State.KeepsEvents.trans {s t u : State} (h : s.KeepsEvents t) (h' : t.KeepsEvents u) :
    s.KeepsEvents u :=
  ⟨h'.mask.trans h.mask, fun e hm hs => h'.holds e hm (h.holds e hm hs),
    fun e hm hs => h'.shows e hm (h.shows e hm hs)⟩

theorem State.raise_keepsEvents (s : State) (x : Event) : s.KeepsEvents (s.raise x) := by
  refine ⟨NoticeUnit.raise_mask _ _, fun e hm hs => ?_, fun e hm hs => ?_⟩
  all_goals
    rw [State.raise_notices]
    obtain ⟨-, h⟩ | ⟨-, q, h, hlen, hkept⟩ | ⟨-, h⟩ | ⟨-, h⟩ := s.notices.raise_cases x
    all_goals rw [h]
  · exact hs
  · obtain ⟨r, hr, rfl, hn⟩ | ⟨hfull, hstate⟩ := hs
    · exact .inl ⟨r, hkept r hr hm, rfl, hn⟩
    · exact .inr ⟨by rw [hlen]; exact hfull, hstate⟩
  · obtain ⟨r, hr, he, hn⟩ | ⟨hfull, hstate⟩ := hs
    · exact .inl ⟨r, List.mem_append_left _ hr, he, hn⟩
    · refine .inr ⟨?_, hstate.imp id fun ⟨h1, h2⟩ => ?_⟩
      · simp only [NoticeUnit.append, List.length_append]
        omega
      · simp only [NoticeUnit.append]
        split
        · exact ⟨nofun, nofun⟩
        · exact ⟨h1, h2⟩
  · exact hs.imp id fun ⟨hfull, hstate⟩ => ⟨hfull, hstate.imp (fun _ => satInc_ne_zero _) id⟩
  · exact hs
  · obtain ⟨r, hr, rfl⟩ | hfull := hs
    · exact .inl ⟨r, hkept r hr hm, rfl⟩
    · exact .inr (by rw [hlen]; exact hfull)
  · obtain ⟨r, hr, he⟩ | hfull := hs
    · exact .inl ⟨r, List.mem_append_left _ hr, he⟩
    · refine .inr ?_
      simp only [NoticeUnit.append, List.length_append]
      omega
  · exact hs

/-- Raising an event after an act that is none of the Notice Unit's. -/
theorem State.KeepsEvents.raised {s u : State} (h : u.notices = s.notices) (x : Event) :
    s.KeepsEvents (u.raise x) :=
  (State.KeepsEvents.of_notices h).trans (u.raise_keepsEvents x)

theorem State.raiseAll_keepsEvents (s : State) (es : List Event) : s.KeepsEvents (s.raiseAll es) := by
  induction es generalizing s with
  | nil => exact .of_notices rfl
  | cons x es ih => exact (s.raise_keepsEvents x).trans (ih _)

/-- Each of the events raised is held after them all (R189). -/
theorem State.raiseAll_holds {s : State} {es : List Event} {e : Event} (he : e ∈ es)
    (hm : e.merges = false) (hmask : e.enabled s.notices.mask = true) : (s.raiseAll es).notices.holds e := by
  induction es generalizing s with
  | nil => cases he
  | cons x es ih =>
    obtain rfl | he := List.mem_cons.mp he
    · exact (State.raiseAll_keepsEvents (s.raise e) es).holds e hm
        (NoticeUnit.raise_holds_of_enabled hmask hm)
    · refine ih he ?_
      rw [(s.raise_keepsEvents x).mask]
      exact hmask

/-- The timer of an outstanding head takes no event from the queue (R194, R196). -/
theorem State.noticeBoundary_keepsEvents (s : State) (ran : Bool) : s.KeepsEvents (s.noticeBoundary ran) := by
  unfold State.noticeBoundary
  split
  case isFalse => exact .of_notices rfl
  rename_i hran
  simp only [Bool.and_eq_true, decide_eq_true_eq] at hran
  obtain ⟨-, hstate⟩ := hran
  have htick : ∃ state timer, s.notices.tick = { s.notices with state := state, timer := timer } := by
    unfold NoticeUnit.tick
    split
    · exact ⟨_, _, rfl⟩
    · exact ⟨s.notices.state, _, rfl⟩
  obtain ⟨state, timer, htick⟩ := htick
  refine ⟨?_, fun e _ hs => ?_, fun e _ hs => ?_⟩
  all_goals rw [State.withNotices_notices, htick]
  · exact hs.imp id fun ⟨hfull, hlost⟩ => ⟨hfull, .inl (hlost.resolve_right fun h => h.1 hstate)⟩
  · exact hs

/-- Every share but the link's takes no event from the queue. -/
theorem State.takeShare_keepsEvents (before : State) (found : Taker → State) (s : State) {t : Taker}
    (ht : t ≠ .link) : s.KeepsEvents (State.takeShare before found s t) := by
  cases t with
  | link => exact absurd rfl ht
  | store line => exact s.raiseAll_keepsEvents _
  | timing => exact s.raiseAll_keepsEvents _
  | schedule => exact s.raiseAll_keepsEvents _
  | mapController => exact .of_notices (State.finishMc_notices _ _)
  | notice => exact s.noticeBoundary_keepsEvents _
  | probe i =>
    simp only [State.takeShare, State.probeBoundary]
    split
    · exact .of_notices rfl
    split
    · exact .of_notices rfl
    split
    · exact .raised (State.setProbeAt_notices _ _ _) _
    · exact .of_notices rfl

/-! ### The link's act -/

theorem State.headParts_keepsEvents (s : State) : s.KeepsEvents s.headParts := by
  have hrevert : ∀ why, s.KeepsEvents (s.revert why) := fun why => by
    unfold State.revert
    split
    · exact .raised (State.giveUp_notices _ _ _) _
    · exact .of_notices rfl
  have htrial : s.KeepsEvents s.trialPart := by
    unfold State.trialPart
    split
    · exact .of_notices rfl
    split
    · exact hrevert _
    split
    · exact hrevert _
    · exact .of_notices rfl
  have hswitch : ∀ u : State, u.KeepsEvents u.switchPart := fun u => by
    unfold State.switchPart
    split
    · exact .of_notices rfl
    split
    · exact .raised ((State.withEngine_notices _ _).trans (State.giveUp_notices _ _ _)) _
    · exact .of_notices (State.switchTo_notices _ _)
  exact htrial.trans (hswitch _)

theorem NoticeUnit.goodMessage_mask (n : NoticeUnit) (kind seq : Byte) :
    (n.goodMessage kind seq).mask = n.mask := by
  by_cases h : n.acks kind seq
  · rw [NoticeUnit.goodMessage_acks h, NoticeUnit.removeHead_eq]
  · rw [NoticeUnit.goodMessage_released h, NoticeUnit.released]
    split <;> rfl

theorem State.confirm_keepsEvents (s : State) : s.KeepsEvents s.confirm := by
  unfold State.confirm
  split
  · exact .raised (State.giveUp_notices _ _ _) _
  · exact .of_notices rfl

/-- An octet acknowledges at most a head that was sent, and so no event that is held (R195). -/
theorem State.receive_holds {s : State} {e : Event} (hm : e.merges = false) (h : s.notices.holds e) (b : Byte) :
    (s.receive b).notices.holds e := by
  obtain ⟨k, heq, -⟩ | ⟨seq, kind, payload, -, heq⟩ := s.receive_cases b
  · rw [heq]
    exact h
  · rw [heq, State.deliverGood_notices]
    exact NoticeUnit.goodMessage_holds ((State.confirm_keepsEvents (s.receiving .hunt)).holds e hm h) _ _

theorem State.receive_mask (s : State) (b : Byte) : (s.receive b).notices.mask = s.notices.mask := by
  obtain ⟨k, heq, -⟩ | ⟨seq, kind, payload, -, heq⟩ := s.receive_cases b
  · rw [heq]
    rfl
  · rw [heq, State.deliverGood_notices, NoticeUnit.goodMessage_mask]
    exact (State.confirm_keepsEvents (s.receiving .hunt)).mask

theorem State.readFrame_holds {s : State} {e : Event} (hm : e.merges = false) (h : s.notices.holds e) :
    s.readFrame.notices.holds e := by
  have hfold : ∀ (octets : List Byte) (u : State), u.notices.holds e →
      (octets.foldl State.receive u).notices.holds e := by
    intro octets
    induction octets with
    | nil => exact fun _ hu => hu
    | cons b rest ih => exact fun u hu => ih _ (State.receive_holds hm hu b)
  unfold State.readFrame
  split
  · exact h
  · exact hfold _ s h

theorem State.readFrame_mask (s : State) : s.readFrame.notices.mask = s.notices.mask := by
  unfold State.readFrame
  split
  · rfl
  · exact foldl_keeps (fun t : State => t.notices.mask) _ State.receive_mask _ s

/-- The octets placed leave the queue as it is: a notice sent stays at its head (R194). -/
theorem State.placeOctet_queue (s : State) (m : OutMessage) (next : Nat) :
    (s.placeOctet m next).notices.queue = s.notices.queue := by
  simp only [State.placeOctet]
  split
  · simp
  · cases howner : m.owner <;> simp [State.endMessage, howner, NoticeUnit.sent]

/-- The transmitter numbers the head it starts and takes none from the queue (R193, R194). -/
theorem State.fillFrame_shows {s : State} {e : Event} (h : s.notices.shows e) : s.fillFrame.notices.shows e := by
  have hstart : ∀ n : NoticeUnit, n.shows e → n.start.shows e := fun n hn => by
    unfold NoticeUnit.start
    split
    next => exact hn
    next x xs hq =>
      split
      next => exact hn
      next =>
        simp only [NoticeUnit.shows, hq, List.mem_cons, exists_eq_or_imp] at hn ⊢
        exact hn
  have hready : ∀ u : State, u.notices.shows e → u.readied.notices.shows e := fun u hu => by
    have hnotice : u.startNotice.notices.shows e := by
      simp only [State.startNotice]
      split
      · exact hu
      · exact hstart _ hu
    unfold State.readied
    split
    · unfold State.chooseMessage
      split
      · split
        · exact hnotice
        · exact hu
      · split
        · exact hnotice
        · exact hu
    · exact hu
  have hslot : ∀ u : State, u.notices.shows e → u.fillSlot.notices.shows e := fun u hu => by
    have hr := hready u hu
    unfold State.fillSlot
    split
    next m next _ =>
      simpa only [NoticeUnit.shows, State.placeOctet_queue] using hr
    next => exact hr
    next => exact hr
  have hslots : ∀ (n : Nat) (u : State), u.notices.shows e → (State.fillSlots n u).notices.shows e := by
    intro n
    induction n with
    | zero => exact fun _ hu => hu
    | succ n ih => exact fun u hu => ih _ (hslot u hu)
  exact hslots _ s h

theorem State.linkAct_shows {s : State} {e : Event} (hm : e.merges = false) (h : s.notices.holds e) :
    (s.linkAct State.readFrame).notices.shows e :=
  State.fillFrame_shows (s := s.headParts.readFrame)
    (NoticeUnit.shows_of_holds (State.readFrame_holds hm (s.headParts_keepsEvents.holds e hm h)))

theorem State.linkAct_mask (s : State) : (s.linkAct State.readFrame).notices.mask = s.notices.mask :=
  (State.fillFrame_leavesMove _).mask.trans
    ((State.readFrame_mask _).trans s.headParts_keepsEvents.mask)

/-! ### The whole boundary -/

section shares
variable {before : State} {found : Taker → State}

theorem State.takeShare_mask (s : State) (t : Taker) :
    (State.takeShare before found s t).notices.mask = s.notices.mask := by
  by_cases ht : t = .link
  · subst ht
    simp only [State.takeShare]
    split
    · rfl
    · exact s.linkAct_mask
  · exact (State.takeShare_keepsEvents before found s ht).mask

/-- An event that stands in the queue once the link has taken the boundary stands there to its end. -/
theorem State.foldl_takeShare_shows {shares : List Taker} (hlink : .link ∉ shares) {s : State} {e : Event}
    (hm : e.merges = false) (h : s.notices.shows e) :
    (shares.foldl (State.takeShare before found) s).notices.shows e := by
  induction shares generalizing s with
  | nil => exact h
  | cons t rest ih =>
    have ht : t ≠ .link := fun heq => hlink (by simp [heq])
    exact ih (fun hmem => hlink (List.mem_cons_of_mem _ hmem))
      ((State.takeShare_keepsEvents before found s ht).shows e hm h)

/-- An event that is held shows at the end, since the link, which may start it, takes the boundary once. -/
theorem State.foldl_takeShare_holds {shares : List Taker} (hnodup : shares.Nodup) {s : State} {e : Event}
    (hm : e.merges = false) (h : s.notices.holds e) :
    (shares.foldl (State.takeShare before found) s).notices.shows e := by
  induction shares generalizing s with
  | nil => exact NoticeUnit.shows_of_holds h
  | cons t rest ih =>
    obtain ⟨hout, hrest⟩ := List.nodup_cons.mp hnodup
    by_cases ht : t = .link
    · subst ht
      refine State.foldl_takeShare_shows hout hm ?_
      simp only [State.takeShare]
      split
      · exact NoticeUnit.shows_of_holds h
      · exact State.linkAct_shows hm h
    · exact ih hrest ((State.takeShare_keepsEvents before found s ht).holds e hm h)

end shares

/-- An event that a share other than the link's raises stands in the notice queue after the boundary, whatever the order and whatever the link delivers, unless the queue is full (R189). -/
theorem State.numberedBoundary_shows {s : State} {e : Event} {t : Taker} (hm : e.merges = false)
    (hraise : ∀ u : State, u.notices.mask = s.notices.mask →
      (State.takeShare s (fun _ => s) u t).notices.holds e) (order : List Taker) :
    (s.numberedBoundary ⟨order, []⟩).notices.shows e := by
  obtain ⟨earlier, later, hsplit⟩ := List.append_of_mem (s.mapEffects.mem_shareOrder order t)
  have hnodup := s.mapEffects.shareOrder_nodup order
  rw [hsplit] at hnodup
  have hlater : later.Nodup := (List.nodup_cons.mp (List.nodup_append.mp hnodup).2.1).2
  rw [State.numberedBoundary_plain, hsplit, List.foldl_append, List.foldl_cons]
  refine State.foldl_takeShare_holds hlater hm (hraise _ ?_)
  exact (foldl_keeps (fun u : State => u.notices.mask) _ State.takeShare_mask _ _).trans (by simp)

end Sys2Proof.Machine
end

section
/-! SUPPORT. What a numbered boundary makes of the Map Controller, the pages' indicator and the schedule table's entries due (R28 to R31, R34, R36, R37, R121 to R124). -/

namespace Sys2Proof.Machine

/-! ### The entries due are handed over -/

/-- The outcome of an action where no swap is allowed (R36, R122, R123). -/
def Action.refused : Action → FiredOutcome
  | .swap => .pageBusy
  | .pattern _ _ => .done

theorem State.swapAllowed_of_busy {s : State} (h : s.mc.state ≠ .idle) (n : Word) :
    s.swapAllowed n = false := by
  simp [State.swapAllowed, h]

/-- A second swap at the same boundary is not allowed (R36). -/
theorem State.swapAllowed_swapAt (s : State) (n : Word) : (s.swapAt n).swapAllowed n = false := by
  simp [State.swapAllowed, State.swapAt]

/-- Entries handed over without a swap taking effect: each reports so, and Map Controller and indicator stay (R36, R122 to R124). -/
theorem fireAll_noSwap (n : Word) (es : List ScheduleEntry) (s : State)
    (h : s.swapAllowed n = false ∨ ∀ e ∈ es, e.action ≠ .swap) :
    (fireAll n es s).2 = es.map (fun e => doneEvent n e e.action.refused)
      ∧ (fireAll n es s).1.mc = s.mc ∧ (fireAll n es s).1.switch.active = s.switch.active
      ∧ (fireAll n es s).1.swapAllowed n = s.swapAllowed n := by
  induction es generalizing s with
  | nil => exact ⟨rfl, rfl, rfl, rfl⟩
  | cons e es ih =>
    have hone : (s.handOver n e.action).2 = e.action.refused
        ∧ (s.handOver n e.action).1.mc = s.mc
        ∧ (s.handOver n e.action).1.switch.active = s.switch.active
        ∧ (s.handOver n e.action).1.swapAllowed n = s.swapAllowed n := by
      cases ha : e.action with
      | pattern i v => exact ⟨rfl, rfl, rfl, rfl⟩
      | swap =>
        have hno : s.swapAllowed n = false := h.resolve_right fun h => h e List.mem_cons_self ha
        simp [State.handOver, hno, Action.refused]
    obtain ⟨hout, hmc, hactive, hallowed⟩ := hone
    obtain ⟨h1, h2, h3, h4⟩ := ih (s.handOver n e.action).1
      (h.imp (fun h => hallowed.trans h) fun h x hx => h x (List.mem_cons_of_mem _ hx))
    simp only [fireAll, List.map_cons]
    exact ⟨by rw [h1, hout], h2.trans hmc, h3.trans hactive, h4.trans hallowed⟩

theorem fireAll_append (n : Word) (as bs : List ScheduleEntry) (s : State) :
    fireAll n (as ++ bs) s
      = ((fireAll n bs (fireAll n as s).1).1, (fireAll n as s).2 ++ (fireAll n bs (fireAll n as s).1).2) := by
  induction as generalizing s with
  | nil => rfl
  | cons a as ih => simp [fireAll, ih]

/-- The first SWAP handed over where one is allowed takes effect; every later one is refused (R36, R37, R122). -/
theorem fireAll_firstSwap {n : Word} {earlier later : List ScheduleEntry} {e : ScheduleEntry} {s : State}
    (hallowed : s.swapAllowed n = true) (hearlier : ∀ x ∈ earlier, x.action ≠ .swap)
    (he : e.action = .swap) :
    (fireAll n (earlier ++ e :: later) s).2
        = earlier.map (fun x => doneEvent n x x.action.refused) ++ doneEvent n e .done
          :: later.map (fun x => doneEvent n x x.action.refused)
      ∧ (fireAll n (earlier ++ e :: later) s).1.mc = { s.mc with lastSwap := some n }
      ∧ (fireAll n (earlier ++ e :: later) s).1.switch.active = s.switch.active.other := by
  obtain ⟨h1, hmc, hactive, hstill⟩ := fireAll_noSwap n earlier s (.inr hearlier)
  obtain ⟨u, hu⟩ : ∃ u, (fireAll n earlier s).1 = u := ⟨_, rfl⟩
  rw [hu] at hmc hactive hstill
  have hand : u.handOver n e.action = (u.swapAt n, .done) := by
    simp [State.handOver, he, hstill, hallowed]
  obtain ⟨h2, hmc2, hactive2, -⟩ := fireAll_noSwap n later (u.swapAt n) (.inl (u.swapAllowed_swapAt n))
  simp only [fireAll_append, fireAll, hu, hand, h1, h2, hmc2, hactive2]
  refine ⟨trivial, ?_, ?_⟩
  · simp [State.swapAt, hmc]
  · simp [State.swapAt, Switch.swapped, hactive]

/-! ### The Map Controller's step -/

section fresh
variable {s : State} (hopen : s.opening = closedOpening)
include hopen

theorem State.switchBoundary_fresh : s.switchBoundary = s.promotePatterns.mcStep (s.timing.sfn + 1) := by
  rw [State.switchBoundary, State.comingFrame_fresh hopen]

/-- The entries due are handed over when the Map Controller has made its step (R36). -/
theorem State.mapEffects_fresh :
    s.switchBoundary.fireOnce
      = fireAll (s.timing.sfn + 1) (s.due (s.timing.sfn + 1))
        (s.switchBoundary.withSchedule (s.schedule.filter fun e => e.due ≠ s.timing.sfn + 1)) := by
  have hdone : s.switchBoundary.opening.timingDone = false := by
    rw [State.switchBoundary_timingDone, hopen]
    rfl
  have hn : s.switchBoundary.comingFrame = s.timing.sfn + 1 := by
    rw [State.switchBoundary_comingFrame, State.comingFrame_fresh hopen]
  rw [State.fireOnce, if_neg (by rw [hdone]; nofun), hn, State.fire, State.due, State.due,
    State.switchBoundary_schedule]

/-- While an operation is in flight every SWAP entry due is refused: the boundary's effects on Map Controller and indicator are the Map Controller's own (R36, R122). -/
theorem State.mapEffects_busy (hbusy : s.mc.state ≠ .idle) :
    s.switchBoundary.fireOnce.2
        = (s.due (s.timing.sfn + 1)).map (fun e => doneEvent (s.timing.sfn + 1) e e.action.refused)
      ∧ s.mapEffects.mc = s.switchBoundary.mc
      ∧ s.mapEffects.switch.active = s.switchBoundary.switch.active := by
  have howner : s.switchBoundary.mc.state.owner = s.mc.state.owner := (State.mcStep_owner _ _).trans rfl
  have hstill : s.switchBoundary.mc.state ≠ .idle := fun h => hbusy <| by
    rw [← McState.owner_eq_none_iff, ← howner, h]
    rfl
  rw [State.mapEffects, State.mapEffects_fresh hopen]
  obtain ⟨h1, h2, h3, -⟩ := fireAll_noSwap (s.timing.sfn + 1) (s.due (s.timing.sfn + 1))
    (s.switchBoundary.withSchedule (s.schedule.filter fun e => e.due ≠ s.timing.sfn + 1))
    (.inl (State.swapAllowed_of_busy hstill _))
  exact ⟨h1, h2, h3⟩

/-- In IDLE the Map Controller makes no step, and a swap is allowed (R36). -/
theorem State.switchBoundary_idle (hidle : s.mc.state = .idle) :
    s.switchBoundary = s.promotePatterns ∧ s.switchBoundary.swapAllowed (s.timing.sfn + 1) = true := by
  have h : s.switchBoundary = s.promotePatterns := by
    rw [State.switchBoundary, State.mcStep, State.promotePatterns_mc, hidle]
  refine ⟨h, ?_⟩
  rw [h]
  simp [State.swapAllowed, hidle, hopen, closedOpening]

end fresh

/-! ### The Map Controller's share -/

/-- What only the Map Controller's share of a boundary changes, beside the effects of the boundary's number: its own record, the response cache and the reservation (R25, R154). -/
def State.mcFields (s : State) : MapController × List Response × Bool :=
  (s.mc, s.engine.cache, s.engine.reserved)

/-- Intake queues a request or a response; a final response alone joins the cache (R144, R145, R154). -/
theorem State.intake_mcFields (s : State) (r : Request) : (s.intake r).mcFields = s.mcFields := by
  simp only [State.intake, RequestEngine.resend, RequestEngine.accept]
  (repeat' split) <;> rfl

theorem State.receive_mcFields (s : State) (b : Byte) : (s.receive b).mcFields = s.mcFields := by
  obtain ⟨k, heq, -⟩ | ⟨seq, kind, payload, -, heq⟩ := s.receive_cases b
  · rw [heq]
    rfl
  · rw [heq]
    simp only [State.deliverGood]
    split
    · rw [State.intake_mcFields]
      simp [State.mcFields]
    · simp [State.mcFields]

theorem State.linkAct_mcFields (s : State) : (s.linkAct State.readFrame).mcFields = s.mcFields := by
  have hhead : s.headParts.mcFields = s.mcFields := by
    have htrial : s.trialPart.engine = s.engine := by simp
    have hswitch : ∀ u : State, u.switchPart.engine.cache = u.engine.cache
        ∧ u.switchPart.engine.reserved = u.engine.reserved := fun u => by
      unfold State.switchPart
      (repeat' split) <;> simp [State.revertSwitch, State.switchTo]
    simp [State.mcFields, State.headParts, hswitch]
  have hread : ∀ u : State, u.readFrame.mcFields = u.mcFields := fun u => by
    unfold State.readFrame
    split
    · rfl
    · exact foldl_keeps State.mcFields _ State.receive_mcFields _ u
  have hslot : ∀ u : State, u.fillSlot.mcFields = u.mcFields := fun u => by
    have hready : u.readied.mcFields = u.mcFields := by simp [State.mcFields]
    have hplace : ∀ (v : State) m next, (v.placeOctet m next).mcFields = v.mcFields := fun v m next => by
      simp only [State.placeOctet, State.endMessage]
      (repeat' split) <;> rfl
    unfold State.fillSlot
    split
    · exact (hplace _ _ _).trans hready
    · exact hready
    · exact hready
  have hslots : ∀ (n : Nat) (u : State), (State.fillSlots n u).mcFields = u.mcFields := by
    intro n
    induction n with
    | zero => exact fun _ => rfl
    | succ n ih => exact fun u => (ih _).trans (hslot u)
  exact ((hslots _ _).trans (hread _)).trans hhead

theorem State.takeShare_mcFields {before s : State} {found : Taker → State} {t : Taker}
    (ht : t ≠ .mapController) : (State.takeShare before found s t).mcFields = s.mcFields := by
  cases t with
  | mapController => exact absurd rfl ht
  | link =>
    simp only [State.takeShare]
    split
    · rfl
    · exact s.linkAct_mcFields
  | _ => simp [State.mcFields, State.takeShare]

/-- Shares that are none of the Map Controller's leave its record, the cache and the reservation as they are. -/
theorem State.foldl_takeShare_mcFields {before : State} {found : Taker → State} {shares : List Taker}
    (h : .mapController ∉ shares) (s : State) :
    (shares.foldl (State.takeShare before found) s).mcFields = s.mcFields := by
  induction shares generalizing s with
  | nil => rfl
  | cons t rest ih =>
    have ht : t ≠ .mapController := fun heq => h (by simp [heq])
    exact (ih (fun hm => h (List.mem_cons_of_mem _ hm)) _).trans (State.takeShare_mcFields ht)

/-- The record, the cache and the reservation after a boundary are those that the Map Controller's share leaves, whatever the order (R25, R99). -/
theorem State.numberedBoundary_mcFields (s : State) (order : List Taker) :
    ∃ u : State, u.mcFields = (s.mapEffects.mc, s.engine.cache, s.engine.reserved)
      ∧ (s.numberedBoundary ⟨order, []⟩).mcFields = (u.finishMc (s.mcFinal s.comingFrame)).mcFields := by
  obtain ⟨earlier, later, hsplit⟩ := List.append_of_mem (s.mapEffects.mem_shareOrder order .mapController)
  have hnodup := s.mapEffects.shareOrder_nodup order
  rw [hsplit] at hnodup
  have hmid := (List.perm_middle.nodup_iff.mp hnodup).notMem
  have hbegin : ∀ u : State, (u.beginFrames.withOpening closedOpening).mcFields = u.mcFields := fun _ => rfl
  refine ⟨earlier.foldl (State.takeShare s fun _ => s) (s.numberedEffects fun _ => s), ?_, ?_⟩
  · rw [State.foldl_takeShare_mcFields fun hm => hmid (List.mem_append_left _ hm)]
    have hmc : (s.numberedEffects fun _ => s).mc = s.mapEffects.mc := rfl
    simp [State.mcFields, hmc]
  · rw [State.numberedBoundary_plain, hsplit, hbegin, List.foldl_append, List.foldl_cons]
    exact State.foldl_takeShare_mcFields (fun hm => hmid (List.mem_append_right _ hm)) _

/-- A boundary at which no operation ends (R28, R30). -/
theorem State.numberedBoundary_goesOn {s : State} (h : s.mcFinal s.comingFrame = none) (order : List Taker) :
    (s.numberedBoundary ⟨order, []⟩).mc = s.mapEffects.mc
      ∧ (s.numberedBoundary ⟨order, []⟩).engine.cache = s.engine.cache
      ∧ (s.numberedBoundary ⟨order, []⟩).engine.reserved = s.engine.reserved := by
  obtain ⟨u, hu, ht⟩ := s.numberedBoundary_mcFields order
  rw [h, State.finishMc, hu] at ht
  simpa [State.mcFields] using ht

/-- A boundary at which an operation ends: IDLE, the reservation ended, the final response the newest of the cache (R25, R154). -/
theorem State.numberedBoundary_ends {s : State} {kind owner : Byte} {data : List Byte}
    (h : s.mcFinal s.comingFrame = some (kind, owner, data)) (order : List Taker) :
    (s.numberedBoundary ⟨order, []⟩).mc = { s.mapEffects.mc with state := .idle }
      ∧ (s.numberedBoundary ⟨order, []⟩).engine.reserved = false
      ∧ ∃ credit : Byte, (s.numberedBoundary ⟨order, []⟩).engine.cache
        = pushCache s.engine.cache
          { kind := responseKind kind, seq := owner, status := .ok, credit := credit, data := data
            hold := false } := by
  obtain ⟨u, hu, ht⟩ := s.numberedBoundary_mcFields order
  simp only [State.mcFields, Prod.mk.injEq] at hu
  obtain ⟨hmc, hcache, -⟩ := hu
  rw [h] at ht
  simp only [State.mcFields, Prod.mk.injEq] at ht
  obtain ⟨h1, h2, h3⟩ := ht
  refine ⟨h1.trans ?_, h3, u.engine.credit, h2.trans ?_⟩
  · rw [← hmc]
    rfl
  · rw [← hcache]
    rfl

/-! ### The indicator and the pages -/

theorem State.takeShare_active (before s : State) (found : Taker → State) (t : Taker) :
    (State.takeShare before found s t).switch.active = s.switch.active := by
  have hgive : ∀ (u : State) gone k, (u.giveUp gone k).switch.active = u.switch.active := fun _ _ _ => rfl
  have hhead : ∀ u : State, u.headParts.switch.active = u.switch.active := fun u => by
    have htrial : u.trialPart.switch.active = u.switch.active := by
      unfold State.trialPart State.revert
      (repeat' split) <;> simp [State.revertTrial, hgive]
    rw [← htrial, State.headParts, State.switchPart]
    (repeat' split) <;> simp [State.revertSwitch, hgive]
  have hread : ∀ (u : State) b, (u.receive b).switch.active = u.switch.active := fun u b => by
    obtain ⟨k, heq, -⟩ | ⟨seq, kind, payload, -, heq⟩ := u.receive_cases b
    · rw [heq]
      rfl
    · rw [heq, State.deliverGood_switch, State.confirm]
      split <;> simp [hgive]
  have hframe : ∀ u : State, u.readFrame.switch.active = u.switch.active := fun u => by
    unfold State.readFrame
    split
    · rfl
    · exact foldl_keeps (fun v : State => v.switch.active) _ hread _ u
  cases t with
  | link =>
    simp only [State.takeShare]
    split
    · rfl
    · simp [State.linkAct, hframe, hhead]
  | _ => simp [State.takeShare]

/-- Which page is in service after a boundary is what Map Controller and schedule table make of it (R34, R37). -/
theorem State.numberedBoundary_active (s : State) (order : List Taker) :
    (s.numberedBoundary ⟨order, []⟩).switch.active = s.mapEffects.switch.active :=
  State.numberedBoundary_plain_keeps (fun u => u.switch.active) s order
    (fun _ _ _ => State.takeShare_active _ _ _ _) fun _ _ => rfl

/-- With no move pending or in trial the link's act writes no page (R165). -/
theorem State.linkAct_switch_resting {s : State} (h : s.link.resting) :
    (s.linkAct State.readFrame).switch = s.switch := by
  obtain ⟨hst, hp, hf⟩ := h
  have hhead : s.headParts = s :=
    State.headParts_settled hst ⟨fun _ => .inl hp, fun ht => by rw [hst] at ht; cases ht⟩
  have hfold : ∀ (octets : List Byte) (u : State), u.link.state = .settled →
      (octets.foldl State.receive u).switch = u.switch := by
    intro octets
    induction octets with
    | nil => exact fun _ _ => rfl
    | cons b rest ih =>
      intro u hu
      obtain ⟨k, heq, hk⟩ | ⟨seq, kind, payload, -, heq⟩ := u.receive_cases b
      · obtain ⟨-, hstate, -⟩ := (Link.move_eq_iff _ _).1 hk
        rw [List.foldl_cons, heq, ih _ (hstate.trans hu)]
        rfl
      · have hsame : (u.receiving .hunt).confirm = u.receiving .hunt :=
          State.confirm_settled (s := u.receiving .hunt) hu
        rw [List.foldl_cons, heq, ih _ (by rw [State.deliverGood_link, hsame]; exact hu),
          State.deliverGood_switch, hsame]
        rfl
  have hread : s.readFrame.switch = s.switch := by
    unfold State.readFrame
    split
    · rfl
    · exact hfold _ s hst
  simp [State.linkAct, hhead, hread]

/-- With no move pending or in trial the pages after a boundary are those that Map Controller and schedule table leave (R28, R30, R37). -/
theorem State.numberedBoundary_switch_resting {s : State} (hopen : s.opening = closedOpening)
    (h : s.link.resting) (order : List Taker) :
    (s.numberedBoundary ⟨order, []⟩).switch = s.mapEffects.switch := by
  obtain ⟨u, hu, hlink, -, -, hafter⟩ :=
    State.numberedBoundary_linkAct (s := s) (by rw [hopen]; rfl) order
  rw [hafter.switch, State.linkAct_switch_resting (by rw [hlink]; exact h), hu.switch]
  rfl

/-- The entries due write no entry of a page (R37). -/
theorem State.mapEffects_page_fresh {s : State} (hopen : s.opening = closedOpening) (name : PageName) :
    s.mapEffects.switch.page name = s.switchBoundary.switch.page name := by
  rw [State.mapEffects, State.mapEffects_fresh hopen, fireAll_page]
  rfl

end Sys2Proof.Machine
end

section
/-! CERTIFICATE. A copy or clear step at BOUNDARY: CopyAndClearStepAtBoundary. -/

namespace Sys2Proof.Machine

theorem State.promotePatterns_page (s : State) (name : PageName) :
    s.promotePatterns.switch.page name = s.switch.page name := by
  cases name <;> simp only [Switch.page, State.promotePatterns, State.withSwitch_switch]

@[simp] theorem State.promotePatterns_active (s : State) :
    s.promotePatterns.switch.active = s.switch.active := by
  simp only [State.promotePatterns, State.withSwitch_switch]

@[simp] theorem Switch.withStandby_active (w : Switch) (p : Page) : (w.withStandby p).active = w.active := by
  unfold Switch.withStandby
  split <;> rfl

@[simp] theorem State.writeStandbyLine_mc (s : State) (line : Line) (entries : Vector Entry 64) :
    (s.writeStandbyLine line entries).mc = s.mc := rfl

section step
variable {s : State} {progress : Line} {owner : Byte} (hopen : s.opening = closedOpening)
include hopen

/-- The step of a copy (R28, R29). -/
theorem State.switchBoundary_copying (hm : s.mc.state = .copying progress owner) :
    s.switchBoundary.mc
        = (if progress = 7 then s.mc else { s.mc with state := .copying (progress + 1) owner })
      ∧ s.switchBoundary.switch
        = (s.promotePatterns.writeStandbyLine progress s.switch.activePage[progress]).switch := by
  have hpage : s.promotePatterns.switch.activePage = s.switch.activePage := by
    simp only [Switch.activePage, State.promotePatterns_active, State.promotePatterns_page]
  rw [State.switchBoundary_fresh hopen, State.mcStep, State.promotePatterns_mc, hm]
  simp only [State.copyLine, hpage]
  split <;> simp [-Fin.getElem_fin, State.mcState]

/-- The step of a clear (R30, R31). -/
theorem State.switchBoundary_clearing (hm : s.mc.state = .clearing progress owner) :
    s.switchBoundary.mc
        = (if progress = 7 then s.mc else { s.mc with state := .clearing (progress + 1) owner })
      ∧ s.switchBoundary.switch
        = (s.promotePatterns.writeStandbyLine progress
            (Vector.ofFn fun slot => if s.management progress slot then .control else .release)).switch := by
  rw [State.switchBoundary_fresh hopen, State.mcStep, State.promotePatterns_mc, hm]
  have hmanage : ∀ slot, s.promotePatterns.management progress slot = s.management progress slot := fun _ => by
    simp only [State.management, State.promotePatterns_link]
  simp only [State.clearLine, hmanage]
  split <;> simp [State.mcState]

/-- What a boundary makes of a copy or clear whose step writes these entries (R28 to R31, R36). -/
theorem State.boundary_rewrites (hrest : s.link.resting) (hbusy : s.mc.state ≠ .idle) {kind : Byte}
    {next : McState} {entries : Vector Entry 64}
    (hstep : s.switchBoundary.mc = (if progress = 7 then s.mc else { s.mc with state := next })
      ∧ s.switchBoundary.switch = (s.promotePatterns.writeStandbyLine progress entries).switch)
    (hfinal : s.mcFinal s.comingFrame = if progress = 7 then
      some (kind, owner, s.switch.active.other.code :: wordOctets (s.timing.sfn + 1)) else none)
    (order : List Taker) :
    let t := s.numberedBoundary ⟨order, []⟩
    (t.mc.lastSwap = s.mc.lastSwap ∧ t.mc.endFrame = s.mc.endFrame
        ∧ t.switch.active = s.switch.active ∧ t.switch.activePage = s.switch.activePage)
      ∧ (if progress = 7 then
          t.mc.state = .idle ∧ t.engine.reserved = false
            ∧ ∃ credit : Byte,
              let response : Response := {
                kind := responseKind kind, seq := owner, status := .ok, credit := credit
                data := s.switch.active.other.code :: wordOctets (s.timing.sfn + 1), hold := false }
              t.engine.cache =
                if s.engine.cache.length < 4 then s.engine.cache ++ [response]
                else s.engine.cache.drop 1 ++ [response]
        else t.engine.cache = s.engine.cache ∧ t.engine.reserved = s.engine.reserved)
      ∧ (progress ≠ 7 → t.mc.state = next)
      ∧ ∀ (line : Line) (slot : Slot),
          entryAt t.switch.standbyPage line slot =
            if line = progress then entries[slot] else entryAt s.switch.standbyPage line slot := by
  intro t
  obtain ⟨hmc, hswitch⟩ := hstep
  obtain ⟨-, hmapMc, hmapActive⟩ := State.mapEffects_busy hopen hbusy
  have hwritten : s.switchBoundary.switch.active = s.switch.active := by
    rw [hswitch]
    simp only [State.writeStandbyLine, State.withSwitch_switch, Switch.withStandby_active,
      State.promotePatterns_active]
  have hactive : t.switch.active = s.switch.active :=
    (s.numberedBoundary_active order).trans (hmapActive.trans hwritten)
  have hpage : ∀ name, t.switch.page name = if name = s.switch.active.other then
      s.switch.standbyPage.set progress entries else s.switch.page name := fun name => by
    rw [State.numberedBoundary_switch_resting hopen hrest, State.mapEffects_page_fresh hopen, hswitch]
    simp only [State.writeStandbyLine, State.withSwitch_switch, Switch.page_withStandby,
      Switch.standbyPage, State.promotePatterns_page, State.promotePatterns_active]
  have hother : s.switch.active ≠ s.switch.active.other := by cases s.switch.active <;> nofun
  have hactivePage : t.switch.activePage = s.switch.activePage := by
    rw [Switch.activePage, hactive, hpage, if_neg hother]
    rfl
  have hentries : ∀ (line : Line) (slot : Slot), entryAt t.switch.standbyPage line slot =
      if line = progress then entries[slot] else entryAt s.switch.standbyPage line slot := fun line slot => by
    rw [Switch.standbyPage, hactive, hpage, if_pos rfl, entryAt_set]
  by_cases hlast : progress = 7
  · rw [if_pos hlast] at hfinal hmc
    obtain ⟨htmc, hreserved, credit, hcache⟩ := State.numberedBoundary_ends hfinal order
    rw [hmapMc, hmc] at htmc
    rw [pushCache_eq] at hcache
    refine ⟨⟨by rw [htmc], by rw [htmc], hactive, hactivePage⟩, ?_, fun h => absurd hlast h, hentries⟩
    rw [if_pos hlast]
    exact ⟨by rw [htmc], hreserved, credit, hcache⟩
  · rw [if_neg hlast] at hfinal hmc
    obtain ⟨htmc, hcache, hreserved⟩ := State.numberedBoundary_goesOn hfinal order
    rw [hmapMc, hmc] at htmc
    refine ⟨⟨by rw [htmc], by rw [htmc], hactive, hactivePage⟩, ?_, fun _ => by rw [htmc], hentries⟩
    rw [if_neg hlast]
    exact ⟨hcache, hreserved⟩

end step

/-- A resting link's management positions are those of its current location (R3). -/
theorem State.management_resting {s : State} (h : s.link.resting) (line : Line) (slot : Slot) :
    s.management line slot = s.link.current.covers line slot := by
  obtain ⟨-, hp, hf⟩ := h
  simp [State.management, Link.locations, coveredBy, hp, hf]

/-- Settles O10: the step's own writes, and no SWAP entry due takes effect beside them. -/
theorem copyAndClearStepAtBoundary : Obligations.CopyAndClearStepAtBoundary := by
  intro s order progress owner ⟨hdue, hopen⟩ hrest
  have hn := State.comingFrame_fresh hopen
  refine ⟨fun hm => ⟨_, exec_boundary_numbered hdue _, ?_⟩, fun hm => ⟨_, exec_boundary_numbered hdue _, ?_⟩⟩
  · have hfinal : s.mcFinal s.comingFrame = if progress = 7 then
        some (0x20, owner, s.switch.active.other.code :: wordOctets (s.timing.sfn + 1)) else none := by
      simp only [State.mcFinal, hm, hn]
    obtain ⟨hkept, hended, hnext, hentries⟩ := State.boundary_rewrites hopen hrest (by rw [hm]; nofun)
      (State.switchBoundary_copying hopen hm) hfinal order
    refine ⟨hkept, hended, hnext, fun line slot => (hentries line slot).trans ?_⟩
    split
    · subst_vars
      rfl
    · rfl
  · have hfinal : s.mcFinal s.comingFrame = if progress = 7 then
        some (0x21, owner, s.switch.active.other.code :: wordOctets (s.timing.sfn + 1)) else none := by
      simp only [State.mcFinal, hm, hn]
    obtain ⟨hkept, hended, hnext, hentries⟩ := State.boundary_rewrites hopen hrest (by rw [hm]; nofun)
      (State.switchBoundary_clearing hopen hm) hfinal order
    refine ⟨hkept, hended, hnext, fun line slot => (hentries line slot).trans ?_⟩
    split
    · subst_vars
      simp [State.management_resting hrest]
    · rfl

end Sys2Proof.Machine
end

section
/-! CERTIFICATE. Swaps at BOUNDARY: BoundarySwapsAtMostOnce. -/

namespace Sys2Proof.Machine

/-! ### SCHEDULE_DONE after the boundary -/

/-- SCHEDULE_DONE of an entry due stands in the notice queue after the boundary, unless its kind is disabled or the queue is full (R124, R189). -/
theorem State.numberedBoundary_shows_done {s : State} {n : Word} {e : ScheduleEntry} {outcome : FiredOutcome}
    (hmem : doneEvent n e outcome ∈ s.switchBoundary.fireOnce.2) (hmask : s.notices.mask.getLsbD 3 = true)
    (order : List Taker) :
    (s.numberedBoundary ⟨order, []⟩).notices.shows (doneEvent n e outcome) :=
  State.numberedBoundary_shows (t := .schedule) rfl
    (fun u hu => State.raiseAll_holds hmem rfl (by rw [hu]; exact hmask)) order

section fresh
variable {s : State} (hopen : s.opening = closedOpening)
include hopen

/-- In IDLE, with no SWAP entry due, Map Controller and indicator stay (R36). -/
theorem State.mapEffects_idle_noSwap (hidle : s.mc.state = .idle)
    (hno : ∀ e ∈ s.due (s.timing.sfn + 1), e.action ≠ .swap) :
    s.mapEffects.mc = s.mc ∧ s.mapEffects.switch.active = s.switch.active := by
  obtain ⟨hsame, -⟩ := State.switchBoundary_idle hopen hidle
  rw [State.mapEffects, State.mapEffects_fresh hopen]
  obtain ⟨-, h2, h3, -⟩ := fireAll_noSwap (s.timing.sfn + 1) (s.due (s.timing.sfn + 1))
    (s.switchBoundary.withSchedule (s.schedule.filter fun e => e.due ≠ s.timing.sfn + 1)) (.inr hno)
  rw [h2, h3, State.withSchedule_mc, State.withSchedule_switch, hsame, State.promotePatterns_mc,
    State.promotePatterns_active]
  exact ⟨rfl, rfl⟩

/-- In IDLE the first SWAP entry due takes effect, and every later one is refused (R36, R37, R122). -/
theorem State.mapEffects_idle_swap (hidle : s.mc.state = .idle) {earlier later : List ScheduleEntry}
    {e : ScheduleEntry} (hdue : s.due (s.timing.sfn + 1) = earlier ++ e :: later)
    (hearlier : ∀ x ∈ earlier, x.action ≠ .swap) (he : e.action = .swap) :
    s.switchBoundary.fireOnce.2
        = earlier.map (fun x => doneEvent (s.timing.sfn + 1) x x.action.refused)
          ++ doneEvent (s.timing.sfn + 1) e .done
          :: later.map (fun x => doneEvent (s.timing.sfn + 1) x x.action.refused)
      ∧ s.mapEffects.mc = { s.mc with lastSwap := some (s.timing.sfn + 1) }
      ∧ s.mapEffects.switch.active = s.switch.active.other := by
  obtain ⟨hsame, hallowed⟩ := State.switchBoundary_idle hopen hidle
  rw [State.mapEffects, State.mapEffects_fresh hopen, hdue]
  obtain ⟨h1, h2, h3⟩ := fireAll_firstSwap (later := later)
    (s := s.switchBoundary.withSchedule (s.schedule.filter fun e => e.due ≠ s.timing.sfn + 1))
    hallowed hearlier he
  rw [h1, h2, h3, State.withSchedule_mc, State.withSchedule_switch, hsame, State.promotePatterns_mc,
    State.promotePatterns_active]
  exact ⟨rfl, rfl, rfl⟩

/-- The manager's swap at its target boundary (R34). -/
theorem State.mapEffects_pendingSwap {owner : Byte}
    (hm : s.mc.state = .swapPending (s.timing.sfn + 1) owner) :
    s.mapEffects.mc = { s.mc with lastSwap := some (s.timing.sfn + 1) }
      ∧ s.mapEffects.switch.active = s.switch.active.other := by
  obtain ⟨-, hmc, hactive⟩ := State.mapEffects_busy hopen (by rw [hm]; nofun)
  have hstep : s.switchBoundary = s.promotePatterns.swapAt (s.timing.sfn + 1) := by
    rw [State.switchBoundary_fresh hopen, State.mcStep, State.promotePatterns_mc, hm]
    simp only [if_true]
  rw [hmc, hactive, hstep]
  simp [State.swapAt, Switch.swapped]

/-- A pending swap whose target has not come waits (R33). -/
theorem State.mapEffects_swapWaits {target : Word} {owner : Byte}
    (hm : s.mc.state = .swapPending target owner) (ht : target ≠ s.timing.sfn + 1) :
    s.mapEffects.mc = s.mc ∧ s.mapEffects.switch.active = s.switch.active := by
  obtain ⟨-, hmc, hactive⟩ := State.mapEffects_busy hopen (by rw [hm]; nofun)
  have hstep : s.switchBoundary = s.promotePatterns := by
    rw [State.switchBoundary_fresh hopen, State.mcStep, State.promotePatterns_mc, hm]
    simp only [if_neg ht]
  rw [hmc, hactive, hstep]
  simp

/-- A copy or clear step swaps nothing (R36). -/
theorem State.mapEffects_rewriting (hm : s.mc.state.rewriting = true) :
    s.mapEffects.mc.lastSwap = s.mc.lastSwap ∧ s.mapEffects.switch.active = s.switch.active := by
  have hbusy : s.mc.state ≠ .idle := fun h => by
    rw [h] at hm
    cases hm
  obtain ⟨-, hmc, hactive⟩ := State.mapEffects_busy hopen hbusy
  rw [hmc, hactive]
  cases hs : s.mc.state with
  | idle => exact absurd hs hbusy
  | swapPending target owner => rw [hs] at hm; cases hm
  | copying progress owner =>
    obtain ⟨h1, h2⟩ := State.switchBoundary_copying hopen hs
    rw [h1, h2]
    refine ⟨by split <;> rfl, ?_⟩
    simp [State.writeStandbyLine]
  | clearing progress owner =>
    obtain ⟨h1, h2⟩ := State.switchBoundary_clearing hopen hs
    rw [h1, h2]
    refine ⟨by split <;> rfl, ?_⟩
    simp [State.writeStandbyLine]

end fresh

/-! ### The whole boundary -/

/-- The record after a boundary, but for the state that an end leaves (R25). -/
theorem State.numberedBoundary_lastSwap (s : State) (order : List Taker) :
    (s.numberedBoundary ⟨order, []⟩).mc.lastSwap = s.mapEffects.mc.lastSwap := by
  cases hf : s.mcFinal s.comingFrame with
  | none => rw [(State.numberedBoundary_goesOn hf order).1]
  | some final =>
    obtain ⟨kind, owner, data⟩ := final
    rw [(State.numberedBoundary_ends hf order).1]

/-- The first SWAP entry of a list, where it has one (R121). -/
theorem swaps_eq_cons {es rest : List ScheduleEntry} {e : ScheduleEntry}
    (h : (es.filter fun x => x.action = .swap) = e :: rest) :
    ∃ earlier later, es = earlier ++ e :: later ∧ (∀ x ∈ earlier, x.action ≠ .swap) ∧ e.action = .swap
      ∧ (later.filter fun x => x.action = .swap) = rest := by
  obtain ⟨earlier, later, hes, hearlier, he, hrest⟩ := List.filter_eq_cons_iff.mp h
  exact ⟨earlier, later, hes, by simpa using hearlier, by simpa using he, hrest⟩

theorem State.mem_due {s : State} {n : Word} {e : ScheduleEntry} :
    e ∈ s.due n ↔ e ∈ s.schedule ∧ e.due = n := by
  simp [State.due]

section swaps
variable {s : State} (hopen : s.opening = closedOpening) (order : List Taker)
include hopen

/-- The manager's swap at its target ends the operation (R34). -/
theorem State.boundary_pendingSwap {owner : Byte} (hm : s.mc.state = .swapPending (s.timing.sfn + 1) owner) :
    (s.numberedBoundary ⟨order, []⟩).switch.active = s.switch.active.other
      ∧ (s.numberedBoundary ⟨order, []⟩).mc
        = { s.mc with state := .idle, lastSwap := some (s.timing.sfn + 1) } := by
  obtain ⟨hmc, hactive⟩ := State.mapEffects_pendingSwap hopen hm
  have hfinal : s.mcFinal s.comingFrame
      = some (0x22, owner, wordOctets (s.timing.sfn + 1) ++ [s.switch.active.other.code]) := by
    simp only [State.mcFinal, hm, State.comingFrame_fresh hopen, if_true]
  refine ⟨(s.numberedBoundary_active order).trans hactive, ?_⟩
  rw [(State.numberedBoundary_ends hfinal order).1, hmc]

/-- A pending swap that waits leaves no room for a scheduled one (R36). -/
theorem State.boundary_swapWaits {target : Word} {owner : Byte}
    (hm : s.mc.state = .swapPending target owner) (ht : target ≠ s.timing.sfn + 1) :
    (s.numberedBoundary ⟨order, []⟩).switch.active = s.switch.active
      ∧ (s.numberedBoundary ⟨order, []⟩).mc = s.mc := by
  obtain ⟨hmc, hactive⟩ := State.mapEffects_swapWaits hopen hm ht
  have hfinal : s.mcFinal s.comingFrame = none := by
    simp only [State.mcFinal, hm, State.comingFrame_fresh hopen, if_neg ht]
  exact ⟨(s.numberedBoundary_active order).trans hactive, (State.numberedBoundary_goesOn hfinal order).1.trans hmc⟩

/-- In IDLE the boundary makes of Map Controller and indicator what the entries due do (R36, R37). -/
theorem State.boundary_idle (hm : s.mc.state = .idle) :
    ((∃ e ∈ s.schedule, e.due = s.timing.sfn + 1 ∧ e.action = .swap) →
        (s.numberedBoundary ⟨order, []⟩).switch.active = s.switch.active.other
          ∧ (s.numberedBoundary ⟨order, []⟩).mc = { s.mc with lastSwap := some (s.timing.sfn + 1) })
      ∧ ((¬ ∃ e ∈ s.schedule, e.due = s.timing.sfn + 1 ∧ e.action = .swap) →
        (s.numberedBoundary ⟨order, []⟩).switch.active = s.switch.active
          ∧ (s.numberedBoundary ⟨order, []⟩).mc = s.mc) := by
  have hfinal : s.mcFinal s.comingFrame = none := by simp only [State.mcFinal, hm]
  have htmc := (State.numberedBoundary_goesOn hfinal order).1
  have hactive := s.numberedBoundary_active order
  refine ⟨fun ⟨e, hmem, he, hswap⟩ => ?_, fun hno => ?_⟩
  · cases hs : (s.due (s.timing.sfn + 1)).filter fun x => x.action = .swap with
    | nil =>
      have hnot := List.filter_eq_nil_iff.mp hs e (State.mem_due.mpr ⟨hmem, he⟩)
      exact absurd hswap (by simpa using hnot)
    | cons x rest =>
      obtain ⟨earlier, later, hdue, hearlier, hx, -⟩ := swaps_eq_cons hs
      obtain ⟨-, h1, h2⟩ := State.mapEffects_idle_swap hopen hm hdue hearlier hx
      exact ⟨hactive.trans h2, htmc.trans h1⟩
  · obtain ⟨h1, h2⟩ := State.mapEffects_idle_noSwap hopen hm fun e hmem hswap =>
      hno ⟨e, (State.mem_due.mp hmem).1, (State.mem_due.mp hmem).2, hswap⟩
    exact ⟨hactive.trans h2, htmc.trans h1⟩

end swaps

theorem doneEvent_swap {e : ScheduleEntry} (h : e.action = .swap) (n : Word) (outcome : FiredOutcome) :
    doneEvent n e outcome = .scheduleDone e.tag .swap n outcome := by
  simp [doneEvent, h, Action.kind]

/-- While an operation is in flight every SWAP entry due reports PAGE_BUSY (R36, R122, R124). -/
theorem State.boundary_refuses {s : State} (hopen : s.opening = closedOpening) (hbusy : s.mc.state ≠ .idle)
    {e : ScheduleEntry} (he : e ∈ s.due (s.timing.sfn + 1)) (hswap : e.action = .swap)
    (hmask : s.notices.mask.getLsbD 3 = true) (order : List Taker) :
    (s.numberedBoundary ⟨order, []⟩).notices.shows
      (.scheduleDone e.tag .swap (s.timing.sfn + 1) .pageBusy) := by
  obtain ⟨hevents, -, -⟩ := State.mapEffects_busy hopen hbusy
  have hrefused : e.action.refused = .pageBusy := by rw [hswap]; rfl
  have hmem := List.mem_map_of_mem (f := fun e : ScheduleEntry =>
    doneEvent (s.timing.sfn + 1) e e.action.refused) he
  rw [← hevents, hrefused] at hmem
  rw [← doneEvent_swap hswap]
  exact State.numberedBoundary_shows_done hmem hmask order

/-- Settles O12: in turn the manager's swap, the entries due in IDLE, and a swap that waits; then the entries refused while an operation is in flight. -/
theorem boundarySwapsAtMostOnce : Obligations.BoundarySwapsAtMostOnce := by
  refine ⟨fun s order ⟨hdue, hopen⟩ hrest hnot => ?_, fun s order ⟨hdue, hopen⟩ => ?_⟩
  · intro n scheduled manager
    have hpages : ∀ name, (s.numberedBoundary ⟨order, []⟩).switch.page name = s.switch.page name := fun name => by
      rw [State.numberedBoundary_switch_resting hopen hrest, State.mapEffects_page hnot]
    refine ⟨_, exec_boundary_numbered hdue _, hpages .a, hpages .b, ?_⟩
    cases hm : s.mc.state with
    | copying => rw [hm] at hnot; cases hnot
    | clearing => rw [hm] at hnot; cases hnot
    | idle =>
      have hnone : ¬ manager := fun ⟨owner, h⟩ => by rw [hm] at h; cases h
      obtain ⟨hswaps, hstays⟩ := State.boundary_idle hopen order hm
      by_cases hs : scheduled
      · obtain ⟨hactive, hmc⟩ := hswaps hs
        exact ⟨fun _ => ⟨hactive, by rw [hmc], by rw [hmc]; exact hm⟩, fun _ h => absurd ⟨rfl, hs⟩ h,
          by rw [hmc]⟩
      · obtain ⟨hactive, hmc⟩ := hstays hs
        exact ⟨fun h => absurd h (not_or.mpr ⟨hnone, fun h => hs h.2⟩), fun _ _ => ⟨hactive, hmc⟩, by rw [hmc]⟩
    | swapPending target owner =>
      by_cases ht : target = n
      · subst ht
        obtain ⟨hactive, hmc⟩ := State.boundary_pendingSwap hopen order hm
        exact ⟨fun _ => ⟨hactive, by rw [hmc], by rw [hmc]⟩, fun h => absurd ⟨owner, hm⟩ h, by rw [hmc]⟩
      · have hnone : ¬ manager := fun ⟨owner, h⟩ => by
          rw [hm] at h
          cases h
          exact ht rfl
        obtain ⟨hactive, hmc⟩ := State.boundary_swapWaits hopen order hm ht
        exact ⟨fun h => absurd h (not_or.mpr ⟨hnone, nofun⟩), fun _ _ => ⟨hactive, hmc⟩, by rw [hmc]⟩
  · intro n manager hflight
    have hbusy : s.mc.state ≠ .idle := fun h => by
      obtain hr | ⟨owner, hm⟩ := hflight
      · rw [h] at hr; cases hr
      · rw [h] at hm; cases hm
    refine ⟨_, exec_boundary_numbered hdue _, fun hr => ?_, fun ⟨owner, hm⟩ => ?_,
      fun e hmem he hswap hmask =>
        State.boundary_refuses hopen hbusy (State.mem_due.mpr ⟨hmem, he⟩) hswap hmask order⟩
    · obtain ⟨h1, h2⟩ := State.mapEffects_rewriting hopen hr
      exact ⟨(s.numberedBoundary_active order).trans h2, (s.numberedBoundary_lastSwap order).trans h1⟩
    · obtain ⟨hactive, hmc⟩ := State.boundary_pendingSwap hopen order hm
      exact ⟨hactive, by rw [hmc]⟩

end Sys2Proof.Machine
end

section
/-! CERTIFICATE. The entries due at SCHEDULE_FIRING and at BOUNDARY: DueEntriesFire. -/

namespace Sys2Proof.Machine

/-! ### The Timing Unit takes the boundary ahead -/

/-- Raising events in order changes the Notice Unit alone (R189). -/
theorem State.raiseAll_eq (s : State) (es : List Event) :
    s.raiseAll es = s.withNotices (es.foldl NoticeUnit.raise s.notices) := by
  induction es generalizing s with
  | nil => rfl
  | cons e es ih => exact (ih (s.raise e)).trans rfl

/-- The Notice Unit once the evaluation has raised its REFERENCE event, when it has one (R108). -/
def Timing.judged (t : Timing) (aligned : Line → Bool) (notices : NoticeUnit) : NoticeUnit :=
  if t.select aligned = t.selector then notices
  else
    notices.raise
      (.reference t.selector.name (t.select aligned).name (referenceLine t.selector (t.select aligned))
        (t.sfn + 1))

theorem Timing.foldl_referenceEvents (t : Timing) (aligned : Line → Bool) (notices : NoticeUnit) :
    (t.referenceEvents aligned).foldl NoticeUnit.raise notices = t.judged aligned notices := by
  simp only [Timing.referenceEvents, Timing.judged]
  split <;> rfl

/-- Lock pending names the lock boundary's line, unless R104 or R105 places the boundary (R94, R103). -/
theorem Timing.lockBoundary_eq (t : Timing) :
    t.lockBoundary = if t.stall = true ∨ t.offLine.isSome = true then none else t.lockPending := by
  simp [Timing.lockBoundary]

section firing
variable {s : State} (hdue : s.numberedDue = true) (hopen : s.opening = closedOpening)
include hdue hopen

/-- SCHEDULE_FIRING with an entry due: the entries are handed over, and the Timing Unit takes the boundary in the same act (R99, R107, R121). -/
theorem exec_scheduleFiring_due (hsome : s.due (s.timing.sfn + 1) ≠ []) {handed : State} {events : List Event}
    (hfire : fireAll (s.timing.sfn + 1) (s.due (s.timing.sfn + 1))
      (s.withSchedule (s.schedule.filter fun e => e.due ≠ s.timing.sfn + 1)) = (handed, events)) :
    exec .scheduleFiring s = .next { handed with
      timing := s.timing.boundary s.aligned
      opening :=
        { handed.opening with
          isOpen := true, timingDone := true
          lock :=
            if s.timing.stall = true ∨ s.timing.offLine.isSome = true then none
            else s.timing.lockPending }
      notices := s.timing.judged s.aligned (events.foldl NoticeUnit.raise handed.notices) } := by
  have hn := State.comingFrame_fresh hopen
  have hcond : (s.numberedDue && !s.opening.timingDone && !(s.due s.comingFrame).isEmpty) = true := by
    rw [hdue, hopen, hn]
    simpa [closedOpening] using hsome
  have hexec : exec .scheduleFiring s = .next s.timingShare := congrArg Host.Outcome.next (if_pos hcond)
  rw [hexec]
  simp only [State.timingShare, hn, State.fire, hfire, State.raiseAll_eq, ← Timing.lockBoundary_eq,
    ← Timing.foldl_referenceEvents]
  rfl

end firing

/-- In IDLE a swap is allowed at a boundary of which no share has been taken (R36). -/
theorem State.swapAllowed_fresh {s : State} (hopen : s.opening = closedOpening) (hidle : s.mc.state = .idle)
    (n : Word) : s.swapAllowed n = true := by
  simp [State.swapAllowed, hidle, hopen, closedOpening]

/-- A PATTERN entry due reports DONE, whatever else is due (R123, R124). -/
theorem done_mem_fireAll {n : Word} {es : List ScheduleEntry} {e : ScheduleEntry} (he : e ∈ es)
    {i : PatternIndex} {v : Word} (ha : e.action = .pattern i v) (s : State) :
    doneEvent n e .done ∈ (fireAll n es s).2 := by
  induction es generalizing s with
  | nil => cases he
  | cons x es ih =>
    simp only [fireAll]
    obtain rfl | he := List.mem_cons.mp he
    · rw [ha]
      exact List.mem_cons_self
    · exact List.mem_cons_of_mem _ (ih he _)

theorem doneEvent_pattern {e : ScheduleEntry} {i : PatternIndex} {v : Word} (h : e.action = .pattern i v)
    (n : Word) (outcome : FiredOutcome) :
    doneEvent n e outcome = .scheduleDone e.tag .pattern n outcome := by
  simp [doneEvent, h, Action.kind]

section boundary
variable {s : State} (hopen : s.opening = closedOpening) (hmask : s.notices.mask.getLsbD 3 = true)
  (order : List Taker)
include hopen hmask

/-- A PATTERN entry due reports DONE in a notice that stands after BOUNDARY (R123, R124). -/
theorem State.boundary_patternDone {e : ScheduleEntry} (he : e ∈ s.due (s.timing.sfn + 1))
    {i : PatternIndex} {v : Word} (ha : e.action = .pattern i v) :
    (s.numberedBoundary ⟨order, []⟩).notices.shows
      (.scheduleDone e.tag .pattern (s.timing.sfn + 1) .done) := by
  rw [← doneEvent_pattern ha]
  refine State.numberedBoundary_shows_done ?_ hmask order
  rw [State.mapEffects_fresh hopen]
  exact done_mem_fireAll he ha _

/-- In IDLE the first SWAP entry due reports DONE and every later one PAGE_BUSY (R36, R122, R124). -/
theorem State.boundary_swapsReported (hidle : s.mc.state = .idle) {e : ScheduleEntry} {rest : List ScheduleEntry}
    (hs : ((s.due (s.timing.sfn + 1)).filter fun x => x.action = .swap) = e :: rest) :
    (s.numberedBoundary ⟨order, []⟩).notices.shows
        (.scheduleDone e.tag .swap (s.timing.sfn + 1) .done)
      ∧ ∀ x ∈ rest, (s.numberedBoundary ⟨order, []⟩).notices.shows
        (.scheduleDone x.tag .swap (s.timing.sfn + 1) .pageBusy) := by
  obtain ⟨earlier, later, hdue, hearlier, he, rfl⟩ := swaps_eq_cons hs
  obtain ⟨hevents, -, -⟩ := State.mapEffects_idle_swap hopen hidle hdue hearlier he
  refine ⟨?_, fun x hx => ?_⟩
  · rw [← doneEvent_swap he]
    refine State.numberedBoundary_shows_done ?_ hmask order
    rw [hevents]
    exact List.mem_append_right _ List.mem_cons_self
  · obtain ⟨hx, hswap⟩ := List.mem_filter.mp hx
    have hswap : x.action = .swap := by simpa using hswap
    have hrefused : x.action.refused = .pageBusy := by rw [hswap]; rfl
    have hmem := List.mem_map_of_mem (f := fun x : ScheduleEntry =>
      doneEvent (s.timing.sfn + 1) x x.action.refused) hx
    rw [hrefused] at hmem
    rw [← doneEvent_swap hswap]
    refine State.numberedBoundary_shows_done ?_ hmask order
    rw [hevents]
    exact List.mem_append_right _ (List.mem_cons_of_mem _ hmem)

end boundary

/-- Settles O18: SCHEDULE_FIRING entry by entry (`exec_scheduleFiring_due`), BOUNDARY by the events its schedule share raises. -/
theorem dueEntriesFire : Obligations.DueEntriesFire := by
  refine ⟨fun s order e ⟨hdue, hopen⟩ => ?_, fun s a b ⟨hdue, hopen⟩ => ?_, fun s order ⟨hdue, hopen⟩ => ?_⟩
  · intro n hone
    have hone : s.due n = [e] := hone
    have hsome : s.due n ≠ [] := by rw [hone]; nofun
    have htiming : (s.numberedBoundary ⟨order, []⟩).timing = s.timing.boundary s.aligned := by
      rw [State.numberedBoundary_timing, State.timingAfter_fresh hopen]
    refine ⟨_, exec_boundary_numbered hdue _, ?_⟩
    rw [htiming]
    set u := s.withSchedule (s.schedule.filter fun e => e.due ≠ n) with hu
    have hfire : ∀ v outcome, u.handOver n e.action = (v, outcome) →
        fireAll n (s.due n) u = (v, [doneEvent n e outcome]) := fun v outcome h => by
      rw [hone]
      simp only [fireAll, h]
    refine ⟨fun ha hidle => ?_, fun ha hbusy => ?_, fun i v ha => ?_⟩
    · have hand : u.handOver n e.action = (u.swapAt n, .done) := by
        rw [ha, State.handOver, if_pos (State.swapAllowed_fresh (s := u) hopen hidle n)]
      have hswapped : (u.swapAt n).opening = { closedOpening with swapped := true } := by
        simp [State.swapAt, hu, hopen]
      rw [exec_scheduleFiring_due hdue hopen hsome (hfire _ _ hand), hswapped, doneEvent_swap ha]
      rfl
    · have hand : u.handOver n e.action = (u, .pageBusy) := by
        rw [ha, State.handOver, if_neg (by rw [State.swapAllowed_of_busy (s := u) hbusy]; nofun)]
      rw [exec_scheduleFiring_due hdue hopen hsome (hfire _ _ hand), show u.opening = closedOpening from hopen,
        doneEvent_swap ha]
      rfl
    · have hand : u.handOver n e.action = (u.setPatternAt i { present := v, pending := none }, .done) := by
        rw [ha]
        rfl
      have hset : (u.setPatternAt i { present := v, pending := none }).opening = closedOpening := hopen
      rw [exec_scheduleFiring_due hdue hopen hsome (hfire _ _ hand), hset, doneEvent_pattern ha]
      rfl
  · intro n htwo ha hb hidle
    have htwo : s.due n = [a, b] := htwo
    have hsome : s.due n ≠ [] := by rw [htwo]; nofun
    set u := s.withSchedule (s.schedule.filter fun e => e.due ≠ n) with hu
    have hfire : fireAll n (s.due n) u = (u.swapAt n, [doneEvent n a .done, doneEvent n b .pageBusy]) := by
      have hallowed : u.swapAllowed n = true := State.swapAllowed_fresh hopen hidle n
      simp [htwo, fireAll, State.handOver, ha, hb, hallowed, State.swapAllowed_swapAt]
    rw [doneEvent_swap ha, doneEvent_swap hb] at hfire
    refine ⟨_, exec_scheduleFiring_due hdue hopen hsome hfire, rfl, rfl, rfl, rfl, fun hsame => ?_⟩
    exact if_pos hsame
  · intro n fired swaps
    refine ⟨_, exec_boundary_numbered hdue _, ?_, fun e he i v ha hmask =>
      State.boundary_patternDone hopen hmask order he ha, fun e rest hidle hs => ⟨fun hmask => ?_, fun x hx hmask => ?_⟩,
      fun hbusy e he hmask => ?_⟩
    · rw [State.numberedBoundary_schedule, hopen, State.comingFrame_fresh hopen]
      rfl
    · exact (State.boundary_swapsReported hopen hmask order hidle hs).1
    · exact (State.boundary_swapsReported hopen hmask order hidle hs).2 x hx
    · obtain ⟨he, hswap⟩ := List.mem_filter.mp he
      exact State.boundary_refuses hopen hbusy he (by simpa using hswap) hmask order

end Sys2Proof.Machine
end

section
/-! CERTIFICATE. Width conversion: WidthConversion. -/

namespace Sys2Proof.Machine

theorem Width.bits_le (w : Width) : w.bits ≤ 32 := by
  cases w <;> decide

/-- To the right or not at all under HIGH: the low bits drop out (R48). -/
theorem convert_high_narrow {ws wd : Width} (h : wd.bits ≤ ws.bits) (x : Word) :
    (convert ws wd .high x).toNat = x.toNat / 2 ^ (ws.bits - wd.bits) := by
  simp [convert, h, Nat.shiftRight_eq_div_pow]

/-- A word of `ws` bits shifted left by the difference of the widths loses no bit of the 32 (R48). -/
theorem convert_high_wide {ws wd : Width} (h : ws.bits < wd.bits) {x : Word} (hx : x.toNat < 2 ^ ws.bits) :
    (convert ws wd .high x).toNat = x.toNat * 2 ^ (wd.bits - ws.bits) := by
  have hfits : x.toNat * 2 ^ (wd.bits - ws.bits) < 2 ^ 32 :=
    calc x.toNat * 2 ^ (wd.bits - ws.bits)
      _ < 2 ^ ws.bits * 2 ^ (wd.bits - ws.bits) := Nat.mul_lt_mul_of_pos_right hx (Nat.two_pow_pos _)
      _ = 2 ^ wd.bits := by rw [← Nat.pow_add, Nat.add_sub_cancel' h.le]
      _ ≤ 2 ^ 32 := Nat.pow_le_pow_right (by decide) wd.bits_le
  simpa [convert, Nat.not_le.mpr h, Nat.shiftLeft_eq] using hfits

/-- The low bits of a word are its remainder (R48). -/
theorem lowBits_toNat (w : Width) (x : Word) : (lowBits w x).toNat = x.toNat % 2 ^ w.bits := by
  have hmask : (2 ^ w.bits - 1) % 2 ^ 32 = 2 ^ w.bits - 1 := by
    have := Nat.pow_le_pow_right (n := 2) (by decide) w.bits_le
    have := Nat.two_pow_pos w.bits
    exact Nat.mod_eq_of_lt (by omega)
  rw [lowBits, BitVec.toNat_and, BitVec.toNat_ofNat, hmask, Nat.and_two_pow_sub_one_eq_mod]

/-- Settles O36: the shifts and the mask of `convert` as arithmetic, and the width each source kind is converted from. -/
theorem widthConversion : Obligations.WidthConversion := by
  refine ⟨fun ws wd x hx => ⟨?_, ?_⟩,
    fun s source slot wd justify => ⟨fun frame h => ?_, fun h => ?_, fun i => rfl⟩⟩
  · split
    · next h => exact convert_high_narrow h x
    · next h => exact convert_high_wide (Nat.lt_of_not_le h) hx
  · simp only [convert]
    split
    · exact lowBits_toNat wd x
    · rfl
  · simp only [State.sourceWord, h]
  · simp only [State.sourceWord, h, State.patternWord]

end Sys2Proof.Machine
end

section
/-! SUPPORT. The octets that the transmitter places in the management slots of one frame: the message being sent goes on, what is started after its end begins with its first octet, idle fill stands elsewhere (R171 to R173). -/

namespace Sys2Proof.Machine

/-! ### What a transmitter gives a slot -/

/-- Octet `k` of what this transmitter has started in the frame: of the message it sends, or idle fill where it sends none (R171). -/
def Transmitter.started (x : Transmitter) (k : Nat) (b : Byte) : Prop :=
  (∀ m next, x = .sending m next → m.octets[k]? = some b)
    ∧ ((∀ m next, x ≠ .sending m next) → b = Config.idleFill)

/-- Octet `k` of the frame where the transmitter stood as `before` and stands as `after`: the message being sent goes on, and behind its end comes what was started (R171). -/
def Transmitter.gives (before after : Transmitter) (k : Nat) (b : Byte) : Prop :=
  (∀ m next, before = .sending m next →
      (∀ c, m.octets[next + k]? = some c → b = c)
        ∧ (m.octets.length ≤ next + k → after.started (next + k - m.octets.length) b))
    ∧ ((∀ m next, before ≠ .sending m next) → after.started k b)

theorem Transmitter.gives_sending {m : OutMessage} {next k : Nat} {after : Transmitter} {b : Byte} :
    (Transmitter.sending m next).gives after k b ↔
      (∀ c, m.octets[next + k]? = some c → b = c)
        ∧ (m.octets.length ≤ next + k → after.started (next + k - m.octets.length) b) := by
  refine ⟨fun h => h.1 m next rfl, fun h => ⟨fun m' next' heq => ?_, fun hx => absurd rfl (hx m next)⟩⟩
  cases heq
  exact h

theorem Transmitter.gives_silent {before after : Transmitter} {k : Nat} {b : Byte}
    (hx : ∀ m next, before ≠ .sending m next) : before.gives after k b ↔ after.started k b :=
  ⟨fun h => h.2 hx, fun h => ⟨fun m next heq => absurd heq (hx m next), fun _ => h⟩⟩

/-- A message has its lead-in, LEN, SEQ, KIND and CHECK at least (R167). -/
theorem messageOctets_length (seq kind : Byte) (payload : List Byte) :
    6 ≤ (messageOctets seq kind payload).length := by
  simp only [messageOctets, List.length_cons, List.length_append, halfOctets_length]
  omega

/-! ### Slot by slot -/

/-- A FREE transmitter with a slot to fill starts a message, or nothing changes (R173). -/
theorem State.chooseMessage_cases (s : State) :
    s.chooseMessage = s
      ∨ ∃ m, s.chooseMessage.link.transmitter = .sending m 0 ∧ 6 ≤ m.octets.length := by
  have hnotice : s.startNotice = s
      ∨ ∃ m, s.startNotice.link.transmitter = .sending m 0 ∧ 6 ≤ m.octets.length := by
    simp only [State.startNotice]
    split
    · exact .inl rfl
    · exact .inr ⟨_, rfl, messageOctets_length _ _ _⟩
  unfold State.chooseMessage
  split
  · split
    · exact hnotice
    · exact .inr ⟨_, rfl, messageOctets_length _ _ _⟩
  · split
    · exact hnotice
    · exact .inl rfl

/-- A transmitter that is not FREE has nothing to choose (R171). -/
theorem State.readied_of_notFree {s : State} (h : s.link.transmitter.isFree = false) : s.readied = s := by
  simp [State.readied, h]

/-- What is chosen does not depend on the octets placed before (R173). -/
theorem State.readied_put (s : State) (b : Byte) : (s.put b).readied = s.readied.put b := by
  have hnotice : (s.put b).startNotice = s.startNotice.put b := by
    simp only [State.startNotice, State.put_notices]
    split <;> rfl
  have hchoose : (s.put b).chooseMessage = s.chooseMessage.put b := by
    simp only [State.chooseMessage, State.put_engine, State.put_notices, State.put_link, hnotice]
    cases s.engine.responses with
    | nil => exact (apply_ite (fun t : State => t.put b) (s.notices.offers = true) s.startNotice s).symm
    | cons r rest =>
      exact (apply_ite (fun t : State => t.put b)
        ((s.notices.offers && decide (Config.responsesInARow ≤ s.link.inARow)) = true) s.startNotice
        (s.startResponse r)).symm
  simp only [State.readied, State.put_link, hchoose]
  split <;> rfl

/-- A slot in the course of a message carries its next octet (R171, R172). -/
theorem State.fillSlot_sending {s : State} {m : OutMessage} {next : Nat}
    (h : s.link.transmitter = .sending m next) : s.fillSlot = s.placeOctet m next := by
  have hr : s.readied = s := s.readied_of_notFree (by rw [h]; rfl)
  simp only [State.fillSlot, hr, h]

/-- The octet placed is the message's next one; it goes on, or it has ended and the transmitter sends nothing (R171, R172). -/
theorem State.placeOctet_placed {s : State} {m : OutMessage} {next : Nat} (h : next < m.octets.length) :
    (s.placeOctet m next).opening.placed = s.opening.placed ++ [m.octets[next]]
      ∧ (next + 1 < m.octets.length → (s.placeOctet m next).link.transmitter = .sending m (next + 1))
      ∧ (m.octets.length ≤ next + 1 →
          ∀ m' next', (s.placeOctet m next).link.transmitter ≠ .sending m' next') := by
  have hoctet : m.octets.getD next Config.idleFill = m.octets[next] := by simp [h]
  simp only [State.placeOctet, hoctet]
  split
  next hlt => exact ⟨rfl, fun _ => rfl, fun hle => absurd hlt (by omega)⟩
  next hge =>
    refine ⟨?_, fun hlt => absurd hlt hge, fun _ m' next' => ?_⟩
    · cases howner : m.owner <;> simp [State.endMessage, howner, State.put]
    · cases howner : m.owner <;> simp only [State.endMessage, howner, State.withEngine_link,
        State.withOpening_link, State.withNotices_link, State.withLink_link] <;> split <;> nofun

/-! ### A frame -/

/-- A transmitter that sends nothing and starts nothing leaves idle fill in every slot (R171). -/
theorem State.fillSlots_silent {s : State} (n : Nat) (hr : s.readied = s)
    (hx : ∀ m next, s.link.transmitter ≠ .sending m next) :
    (State.fillSlots n s).opening.placed = s.opening.placed ++ List.replicate n Config.idleFill
      ∧ (State.fillSlots n s).link.transmitter = s.link.transmitter := by
  induction n generalizing s with
  | zero => simp [State.fillSlots]
  | succ n ih =>
    have hslot : s.fillSlot = s.put Config.idleFill := by
      unfold State.fillSlot
      rw [hr]
      split
      next m next h => exact absurd h (hx m next)
      next => rfl
      next => rfl
    have hput : (s.put Config.idleFill).readied = s.put Config.idleFill := by
      rw [State.readied_put, hr]
    obtain ⟨hplaced, htx⟩ := ih (s := s.put Config.idleFill) hput hx
    rw [State.fillSlots, hslot, hplaced, htx]
    simp [State.put, List.replicate_succ]

/-- Within a message the slots carry its octets in turn (R171). -/
theorem State.fillSlots_within {s : State} {m : OutMessage} {next : Nat} (n : Nat)
    (h : s.link.transmitter = .sending m next) (hn : next + n < m.octets.length) :
    (State.fillSlots n s).opening.placed = s.opening.placed ++ (m.octets.drop next).take n
      ∧ (State.fillSlots n s).link.transmitter = .sending m (next + n) := by
  induction n generalizing s next with
  | zero => simpa [State.fillSlots] using h
  | succ n ih =>
    have hnext : next < m.octets.length := by omega
    obtain ⟨hplaced, hgoes, -⟩ := s.placeOctet_placed hnext
    obtain ⟨hrest, htx⟩ := ih (hgoes (by omega)) (by omega)
    rw [State.fillSlots, State.fillSlot_sending h, hrest, htx, hplaced,
      List.drop_eq_getElem_cons hnext, List.take_succ_cons]
    exact ⟨by simp, by congr 1; omega⟩

/-- Behind a transmitter that sends nothing, the slots carry what it starts, or idle fill (R171, R173). -/
theorem State.fillSlots_started {s : State} {n : Nat} (hn : n ≤ 5)
    (hx : ∀ m next, s.link.transmitter ≠ .sending m next) :
    ∃ octets : List Byte, octets.length = n
      ∧ (State.fillSlots n s).opening.placed = s.opening.placed ++ octets
      ∧ ∀ k b, octets[k]? = some b → (State.fillSlots n s).link.transmitter.started k b := by
  have hready : s.readied = s ∨ ∃ m, s.readied.link.transmitter = .sending m 0 ∧ 6 ≤ m.octets.length := by
    unfold State.readied
    split
    · exact s.chooseMessage_cases
    · exact .inl rfl
  obtain hr | ⟨m, hm, hlen⟩ := hready
  · obtain ⟨hplaced, htx⟩ := State.fillSlots_silent n hr hx
    refine ⟨_, List.length_replicate, hplaced, fun k b hb => ?_⟩
    rw [htx]
    exact ⟨fun m next h => absurd h (hx m next),
      fun _ => List.eq_of_mem_replicate (List.mem_of_getElem? hb)⟩
  · cases n with
    | zero => exact ⟨[], rfl, by simp [State.fillSlots], fun k b hb => by simp at hb⟩
    | succ n =>
      have hslot : s.readied.fillSlot = s.fillSlot := by
        rw [State.fillSlot_sending hm]
        simp only [State.fillSlot, hm]
      obtain ⟨hplaced, htx⟩ := State.fillSlots_within (n + 1) hm (by omega)
      rw [State.fillSlots, hslot, ← State.fillSlots] at hplaced htx
      refine ⟨_, ?_, by rw [hplaced, State.readied_opening], fun k b hb => ?_⟩
      · simp; omega
      · rw [htx]
        refine ⟨fun m' next' h => ?_, fun h => absurd rfl (h _ _)⟩
        cases h
        rw [List.drop_zero] at hb
        rw [List.getElem?_take] at hb
        split at hb
        · exact hb
        · cases hb

/-- The management slots of a frame: the message being sent to its end, then what is started, else idle fill (R171, R172). -/
theorem State.fillSlots_gives {s : State} {n : Nat} (hn : n ≤ 5)
    (hx : ∀ m next, s.link.transmitter = .sending m next → next < m.octets.length) :
    ∃ octets : List Byte, octets.length = n
      ∧ (State.fillSlots n s).opening.placed = s.opening.placed ++ octets
      ∧ ∀ k b, octets[k]? = some b →
          s.link.transmitter.gives (State.fillSlots n s).link.transmitter k b := by
  by_cases hsending : ∃ m next, s.link.transmitter = .sending m next
  case neg =>
    simp only [not_exists] at hsending
    obtain ⟨octets, hlen, hplaced, hgives⟩ := State.fillSlots_started hn hsending
    exact ⟨octets, hlen, hplaced, fun k b hb => (Transmitter.gives_silent hsending).2 (hgives k b hb)⟩
  obtain ⟨m, next, hm⟩ := hsending
  induction n generalizing s next with
  | zero => exact ⟨[], rfl, by simp [State.fillSlots], fun k b hb => by simp at hb⟩
  | succ n ih =>
    have hnext := hx m next hm
    obtain ⟨hplaced, hgoes, hends⟩ := s.placeOctet_placed hnext
    have hslots : State.fillSlots (n + 1) s = State.fillSlots n (s.placeOctet m next) := by
      rw [State.fillSlots, State.fillSlot_sending hm]
    have hfirst : (Transmitter.sending m next).gives
        (State.fillSlots n (s.placeOctet m next)).link.transmitter 0 m.octets[next] :=
      Transmitter.gives_sending.2 ⟨fun c hc => by simpa [hnext] using hc, fun h => absurd h (by omega)⟩
    rw [hslots, hm]
    by_cases hlt : next + 1 < m.octets.length
    · have hgo := hgoes hlt
      obtain ⟨octets, hlen, hrest, hgives⟩ := ih (s := s.placeOctet m next) (by omega)
        (fun m' next' h => by rw [hgo] at h; cases h; exact hlt) (next + 1) hgo
      refine ⟨m.octets[next] :: octets, by simp [hlen], by rw [hrest, hplaced]; simp, fun k b hb => ?_⟩
      cases k with
      | zero => cases hb; exact hfirst
      | succ k =>
        have hk := hgives k b hb
        rw [hgo, Transmitter.gives_sending, Nat.add_right_comm] at hk
        exact Transmitter.gives_sending.2 hk
    · obtain ⟨octets, hlen, hrest, hgives⟩ :=
        State.fillSlots_started (n := n) (by omega) (hends (by omega))
      refine ⟨m.octets[next] :: octets, by simp [hlen], by rw [hrest, hplaced]; simp, fun k b hb => ?_⟩
      cases k with
      | zero => cases hb; exact hfirst
      | succ k =>
        have hpast : next + (k + 1) - m.octets.length = k := by omega
        refine Transmitter.gives_sending.2 ⟨fun c hc => ?_, fun _ => by rw [hpast]; exact hgives k b hb⟩
        rw [List.getElem?_eq_none (by omega)] at hc
        cases hc

end Sys2Proof.Machine
end

section
/-! SUPPORT. The first three parts of the link's act: what they leave of the transmitter, and which positions stay management positions or are given up at the boundary (R165, R177 to R181). -/

namespace Sys2Proof.Machine

/-! ### The transmitter before part 4 -/

/-- A trial ends by revert at the coming boundary (R178). -/
abbrev Link.reverts (k : Link) : Prop :=
  k.state = .trial ∧ (k.lineLost = true ∨ k.trialTimer = 1)

/-- The transmitter as part 1 leaves it: a message being sent is sent again from its first octet where the trial ends by revert (R181). -/
def Link.resumed (k : Link) : Transmitter :=
  if k.reverts then k.transmitter.again else k.transmitter

theorem Link.resumed_sending {k : Link} {m : OutMessage} {next : Nat} (h : k.transmitter = .sending m next) :
    k.resumed = .sending m (if k.reverts then 0 else next) := by
  rw [Link.resumed, h]
  split <;> rfl

theorem Link.resumed_silent {k : Link} (hx : ∀ m next, k.transmitter ≠ .sending m next) :
    ∀ m next, k.resumed ≠ .sending m next := by
  have hagain : k.transmitter.again = k.transmitter := by
    revert hx
    cases k.transmitter with
    | sending m next => exact fun hx => absurd rfl (hx m next)
    | free => exact fun _ => rfl
    | stopped => exact fun _ => rfl
  simpa [Link.resumed, hagain] using hx

/-- Some octet of the message resumed is left, where some octet of it was left before. -/
theorem Link.resumed_within {k : Link}
    (h : ∀ m next, k.transmitter = .sending m next → next < m.octets.length) {m : OutMessage} {next : Nat}
    (hm : k.resumed = .sending m next) : next < m.octets.length := by
  by_cases hsending : ∃ m next, k.transmitter = .sending m next
  · obtain ⟨m', next', hm'⟩ := hsending
    have hlt := h m' next' hm'
    rw [Link.resumed_sending hm'] at hm
    cases hm
    split <;> omega
  · simp only [not_exists] at hsending
    exact absurd hm (Link.resumed_silent hsending m next)

theorem State.confirm_transmitter (s : State) : s.confirm.link.transmitter = s.link.transmitter := by
  unfold State.confirm
  split <;> rfl

/-- The octets read leave the transmitter as it stands (R168, R169). -/
theorem State.readFrame_transmitter (s : State) : s.readFrame.link.transmitter = s.link.transmitter := by
  have hone : ∀ (t : State) (b : Byte), (t.receive b).link.transmitter = t.link.transmitter := fun t b => by
    have hchecked : ∀ len octets check,
        (t.checked len octets check).link.transmitter = t.link.transmitter := by
      intro len octets check
      unfold State.checked State.deliver
      (repeat' split) <;> simp [State.deliverGood_link, State.confirm_transmitter, State.receiving]
    unfold State.receive
    split
    case h_1 => split <;> rfl
    case h_2 => split <;> rfl
    case h_3 => split <;> rfl
    case h_4 => rfl
    case h_5 => exact hchecked _ _ _
  unfold State.readFrame
  split
  · rfl
  · exact foldl_keeps (fun t : State => t.link.transmitter) _ hone _ s

/-- Part 1 puts the transmitter back to the first octet of its message where the trial ends by revert, and nowhere else (R178, R181). -/
theorem State.trialPart_transmitter {s : State} (h : s.linkLaw) :
    s.trialPart.link.transmitter = s.link.resumed := by
  unfold Link.resumed
  by_cases hst : s.link.state = .trial
  case neg =>
    have hsettled : s.link.state = .settled := by
      revert hst
      cases s.link.state <;> simp
    simp [State.trialPart, hsettled]
  obtain ⟨-, hformer, htimer, -⟩ := h.2.1 hst
  obtain ⟨former, hf⟩ := Option.isSome_iff_exists.mp hformer
  have hrevert : ∀ why, (s.revert why).link.transmitter = s.link.transmitter.again := fun why => by
    simp [State.revert, hf, State.revertTrial, State.giveUp]
  simp only [State.trialPart, hst]
  by_cases hlost : s.link.lineLost = true
  · simp [hst, hlost, hrevert]
  by_cases hone : s.link.trialTimer = 1
  · simp [hst, hlost, hone, hrevert]
  · simp [hlost, hone, show ¬ s.link.trialTimer ≤ 1 by omega]

/-- Part 2 leaves a transmitter that is not STOPPED as it stands, and any other sends nothing after it (R177, R180). -/
theorem State.switchPart_transmitter (s : State) :
    s.switchPart.link.transmitter = s.link.transmitter
      ∨ s.link.transmitter = .stopped ∧ s.switchPart.link.transmitter = .free := by
  unfold State.switchPart
  split
  next => exact .inl rfl
  next pending hd =>
    obtain ⟨-, hstopped, -⟩ := State.switchDue_eq_some hd
    refine .inr ⟨hstopped, ?_⟩
    split <;> rfl

/-- Parts 1 and 2 leave the transmitter as part 1 does, or FREE where it was STOPPED (R177, R180, R181). -/
theorem State.headParts_transmitter {s : State} (h : s.linkLaw) :
    s.headParts.link.transmitter = s.link.resumed
      ∨ s.link.resumed = .stopped ∧ s.headParts.link.transmitter = .free := by
  rw [← State.trialPart_transmitter h]
  exact s.trialPart.switchPart_transmitter

/-! ### The locations before part 4 -/

/-- How the link's first three parts leave the locations: all of them stood before, one of `s` at most is given up at this boundary and then no move is left, and every management position of `s` is one still or lies in the location given up (R3, R5, R177 to R180). -/
structure State.Releases (s u : State) : Prop where
  link : u.linkLaw
  unspent : u.link.state = .trial ∨ u.link.pendingMove.isSome = true → u.opening.givenUp = none
  kept : ∀ loc ∈ u.link.locations, loc ∈ s.link.locations
  covered : ∀ line slot, s.management line slot
    = ((u.opening.givenUp.any fun loc => loc.covers line slot) || u.management line slot)

theorem State.Releases.refl {s : State} (h : s.linkLaw) (hg : s.opening.givenUp = none) : s.Releases s :=
  ⟨h, fun _ => hg, fun _ hl => hl, fun line slot => by simp [hg]⟩

/-- An act that leaves the locations, the link's state and the location given up as they are. -/
theorem State.Releases.same {s u v : State} (h : s.Releases u) (hv : v.linkLaw)
    (hl : v.link.locations = u.link.locations) (hs : v.link.state = u.link.state)
    (hp : v.link.pendingMove = u.link.pendingMove) (hg : v.opening.givenUp = u.opening.givenUp) :
    s.Releases v := by
  have hm : ∀ line slot, v.management line slot = u.management line slot := fun line slot => by
    simp only [State.management, hl]
  exact ⟨hv, by rw [hs, hp, hg]; exact h.unspent, by rw [hl]; exact h.kept,
    fun line slot => by rw [hm, hg]; exact h.covered line slot⟩

/-- What is released is read of the link and the record of shares alone. -/
theorem State.Releases.of_link {s u v w : State} (h : u.Releases v) (hs : u.link = s.link)
    (hl : w.link = v.link) (ho : w.opening = v.opening) (hw : w.linkLaw) : s.Releases w :=
  ⟨hw, by rw [hl, ho]; exact h.unspent, by rw [hl, ← hs]; exact h.kept,
    fun line slot => by simpa only [State.management, hl, ho, hs] using h.covered line slot⟩

/-- A link with two locations gives one up and rests on the other (R179, R180). -/
theorem State.Releases.giveUp {s u v : State} {gone kept : Location} (h : s.Releases u)
    (hnone : u.opening.givenUp = none) (hv : v.link.restsOn kept) (hg : v.opening.givenUp = some gone)
    (hkept : kept ∈ u.link.locations)
    (hall : ∀ line slot, u.management line slot = (gone.covers line slot || kept.covers line slot)) :
    s.Releases v := by
  have hlocs := Link.locations_of_rest hv
  have ⟨_, hstate, hpending, _⟩ := hv
  refine ⟨State.linkLaw_of_rest hv, ?_, fun loc hl => ?_, fun line slot => ?_⟩
  · simp [hstate, hpending]
  · rw [hlocs, List.mem_singleton] at hl
    exact h.kept loc (hl ▸ hkept)
  · rw [h.covered, hnone, hall, hg]
    simp [State.management, hlocs, coveredBy]

theorem State.Releases.revert {s u : State} (h : s.Releases u) (hst : u.link.state = .trial)
    (why : MoveReason) : s.Releases (u.revert why) := by
  unfold State.revert
  split
  next former hf =>
    exact h.giveUp (kept := former) (h.unspent (.inl hst)) ⟨rfl, rfl, rfl, rfl, rfl, rfl⟩ rfl
      (by simp [Link.locations, hf]) (State.management_trial h.link hst hf)
  next => exact h

theorem State.Releases.confirm {s u : State} (h : s.Releases u) : s.Releases u.confirm := by
  unfold State.confirm
  split
  next former hst hf =>
    refine h.giveUp (kept := u.link.current) (h.unspent (.inl hst)) ⟨rfl, rfl, rfl, rfl, rfl, rfl⟩ rfl
      (by simp [Link.locations]) fun line slot => ?_
    rw [State.management_trial h.link hst hf, Bool.or_comm]
  next => exact h

theorem State.Releases.trialPart {s u : State} (h : s.Releases u) : s.Releases u.trialPart := by
  have hlaw := u.trialPart_keepsMap.link h.link
  revert hlaw
  unfold State.trialPart
  split
  next => exact fun _ => h
  next hst =>
    split
    · exact fun _ => h.revert hst _
    split
    · exact fun _ => h.revert hst _
    · exact fun hlaw => h.same hlaw rfl rfl rfl rfl

theorem State.Releases.headParts {s u : State} (h : s.Releases u) : s.Releases u.headParts := by
  have hlaw := u.headParts_keepsMap.link h.link
  have ht := h.trialPart
  revert hlaw
  unfold State.headParts State.switchPart
  split
  next => exact fun _ => ht
  next pending hd =>
    obtain ⟨hst, -, hp⟩ := State.switchDue_eq_some hd
    have hnone := ht.unspent (.inr (by simp [hp]))
    have hmanaged := State.management_pending ht.link hst hp
    split
    · refine fun _ => ht.giveUp (kept := u.trialPart.link.current) hnone ⟨rfl, rfl, rfl, rfl, rfl, rfl⟩
        rfl (by simp [Link.locations]) fun line slot => ?_
      rw [hmanaged, Bool.or_comm]
    · refine fun hlaw => ⟨hlaw, fun _ => hnone, fun loc hl => ht.kept loc ?_, fun line slot => ?_⟩
      · have hswitched : loc = pending ∨ loc = u.trialPart.link.current := by
          simpa [State.switchTo, Link.locations] using hl
        obtain rfl | rfl := hswitched <;> simp [Link.locations, hp]
      · rw [ht.covered, hmanaged, Bool.or_comm (u.trialPart.link.current.covers line slot)]
        simp [State.switchTo, State.management, Link.locations, coveredBy]

/-- Octets read give up the former location at most, when a message confirms the trial (R179). -/
theorem State.Releases.readFrame {s u : State} (h : s.Releases u) : s.Releases u.readFrame := by
  have hone : ∀ (v : State) (b : Byte), s.Releases v → s.Releases (v.receive b) := fun v b hv => by
    have hlaw := (v.receive_keepsMap b).link hv.link
    obtain ⟨k, heq, hk⟩ | ⟨seq, kind, payload, -, heq⟩ := v.receive_cases b
    · rw [heq] at hlaw ⊢
      obtain ⟨hcur, hst, hp, hf, -, -⟩ := (Link.move_eq_iff _ _).1 hk
      exact hv.same hlaw (by simp [Link.locations, hcur, hp, hf]) hst hp rfl
    · have hhunt : s.Releases (v.receiving .hunt) := hv.same hv.link rfl rfl rfl rfl
      rw [heq] at hlaw ⊢
      have hlink := State.deliverGood_link (v.receiving .hunt) seq kind payload
      exact hhunt.confirm.same hlaw (by rw [hlink]) (by rw [hlink]) (by rw [hlink])
        (by rw [State.deliverGood_opening])
  have hfold : ∀ (octets : List Byte) (v : State),
      s.Releases v → s.Releases (octets.foldl State.receive v) := by
    intro octets
    induction octets with
    | nil => exact fun _ hv => hv
    | cons b rest ih => exact fun v hv => ih _ (hone v b hv)
  unfold State.readFrame
  split
  · exact h
  · exact hfold _ u h

end Sys2Proof.Machine
end

section
/-! SUPPORT. The state from which a boundary composes the output frames: what the shares of the boundary leave in it, slot by slot (R42, R45, R54, R70). -/

namespace Sys2Proof.Machine

/-! ### The octets placed and the location given up -/

/-- What the output frames read of the record of shares: the octets placed and the location given up (R54, R171). -/
def State.frameMarks (s : State) : List Byte × Option Location :=
  (s.opening.placed, s.opening.givenUp)

theorem State.mcStep_frameMarks (s : State) (n : Word) : (s.mcStep n).frameMarks = s.frameMarks := by
  unfold State.mcStep
  (repeat' split) <;> rfl

theorem fireAll_frameMarks (n : Word) (es : List ScheduleEntry) (s : State) :
    (fireAll n es s).1.frameMarks = s.frameMarks := by
  induction es generalizing s with
  | nil => rfl
  | cons e es ih =>
    refine (ih _).trans ?_
    cases e.action with
    | swap => simp only [State.handOver]; split <;> rfl
    | pattern i v => rfl

theorem State.mapEffects_frameMarks (s : State) : s.mapEffects.frameMarks = s.frameMarks := by
  have hfire : s.switchBoundary.fireOnce.1.frameMarks = s.switchBoundary.frameMarks := by
    unfold State.fireOnce
    split
    · rfl
    · exact fireAll_frameMarks _ _ _
  exact hfire.trans (State.mcStep_frameMarks _ _)

theorem State.takeShare_opening {before s : State} {found : Taker → State} {t : Taker} (ht : t ≠ .link) :
    (State.takeShare before found s t).opening = s.opening := by
  cases t with
  | link => exact absurd rfl ht
  | _ => simp [State.takeShare]

/-- Shares that are none of the link's place no octet and give up no location. -/
theorem State.foldl_takeShare_opening {before : State} {found : Taker → State} {shares : List Taker}
    (h : .link ∉ shares) (s : State) :
    (shares.foldl (State.takeShare before found) s).opening = s.opening := by
  induction shares generalizing s with
  | nil => rfl
  | cons t rest ih =>
    have ht : t ≠ .link := fun heq => h (by simp [heq])
    exact (ih (fun hm => h (List.mem_cons_of_mem _ hm)) _).trans (State.takeShare_opening ht)

/-- Parts 1 to 3 place no octet (R165). -/
theorem State.readFrame_headParts_placed (s : State) :
    s.headParts.readFrame.opening.placed = s.opening.placed := by
  have htrial : s.trialPart.opening.placed = s.opening.placed := by
    unfold State.trialPart State.revert
    (repeat' split) <;> rfl
  have hswitch : ∀ u : State, u.switchPart.opening.placed = u.opening.placed := fun u => by
    unfold State.switchPart
    (repeat' split) <;> rfl
  have hone : ∀ (u : State) b, (u.receive b).opening.placed = u.opening.placed := fun u b => by
    obtain ⟨k, heq, -⟩ | ⟨seq, kind, payload, -, heq⟩ := u.receive_cases b
    · rw [heq]
      rfl
    · rw [heq, State.deliverGood_opening, State.confirm]
      split <;> rfl
  have hread : ∀ u : State, u.readFrame.opening.placed = u.opening.placed := fun u => by
    unfold State.readFrame
    split
    · rfl
    · exact foldl_keeps (fun v : State => v.opening.placed) _ hone _ u
  exact (hread _).trans ((hswitch _).trans htrial)

/-- Part 4 gives up no location (R171). -/
theorem State.fillFrame_givenUp (s : State) : s.fillFrame.opening.givenUp = s.opening.givenUp := by
  have hplace : ∀ (u : State) m next,
      (u.placeOctet m next).opening.givenUp = u.opening.givenUp := fun u m next => by
    simp only [State.placeOctet, State.endMessage]
    (repeat' split) <;> rfl
  have hslot : ∀ u : State, u.fillSlot.opening.givenUp = u.opening.givenUp := fun u => by
    rw [← u.readied_opening]
    unfold State.fillSlot
    split
    · exact hplace _ _ _
    · rfl
    · rfl
  have hslots : ∀ (n : Nat) (u : State), (State.fillSlots n u).opening.givenUp = u.opening.givenUp := by
    intro n
    induction n with
    | zero => exact fun _ => rfl
    | succ n ih => exact fun u => (ih _).trans (hslot u)
  exact hslots _ s

/-! ### The link's act -/

/-- The octets placed at a boundary fill the current location, and each is what the transmitter gives its slot (R171). -/
theorem State.linkAct_placed {u : State} (h : u.linkLaw)
    (hwidth : (u.linkAct State.readFrame).link.current.width ≤ 5)
    (hx : ∀ m next, u.link.transmitter = .sending m next → next < m.octets.length)
    (hplaced : u.opening.placed = []) :
    (u.linkAct State.readFrame).opening.placed.length = (u.linkAct State.readFrame).link.current.width
      ∧ ∀ k b, (u.linkAct State.readFrame).opening.placed[k]? = some b →
          u.link.resumed.gives (u.linkAct State.readFrame).link.transmitter k b := by
  set v := u.headParts.readFrame with hv
  have htx : v.link.transmitter = u.link.resumed
      ∨ u.link.resumed = .stopped ∧ v.link.transmitter = .free := by
    rw [hv, State.readFrame_transmitter]
    exact State.headParts_transmitter h
  have hcurrent : (u.linkAct State.readFrame).link.current = v.link.current :=
    ((Link.move_eq_iff _ _).1 v.fillFrame_leavesMove.move).1
  rw [hcurrent] at hwidth ⊢
  obtain ⟨octets, hlen, hoctets, hgives⟩ := State.fillSlots_gives (s := v) hwidth fun m next hm => by
    obtain heq | ⟨-, hfree⟩ := htx
    · exact Link.resumed_within hx (heq.symm.trans hm)
    · rw [hfree] at hm
      cases hm
  rw [hv, State.readFrame_headParts_placed, hplaced, List.nil_append, ← hv] at hoctets
  have hall : (u.linkAct State.readFrame).opening.placed = octets := hoctets
  rw [hall]
  refine ⟨hlen, fun k b hb => ?_⟩
  have hk := hgives k b hb
  obtain heq | ⟨hstopped, hfree⟩ := htx
  · rw [heq] at hk
    exact hk
  · rw [hfree, Transmitter.gives_silent (by nofun)] at hk
    rw [hstopped, Transmitter.gives_silent (by nofun)]
    exact hk

/-- What the link's act leaves of locations and management positions (R3, R5). -/
theorem State.linkAct_releases {u : State} (h : u.linkLaw) (hg : u.opening.givenUp = none) :
    u.Releases (u.linkAct State.readFrame) := by
  have hread := (State.Releases.refl h hg).headParts.readFrame
  have hlaw := (State.linkAct_keepsMap State.readFrame_keepsMap u).link h
  obtain ⟨hcur, hst, hp, hf, -, -⟩ :=
    (Link.move_eq_iff _ _).1 (State.fillFrame_leavesMove u.headParts.readFrame).move
  exact hread.same hlaw (by simp [State.linkAct, Link.locations, hcur, hp, hf]) hst hp
    (State.fillFrame_givenUp _)

/-! ### The state the frames are composed from -/

/-- `f` is what the shares of a boundary make of `s` before the output frames begin: each slot's entry is CONTROL at the management positions of `s` and else the active page's, and the slots of the current location carry what the transmitter gives them (R5, R45, R54, R171). -/
structure State.Composes (s f : State) : Prop where
  ports : f.ports = s.ports
  number : f.timing.sfn = s.timing.sfn + 1
  entry : ∀ line slot, f.entryFor line slot
    = if s.management line slot = true then .control else entryAt f.switch.activePage line slot
  octet : ∀ line slot, f.link.current.covers line slot = true →
    s.link.resumed.gives f.link.transmitter (slot.val - f.link.current.first.val)
      (f.managementOctet line slot)

/-- A position given up is a management position of the state before, and every other one that is has CONTROL in the active page (R4, R5). -/
theorem State.Releases.entryFor {s f : State} (h : s.Releases f) (hmap : f.mapLaw) (line : Line) (slot : Slot) :
    f.entryFor line slot
      = if s.management line slot = true then .control else entryAt f.switch.activePage line slot := by
  have hcontrol : f.management line slot = true → entryAt f.switch.activePage line slot = .control :=
    ((State.mapLaw_iff f).1 hmap f.switch.active line slot).2
  simp only [State.entryFor, h.covered, Bool.or_eq_true]
  by_cases hg : (f.opening.givenUp.any fun loc => loc.covers line slot) = true
  · simp [hg]
  · by_cases hm : f.management line slot = true
    · simp [hg, hm, hcontrol hm]
    · simp [hg, hm]

/-- The slots of the current location carry the octets placed, in slot order (R54, R166). -/
theorem State.managementOctet_placed {f : State} {line : Line} {slot : Slot}
    (hlen : f.opening.placed.length = f.link.current.width)
    (hc : f.link.current.covers line slot = true) :
    f.opening.placed[slot.val - f.link.current.first.val]? = some (f.managementOctet line slot) := by
  have hin : slot.val - f.link.current.first.val < f.opening.placed.length := by
    simp only [Location.covers, Bool.and_eq_true, decide_eq_true_eq] at hc
    omega
  simp [State.managementOctet, hc, hin]

/-- The link's act stands among the shares of the boundary; no other share touches the link or the record of shares. -/
theorem State.numberedBoundary_split {s : State} (hopen : s.opening = closedOpening) (order : List Taker) :
    ∃ u f : State, u.link = s.link ∧ u.engine.executor = s.engine.executor
      ∧ u.frameMarks = ([], none)
      ∧ f.link = (u.linkAct State.readFrame).link ∧ f.opening = (u.linkAct State.readFrame).opening
      ∧ f = (s.mapEffects.shareOrder order).foldl (State.takeShare s fun _ => s)
        (s.numberedEffects fun _ => s) := by
  obtain ⟨earlier, later, hsplit, hearlier, hlater⟩ := s.mapEffects.shareOrder_split order
  obtain ⟨hleaves, hlink⟩ :=
    State.foldl_takeShare_leavesMove hearlier s (fun _ => s) (s.numberedEffects fun _ => s)
  have hmarks : (s.numberedEffects fun _ => s).frameMarks = ([], none) := by
    refine s.mapEffects_frameMarks.trans ?_
    simp [State.frameMarks, hopen, closedOpening]
  have hact : ∀ u, State.takeShare s (fun _ => s) u .link = u.linkAct State.readFrame := fun u => by
    simp [State.takeShare, hopen, closedOpening]
  refine ⟨_, _, hlink.trans (by simp), hleaves.executor.trans (by simp), ?_,
    (State.foldl_takeShare_leavesMove hlater s (fun _ => s) _).2, State.foldl_takeShare_opening hlater _, ?_⟩
  · rw [← hmarks]
    simp only [State.frameMarks, State.foldl_takeShare_opening hearlier]
  · rw [hsplit, List.foldl_append, List.foldl_cons, hact]

/-- Every numbered boundary composes its output frames from such a state (R42, R70). -/
theorem State.numberedBoundary_composes {s : State} (hopen : s.opening = closedOpening) (hlink : s.linkLaw)
    (hmap : s.mapLaw) (hline : s.lineLaw)
    (hx : ∀ m next, s.link.transmitter = .sending m next → next < m.octets.length) (order : List Taker) :
    ∃ f, s.Composes f ∧ s.numberedBoundary ⟨order, []⟩ = f.beginFrames.withOpening closedOpening := by
  obtain ⟨u, f, hulink, huexec, humarks, hflink, hfopen, hf⟩ := s.numberedBoundary_split hopen order
  have hboundary : s.numberedBoundary ⟨order, []⟩ = f.beginFrames.withOpening closedOpening := by
    rw [State.numberedBoundary_plain, hf]
  have hulaw : u.linkLaw := by simpa only [State.linkLaw, hulink, huexec] using hlink
  obtain ⟨huplaced, hugiven⟩ := Prod.mk.inj humarks
  have hkeeps := s.numberedBoundary_keepsMap ⟨order, []⟩
  rw [hboundary] at hkeeps
  have hfmap : f.mapLaw := hkeeps.map hlink hmap
  have hreleases : s.Releases f :=
    (State.linkAct_releases hulaw hugiven).of_link hulink hflink hfopen (hkeeps.link hlink)
  have hwidth : f.link.current.width ≤ 5 := by
    obtain ⟨-, hle, -⟩ := hline.2 _ (hreleases.kept f.link.current (by simp [Link.locations]))
    omega
  rw [hflink] at hwidth
  obtain ⟨hlen, hgives⟩ := State.linkAct_placed hulaw hwidth (by rw [hulink]; exact hx) huplaced
  rw [← hflink, ← hfopen] at hlen hgives
  refine ⟨f, ⟨?_, ?_, hreleases.entryFor hfmap, fun line slot hc => ?_⟩, hboundary⟩
  · rw [hf]
    exact (foldl_keeps State.ports _ (fun _ _ => by simp) _ _).trans (State.numberedEffects_ports s _)
  · have htiming : f.timing = s.timingAfter := by
      rw [hf]
      exact (foldl_keeps State.timing _ (fun _ _ => by simp) _ _).trans (State.numberedEffects_timing s _)
    rw [htiming, State.timingAfter_fresh hopen]
    rfl
  · rw [← hulink]
    exact hgives _ _ (State.managementOctet_placed hlen hc)

end Sys2Proof.Machine
end

section
/-! CERTIFICATE. Output frames at a boundary: BoundaryBuildsOutputFrames. -/

namespace Sys2Proof.Machine

/-! ### The output frame -/

/-- Slot `slot` of a line's output frame (R42). -/
theorem State.outFrame_slot (f : State) (line : Line) {slot : Slot}
    (h : slot.val < (f.port line).record.slots) :
    (f.outFrame line).slots[slot.val]? = some (f.slotValue line slot) := by
  simp [State.outFrame, h]

theorem State.outFrame_length (f : State) (line : Line) (h : (f.port line).record.slots ≤ 64) :
    (f.outFrame line).slots.length = (f.port line).record.slots := by
  simp [State.outFrame, h]

theorem State.beginFrames_port (f : State) (line : Line) : f.beginFrames.port line = f.beginPort line := by
  simp [State.port, State.beginFrames]

theorem State.beginPort_rx (f : State) (line : Line) : (f.beginPort line).rx = (f.port line).rx := by
  simp only [State.beginPort]
  split <;> rfl

theorem State.beginPort_off {f : State} {line : Line} (h : (f.port line).record.txOn = false) :
    f.beginPort line = { f.port line with tx := .off, txSync := .undriven, txData := .undriven } := by
  simp [State.beginPort, h]

theorem State.beginPort_on {f : State} {line : Line} (h : (f.port line).record.txOn = true) :
    f.beginPort line = { f.port line with tx := .sending (f.outFrame line) 0 } := by
  simp [State.beginPort, h]

/-- Settles O13: the boundary composes its frames from a state of `State.Composes`, whose entries decide each slot's value. -/
theorem boundaryBuildsOutputFrames : Obligations.BoundaryBuildsOutputFrames := by
  intro s order line hfresh hlink hmap hline hx record reverts
  obtain ⟨hdue, hopen⟩ := hfresh
  obtain ⟨f, hf, hboundary⟩ := s.numberedBoundary_composes hopen hlink hmap hline hx order
  have hrecord : ∀ l, (f.port l).record = (s.port l).record := fun l => by simp only [State.port, hf.ports]
  have hport : (f.beginFrames.withOpening closedOpening).port line = f.beginPort line :=
    f.beginFrames_port line
  refine ⟨f.beginFrames.withOpening closedOpening,
    (exec_boundary_numbered hdue _).trans (by rw [hboundary]), ?_, ?_, fun hoff => ?_, fun hon => ?_⟩
  · rw [hport, State.beginPort_record, hrecord]
  · rw [hport, State.beginPort_rx, State.port, State.port, hf.ports]
  · rw [hport, State.beginPort_off (by rw [hrecord]; exact hoff)]
    exact ⟨rfl, rfl, rfl⟩
  refine ⟨(f.outFrame line).slots, ?_, ?_, fun slot hslot => ?_⟩
  · rw [hport, State.beginPort_on (by rw [hrecord]; exact hon), ← hf.number]
    simp only [State.outFrame, hrecord, record]
  · rw [f.outFrame_length line (by rw [hrecord]; exact (hline.1 line).2), hrecord]
  · rw [f.outFrame_slot line (by rw [hrecord]; exact hslot)]
    simp only [State.withOpening_switch, State.beginFrames_switch, ← hf.entry line slot]
    cases he : f.entryFor line slot with
    | release => simp only [State.slotValue, he]
    | slot l u justify =>
      simp only [State.slotValue, he, State.sourceWord, State.patternWord, hrecord]
      rfl
    | pattern i justify =>
      simp only [State.slotValue, he, State.patternWord, hrecord]
      rfl
    | control =>
      refine ⟨f.managementOctet line slot, ?_, fun hc => ?_, fun hc => ?_⟩
      · simp only [State.slotValue, he, hrecord]
        rfl
      · have hout : f.link.current.covers line slot = false := hc
        simp [State.managementOctet, hout, Config.idleFill]
      · have hgives := hf.octet line slot hc
        exact ⟨fun m next hm => hgives.1 m _ (Link.resumed_sending hm),
          fun hsilent => hgives.2 (Link.resumed_silent hsilent)⟩

end Sys2Proof.Machine
end

section
/-! SUPPORT. One RXCLK bit period of a line: what it makes of the line's port and store, the Timing Unit, the link and the Notice Unit, by what the framer makes of it (R62 to R68). -/

namespace Sys2Proof.Machine

/-! ### Ports and stores after one of them is replaced -/

@[simp] theorem State.setPort_port (s : State) (line l : Line) (p : LinePort) :
    (s.setPort line p).port l = if l = line then p else s.port l := by
  by_cases h : l = line
  · subst h; simp [State.port, State.setPort]
  · have hv : line.val ≠ l.val := fun hv => h (Fin.ext hv.symm)
    simp [State.port, State.setPort, h, hv]

@[simp] theorem State.setStore_store (s : State) (line l : Line) (e : Store) :
    (s.setStore line e).store l = if l = line then e else s.store l := by
  by_cases h : l = line
  · subst h; simp [State.store, State.setStore]
  · have hv : line.val ≠ l.val := fun hv => h (Fin.ext hv.symm)
    simp [State.store, State.setStore, h, hv]

/-- A port is read from the ports alone. -/
theorem State.port_congr {s t : State} (h : s.ports = t.ports) (l : Line) : s.port l = t.port l := by
  simp only [State.port, h]

/-- A store is read from the stores alone. -/
theorem State.store_congr {s t : State} (h : s.stores = t.stores) (l : Line) : s.store l = t.store l := by
  simp only [State.store, h]

theorem State.alignmentLost_port (s : State) (line : Line) :
    (s.alignmentLost line).port line = { s.port line with losses := satInc (s.port line).losses } := by
  refine (State.port_congr (t := s.setPort line { s.port line with losses := satInc (s.port line).losses })
    rfl line).trans ?_
  rw [State.setPort_port, if_pos rfl]

/-! ### The command of one bit period -/

/-- The command of one bit period runs it, unless RESTART_N is low (R62, R80). -/
theorem exec_bitPeriod (s : State) (line : Line) (sync data : Bool) :
    exec (if sync then .pulse line [] data else .flywheelFrameEnd line [] data) s
      = .next (s.rxPeriods line [⟨sync, data⟩]) := by
  cases sync <;> rfl

/-- While RESTART_N is low the framers ignore their pins (R80). -/
theorem State.rxPeriods_ignored {s : State} (h : s.held = true) (line : Line) (xs : List RxSample) :
    s.rxPeriods line xs = s := by
  simp [State.rxPeriods, h]

theorem State.rxPeriods_singleton {s : State} (h : s.held = false) (line : Line) (x : RxSample) :
    s.rxPeriods line [x] = s.rxPeriod line x := by
  simp [State.rxPeriods, h]

/-- The command of one bit period with RESTART_N high (R62). -/
theorem exec_bitPeriod_released {s : State} (h : s.held = false) (line : Line) (sync data : Bool) :
    exec (if sync then .pulse line [] data else .flywheelFrameEnd line [] data) s
      = .next (s.rxPeriod line ⟨sync, data⟩) := by
  rw [exec_bitPeriod, State.rxPeriods_singleton h]

/-! ### The port -/

/-- What a bit period makes of a port's framer, and for the blocks beside it (R62). -/
def LinePort.outcome (p : LinePort) (x : RxSample) : RxFramer × FramerAct :=
  p.rx.period p.record.frameBits (p.pulseIn x) x.data

/-- A port after a bit period: the framer, the level sampled, and a loss counted (R62, R67). -/
def LinePort.sampled (p : LinePort) (x : RxSample) : LinePort :=
  { p with
    rx := (p.outcome x).1, syncWas := x.sync
    losses := if (p.outcome x).2 = .lost then satInc p.losses else p.losses }

theorem LinePort.sampled_kept {p : LinePort} {x : RxSample} (h : (p.outcome x).2 ≠ .lost) :
    p.sampled x = { p with rx := (p.outcome x).1, syncWas := x.sync } := by
  rw [LinePort.sampled, if_neg h]

theorem LinePort.sampled_lost {p : LinePort} {x : RxSample} (h : (p.outcome x).2 = .lost) :
    p.sampled x = { p with rx := (p.outcome x).1, syncWas := x.sync, losses := satInc p.losses } := by
  rw [LinePort.sampled, if_pos h]

/-! ### The part after a bit period -/

section period
variable (s : State) (line : Line) (x : RxSample)

/-- The Timing Unit counts a bit period with the framer as the period leaves it (R102, R103). -/
def State.countedBy (s : State) (line : Line) (x : RxSample) (t : Timing) : Timing :=
  t.linePeriod line (s.port line).record.frameBits ((s.port line).outcome x).1

/-- A bit period is its framer event, and then what the Timing Unit counts of it. -/
theorem State.rxPeriod_framerAct :
    s.rxPeriod line x =
      let u := (s.setPort line { s.port line with rx := ((s.port line).outcome x).1, syncWas := x.sync }).framerAct
        line ((s.port line).outcome x).2
      u.withTiming (u.timing.linePeriod line (u.port line).record.frameBits (u.port line).rx) := rfl

/-- A bit period that raises nothing and hands nothing on changes its own port and what the Timing Unit counts. -/
theorem State.rxPeriod_quiet (h : ((s.port line).outcome x).2 = .quiet) :
    s.rxPeriod line x
      = (s.setPort line ((s.port line).sampled x)).withTiming (s.countedBy line x s.timing) := by
  rw [State.rxPeriod_framerAct, h, LinePort.sampled_kept (by rw [h]; nofun)]
  simp [State.framerAct, State.countedBy]

/-- The bit period that gains alignment raises ALIGNMENT(gained) beside (R65). -/
theorem State.rxPeriod_gained (h : ((s.port line).outcome x).2 = .gained) :
    s.rxPeriod line x
      = ((s.setPort line ((s.port line).sampled x)).raise (.alignment line true s.timing.sfn)).withTiming
        (s.countedBy line x s.timing) := by
  rw [State.rxPeriod_framerAct, h, LinePort.sampled_kept (by rw [h]; nofun)]
  simp [State.framerAct, State.countedBy, State.port_congr (State.raise_ports _ _)]

/-- The bit period that ends a frame hands it to the store (R68, R85). -/
theorem State.rxPeriod_frameEnd {bits : List Bool} (h : ((s.port line).outcome x).2 = .frameEnd bits) :
    s.rxPeriod line x
      = ((s.setPort line ((s.port line).sampled x)).arrive line
          (frameWords (s.port line).record.width.bits (s.port line).record.slots bits)).withTiming
        (s.countedBy line x s.timing) := by
  rw [State.rxPeriod_framerAct, h, LinePort.sampled_kept (by rw [h]; nofun)]
  simp [State.framerAct, State.countedBy, State.port_congr (State.arrive_ports _ _ _)]

/-- The bit period that loses alignment: loss counted, store flushed, link and Timing Unit told, ALIGNMENT(lost) raised (R67, R92, R104, R169, R178). -/
theorem State.rxPeriod_lost (h : ((s.port line).outcome x).2 = .lost) :
    s.rxPeriod line x
      = (((((s.setPort line ((s.port line).sampled x)).setStore line (s.store line).flush).withLink
          (s.link.alignmentLost line)).withTiming (s.countedBy line x (s.timing.stopped line))).raise
        (.alignment line false s.timing.sfn)) := by
  have hport : ∀ p q : LinePort, (s.setPort line p).setPort line q = s.setPort line q := fun p q => by
    simp [State.setPort, State.withPorts]
  have hp : ((s.setPort line
        { s.port line with rx := ((s.port line).outcome x).1, syncWas := x.sync }).alignmentLost line).port line
      = (s.port line).sampled x := by
    rw [State.alignmentLost_port, LinePort.sampled_lost h]
    simp
  have hlost : (s.setPort line
        { s.port line with rx := ((s.port line).outcome x).1, syncWas := x.sync }).alignmentLost line
      = ((((s.setPort line ((s.port line).sampled x)).setStore line (s.store line).flush).withLink
          (s.link.alignmentLost line)).withTiming (s.timing.stopped line)).raise
        (.alignment line false s.timing.sfn) := by
    rw [State.alignmentLost, hport, LinePort.sampled_lost h]
    simp [State.store_congr (State.setPort_stores _ _ _)]
  rw [State.rxPeriod_framerAct, h]
  simp only [State.framerAct, hp]
  rw [hlost]
  rfl

/-- A bit period changes the port of its own line alone. -/
theorem State.rxPeriod_port (l : Line) :
    (s.rxPeriod line x).port l = if l = line then (s.port line).sampled x else s.port l := by
  have hset : ∀ u : State, u.ports = (s.setPort line ((s.port line).sampled x)).ports →
      u.port l = if l = line then (s.port line).sampled x else s.port l := fun u hu => by
    rw [State.port_congr hu, State.setPort_port]
  cases h : ((s.port line).outcome x).2 with
  | quiet => rw [State.rxPeriod_quiet s line x h]; exact hset _ rfl
  | gained => rw [State.rxPeriod_gained s line x h]; exact hset _ rfl
  | frameEnd bits => rw [State.rxPeriod_frameEnd s line x h]; exact hset _ (by simp)
  | lost => rw [State.rxPeriod_lost s line x h]; exact hset _ rfl

/-- A store after its line's framer has made this of a bit period (R85, R92). -/
def Store.after (e : Store) (record : LineRecord) : FramerAct → Store
  | .quiet => e
  | .gained => e
  | .frameEnd bits => e.arrive (frameWords record.width.bits record.slots bits)
  | .lost => e.flush

theorem State.arrive_store (l : Line) (frame : InputFrame) :
    (s.arrive line frame).store l = if l = line then (s.store line).arrive frame else s.store l := by
  rw [← State.setStore_store]
  simp only [State.arrive]
  split
  · exact State.store_congr (State.raise_stores _ _) l
  · rfl

/-- A bit period changes the store of its own line alone. -/
theorem State.rxPeriod_store (l : Line) :
    (s.rxPeriod line x).store l
      = if l = line then (s.store line).after (s.port line).record ((s.port line).outcome x).2
        else s.store l := by
  have hkept : ∀ u : State, u.stores = s.stores → u.store l = if l = line then s.store line else s.store l :=
    fun u hu => by
      rw [State.store_congr hu]
      split
      · next hl => rw [hl]
      · rfl
  cases h : ((s.port line).outcome x).2 with
  | quiet => rw [State.rxPeriod_quiet s line x h]; exact hkept _ rfl
  | gained => rw [State.rxPeriod_gained s line x h]; exact hkept _ rfl
  | frameEnd bits =>
    rw [State.rxPeriod_frameEnd s line x h]
    exact State.arrive_store _ line l _
  | lost =>
    rw [State.rxPeriod_lost s line x h]
    exact State.setStore_store _ line l _

/-- A loss of alignment of the locked line may leave the next boundary to REFCLK; every bit period of it is counted (R102 to R104). -/
theorem State.rxPeriod_timing :
    (s.rxPeriod line x).timing
      = s.countedBy line x
        (if ((s.port line).outcome x).2 = .lost then s.timing.stopped line else s.timing) := by
  cases h : ((s.port line).outcome x).2 with
  | quiet => rw [State.rxPeriod_quiet s line x h]; rfl
  | gained => rw [State.rxPeriod_gained s line x h]; rfl
  | frameEnd bits => rw [State.rxPeriod_frameEnd s line x h]; rfl
  | lost => rw [State.rxPeriod_lost s line x h]; rfl

/-- The link learns of a loss of alignment and of nothing else (R169, R178). -/
theorem State.rxPeriod_link :
    (s.rxPeriod line x).link
      = if ((s.port line).outcome x).2 = .lost then s.link.alignmentLost line else s.link := by
  cases h : ((s.port line).outcome x).2 with
  | quiet => rw [State.rxPeriod_quiet s line x h]; rfl
  | gained => rw [State.rxPeriod_gained s line x h]; rfl
  | frameEnd bits => rw [State.rxPeriod_frameEnd s line x h]; simp
  | lost => rw [State.rxPeriod_lost s line x h]; rfl

end period

end Sys2Proof.Machine
end

section
/-! SUPPORT. What the Timing Unit counts of a bit period, and what a loss of alignment makes of its record (R102 to R105). -/

namespace Sys2Proof.Machine

/-- A bit period counts towards the line's point and changes nothing else of the Timing Unit (R102, R103). -/
theorem Timing.linePeriod_eq (t : Timing) (line : Line) (len : Nat) (f : RxFramer) :
    ∃ n seen reached, t.linePeriod line len f
      = { t with lineBits := n, startSeen := seen, pointReached := reached } := by
  unfold Timing.linePeriod
  split
  · split
    · exact ⟨_, _, _, rfl⟩
    · exact ⟨_, t.startSeen, t.pointReached, rfl⟩
  · exact ⟨t.lineBits, t.startSeen, t.pointReached, rfl⟩

/-- A bit period that leaves the framer outside ALIGNED reaches no point (R102). -/
theorem Timing.linePeriod_notAligned {f : RxFramer} (h : f.state ≠ .aligned) (t : Timing) (line : Line) (len : Nat) :
    ∃ n, t.linePeriod line len f = { t with lineBits := n } := by
  unfold Timing.linePeriod
  rw [if_neg h]
  split
  · exact ⟨_, rfl⟩
  · exact ⟨t.lineBits, rfl⟩

theorem Timing.settled_eq_false_iff (t : Timing) :
    t.settled = false
      ↔ t.pointReached = false ∧ t.offLine = none ∧ t.refclk < 2 * t.periodInForce.toNat := by
  simp [Timing.settled, and_assoc]

/-- The locked line, stopping, leaves the next boundary to REFCLK unless its place was settled before (R104, R105). -/
theorem Timing.stopped_eq (t : Timing) (line : Line) :
    t.stopped line =
      if t.selector.line = some line ∧ t.pointReached = false ∧ t.offLine = none
          ∧ t.refclk < 2 * t.periodInForce.toNat then
        { t with offLine := some t.refclk }
      else t := by
  simp only [← Timing.settled_eq_false_iff]
  simp [Timing.stopped]

/-- Of the Timing Unit a bit period changes what is counted between two boundaries alone. -/
theorem State.rxPeriod_timing_eq (s : State) (line : Line) (x : RxSample) :
    ∃ n seen reached off, (s.rxPeriod line x).timing
      = { s.timing with lineBits := n, startSeen := seen, pointReached := reached, offLine := off } := by
  rw [State.rxPeriod_timing]
  split
  · obtain ⟨n, seen, reached, h⟩ := (s.timing.stopped line).linePeriod_eq line
      (s.port line).record.frameBits ((s.port line).outcome x).1
    rw [State.countedBy, h, Timing.stopped_eq]
    split
    · exact ⟨n, seen, reached, some s.timing.refclk, rfl⟩
    · exact ⟨n, seen, reached, s.timing.offLine, rfl⟩
  · obtain ⟨n, seen, reached, h⟩ := s.timing.linePeriod_eq line
      (s.port line).record.frameBits ((s.port line).outcome x).1
    exact ⟨n, seen, reached, s.timing.offLine, h⟩

end Sys2Proof.Machine
end

section
/-! CERTIFICATE. Bit periods one at a time: BitPeriods. -/

namespace Sys2Proof.Machine

/-- Bit periods pass one after the other (R62). -/
theorem State.rxPeriods_cons (s : State) (line : Line) (x : RxSample) (xs : List RxSample) :
    s.rxPeriods line (x :: xs) = (s.rxPeriods line [x]).rxPeriods line xs := by
  by_cases h : s.held = true
  · simp [State.rxPeriods, h]
  · simp [State.rxPeriods, h]

/-- Settles O29: a run of bit periods is the first one and then the rest, and one of them is `State.rxPeriod`, field by field. -/
theorem bitPeriods : Obligations.BitPeriods := by
  refine ⟨fun s line x xs data => ?_, fun s line sync data => ?_⟩
  · refine ⟨_, exec_bitPeriod s line x.sync x.data, ?_, ?_⟩
    · exact congrArg _ (s.rxPeriods_cons line x (xs ++ [⟨true, data⟩]))
    · exact congrArg _ (s.rxPeriods_cons line x (xs ++ [⟨false, data⟩]))
  refine ⟨_, exec_bitPeriod s line sync data, ?_⟩
  by_cases hheld : s.held = true
  · rw [State.rxPeriods_ignored hheld]
    simp
  rw [State.rxPeriods_singleton (by simpa using hheld)]
  obtain ⟨n, seen, reached, off, htiming⟩ := s.rxPeriod_timing_eq line ⟨sync, data⟩
  refine ⟨fun other hother => ?_, ?_⟩
  · rw [State.rxPeriod_port, State.rxPeriod_store, if_neg hother, if_neg hother]
    exact ⟨rfl, rfl⟩
  · rw [State.rxPeriod_port, if_pos rfl, htiming]
    simp [LinePort.sampled]

end Sys2Proof.Machine
end

section
/-! CERTIFICATE. The receive framer outside ALIGNED: HuntingAndConfirmingFramer. -/

namespace Sys2Proof.Machine

/-! ### A bit period that hands nothing on -/

/-- After a bit period that raises nothing and hands nothing on only the port of the line has changed, and what the Timing Unit counts (R62). -/
theorem State.rxPeriod_quiet_fields {s : State} {line : Line} {x : RxSample} {f : RxFramer}
    (h : (s.port line).outcome x = (f, .quiet)) :
    (s.rxPeriod line x).port line = { s.port line with rx := f, syncWas := x.sync }
      ∧ (s.rxPeriod line x).stores = s.stores ∧ (s.rxPeriod line x).notices = s.notices
      ∧ (s.rxPeriod line x).link = s.link
      ∧ (s.rxPeriod line x).timing = s.timing.linePeriod line (s.port line).record.frameBits f := by
  refine ⟨?_, ?_⟩
  · rw [State.rxPeriod_port, if_pos rfl, LinePort.sampled_kept (by rw [h]; nofun), h]
  · rw [State.rxPeriod_quiet s line x (by rw [h]), State.countedBy, h]
    exact ⟨rfl, rfl, rfl, rfl⟩

/-! ### The framer in OFF, in HUNT and in CONFIRM -/

section framer
variable {p : LinePort} {x : RxSample}

/-- A pulse is a sample high after one low (R62). -/
theorem LinePort.pulseIn_iff : p.pulseIn x = true ↔ x.sync = true ∧ p.syncWas = false := by
  simp [LinePort.pulseIn]

theorem LinePort.outcome_off (h : p.rx.state = .off) : p.outcome x = (p.rx, .quiet) := by
  simp only [LinePort.outcome, RxFramer.period, h]

theorem LinePort.outcome_hunt (h : p.rx.state = .hunt) :
    p.outcome x = if p.pulseIn x then (startFrame .confirm 0 0 x.data, .quiet) else (p.rx, .quiet) := by
  simp only [LinePort.outcome, RxFramer.period, h]

theorem LinePort.outcome_confirm (h : p.rx.state = .confirm) :
    p.outcome x = p.rx.confirming p.record.frameBits (p.pulseIn x) x.data := by
  simp only [LinePort.outcome, RxFramer.period, h]

end framer

/-- A pulse in CONFIRM: the third at the expected position gains alignment, the second raises the confirm count, a misplaced one starts CONFIRM again (R65). -/
theorem RxFramer.confirming_pulse (f : RxFramer) (len : Nat) (data : Bool) :
    f.confirming len true data =
      if len ≤ f.bits.length ∧ f.confirm ≠ 0 then (startFrame .aligned 0 0 data, .gained)
      else (startFrame .confirm (if len ≤ f.bits.length then 1 else 0) 0 data, .quiet) := by
  by_cases hend : len ≤ f.bits.length
  · by_cases hzero : f.confirm = 0 <;> simp [RxFramer.confirming, hend, hzero]
  · simp [RxFramer.confirming, hend]

/-- A bit period in CONFIRM without a pulse: the expected position passed, or one more bit collected (R65). -/
theorem RxFramer.confirming_noPulse (f : RxFramer) (len : Nat) (data : Bool) :
    f.confirming len false data =
      (if len ≤ f.bits.length then emptyFramer .hunt else f.collect data, .quiet) := by
  by_cases hend : len ≤ f.bits.length <;> simp [RxFramer.confirming, hend]

/-- The bit period that gains alignment (R65). -/
theorem State.rxPeriod_gained_fields {s : State} {line : Line} {x : RxSample} {f : RxFramer}
    (h : (s.port line).outcome x = (f, .gained)) :
    (s.rxPeriod line x).port line = { s.port line with rx := f, syncWas := x.sync }
      ∧ (s.rxPeriod line x).stores = s.stores
      ∧ (s.rxPeriod line x).notices = s.notices.raise (.alignment line true s.timing.sfn)
      ∧ (s.rxPeriod line x).link = s.link := by
  refine ⟨?_, ?_⟩
  · rw [State.rxPeriod_port, if_pos rfl, LinePort.sampled_kept (by rw [h]; nofun), h]
  · rw [State.rxPeriod_gained s line x (by rw [h])]
    exact ⟨rfl, rfl, rfl⟩

/-- The framer in OFF (R63; RXSYNC sampled there too: log 12). -/
theorem State.rxPeriod_off {s : State} {line : Line} (h : (s.port line).rx.state = .off) (x : RxSample) :
    (s.rxPeriod line x).port line = { s.port line with syncWas := x.sync }
      ∧ (s.rxPeriod line x).stores = s.stores ∧ (s.rxPeriod line x).notices = s.notices
      ∧ (s.rxPeriod line x).link = s.link
      ∧ (s.rxPeriod line x).timing.startSeen = s.timing.startSeen
      ∧ (s.rxPeriod line x).timing.pointReached = s.timing.pointReached
      ∧ (s.rxPeriod line x).timing.offLine = s.timing.offLine := by
  obtain ⟨hport, hstores, hnotices, hlink, htiming⟩ := State.rxPeriod_quiet_fields (LinePort.outcome_off h (x := x))
  obtain ⟨n, hn⟩ := Timing.linePeriod_notAligned (by rw [h]; nofun) s.timing line (s.port line).record.frameBits
  rw [htiming, hn]
  exact ⟨hport, hstores, hnotices, hlink, rfl, rfl, rfl⟩

/-- Settles O31: each clause is a bit period that hands nothing on, but the third pulse, which gains alignment; what the framer makes of it is read off its definition. -/
theorem huntingAndConfirmingFramer : Obligations.HuntingAndConfirmingFramer := by
  refine ⟨fun s line sync data hheld hst => ?_, fun s line data hheld hst => ?_, fun s line data hheld hst => ?_⟩
  · exact ⟨_, exec_bitPeriod_released hheld line sync data, State.rxPeriod_off hst _⟩
  · have hout := fun x => LinePort.outcome_hunt hst (x := x)
    refine ⟨fun hwas => ⟨_, exec_bitPeriod_released hheld line true data, ?_⟩,
      fun hwas => ⟨_, exec_bitPeriod_released hheld line true data, ?_⟩,
      ⟨_, exec_bitPeriod_released hheld line false data, ?_⟩⟩
    · obtain ⟨hport, hstores, hnotices, hlink, -⟩ := State.rxPeriod_quiet_fields
        ((hout ⟨true, data⟩).trans (if_pos (LinePort.pulseIn_iff.2 ⟨rfl, hwas⟩)))
      exact ⟨hport, hstores, hnotices, hlink⟩
    · obtain ⟨hport, hstores, hnotices, -, -⟩ := State.rxPeriod_quiet_fields
        ((hout ⟨true, data⟩).trans (if_neg (by simp [LinePort.pulseIn_iff, hwas])))
      refine ⟨?_, hstores, hnotices⟩
      rw [hport, ← hwas]
    · obtain ⟨hport, hstores, hnotices, hlink, -⟩ := State.rxPeriod_quiet_fields
        ((hout ⟨false, data⟩).trans (if_neg (by simp [LinePort.pulseIn_iff])))
      exact ⟨hport, hstores, hnotices, hlink⟩
  · have hout := fun x => LinePort.outcome_confirm hst (x := x)
    refine ⟨fun hwas => ⟨_, exec_bitPeriod_released hheld line true data, ?_⟩, fun sync hwas =>
      ⟨_, exec_bitPeriod_released hheld line sync data, ?_⟩⟩
    · have hpulse : (s.port line).pulseIn ⟨true, data⟩ = true := LinePort.pulseIn_iff.2 ⟨rfl, hwas⟩
      have hstep := (hout ⟨true, data⟩).trans (by rw [hpulse, RxFramer.confirming_pulse])
      split at hstep
      next hgain =>
        obtain ⟨hport, hstores, hnotices, hlink⟩ := State.rxPeriod_gained_fields hstep
        exact ⟨hstores, hlink, fun _ hzero => absurd hzero hgain.2, fun _ _ => ⟨hport, hnotices⟩,
          fun hno => absurd hgain.1 hno⟩
      next hgain =>
        obtain ⟨hport, hstores, hnotices, hlink, -⟩ := State.rxPeriod_quiet_fields hstep
        refine ⟨hstores, hlink, fun hend _ => ⟨?_, hnotices⟩, fun hend hone => ?_, fun hno => ⟨?_, hnotices⟩⟩
        · rw [hport, if_pos hend]
          rfl
        · exact absurd ⟨hend, by rw [hone]; decide⟩ hgain
        · rw [hport, if_neg hno]
          rfl
    · have hnone : (s.port line).pulseIn ⟨sync, data⟩ = false := by
        rw [← Bool.not_eq_true, LinePort.pulseIn_iff]
        rintro ⟨hhigh, hlow⟩
        rw [hwas hhigh] at hlow
        cases hlow
      obtain ⟨hport, hstores, hnotices, hlink, -⟩ := State.rxPeriod_quiet_fields
        ((hout ⟨sync, data⟩).trans (by rw [hnone, RxFramer.confirming_noPulse]))
      refine ⟨hstores, hlink, hnotices, fun hend => ?_, fun hno => ?_⟩
      · rw [hport, if_pos hend]
        rfl
      · rw [hport, if_neg hno]
        rfl

end Sys2Proof.Machine
end

section
/-! SUPPORT. The receive framer in ALIGNED: a bit collected, a frame end, the third miss (R66 to R68). -/

namespace Sys2Proof.Machine

section aligned
variable {f : RxFramer} {len : Nat} {pulse data : Bool}

theorem LinePort.outcome_aligned {p : LinePort} (h : p.rx.state = .aligned) (x : RxSample) :
    p.outcome x = p.rx.judging p.record.frameBits (p.pulseIn x) x.data := by
  simp only [LinePort.outcome, RxFramer.period, h]

/-- Before the third miss one more is counted (R66). -/
theorem RxFramer.missed_kept (h : f.miss ≤ 1) (kept : RxFramer) (act : FramerAct) :
    f.missed kept act = ({ kept with miss := f.miss + 1 }, act) := by
  rw [RxFramer.missed, if_neg (by omega)]

/-- A frame end that is no third miss hands the frame on (R66, R68). -/
theorem RxFramer.judging_frameEnd (hend : len ≤ f.bits.length) (hmiss : pulse = true ∨ f.miss ≤ 1) :
    f.judging len pulse data
      = (startFrame .aligned 0 (if pulse then 0 else f.miss + 1) data, .frameEnd f.bits) := by
  rw [RxFramer.judging, if_pos hend]
  split
  · rfl
  next hpulse =>
    rw [RxFramer.missed_kept (hmiss.resolve_left hpulse)]
    rfl

/-- A bit before the expected position that is no third miss is collected (R66, R68). -/
theorem RxFramer.judging_collect (hmid : f.bits.length < len) (hmiss : pulse = false ∨ f.miss ≤ 1) :
    f.judging len pulse data
      = ({ f with miss := if pulse then f.miss + 1 else f.miss, bits := f.bits ++ [data] }, .quiet) := by
  rw [RxFramer.judging, if_neg (by omega)]
  split
  next hpulse =>
    rw [RxFramer.missed_kept (hmiss.resolve_left (by simp [hpulse]))]
    rfl
  · rfl

/-- The third miss: a misplaced pulse, or the expected position without one (R66, R67). -/
theorem RxFramer.judging_lost (htwo : f.miss = 2) (hmiss : pulse = true ↔ f.bits.length < len) :
    f.judging len pulse data = (emptyFramer .hunt, .lost) := by
  have hlost : ∀ kept act, f.missed kept act = (emptyFramer .hunt, .lost) := fun kept act => by
    rw [RxFramer.missed, if_pos (by omega)]
  rw [RxFramer.judging]
  split
  next hend =>
    rw [if_neg (by rw [hmiss]; omega), hlost]
  next hmid =>
    rw [if_pos (hmiss.2 (by omega)), hlost]

end aligned

end Sys2Proof.Machine
end

section
/-! CERTIFICATE. A frame end in ALIGNED and the bits of a frame: FrameEndHandsOnTheFrame, SamplesKeepTheirBits. -/

namespace Sys2Proof.Machine

/-! ### A frame arrives -/

/-- A frame that finds at most one unread stands behind it (R85). -/
theorem Store.arrive_room {e : Store} (h : e.unread.length < 2) (frame : InputFrame) :
    e.arrive frame = { e with unread := e.unread ++ [frame] } := by
  simp [Store.arrive, Config.unreadFrames, h]

/-- A frame that finds two unread takes the oldest one's place, as a delete slip (R85). -/
theorem Store.arrive_slip {e : Store} (h : 2 ≤ e.unread.length) (frame : InputFrame) :
    e.arrive frame = { e with unread := e.unread.drop 1 ++ [frame], deletes := satInc e.deletes } := by
  simp [Store.arrive, Config.unreadFrames, Nat.not_lt.mpr h]

/-- An arrival raises SLIP just where two frames are unread (R85). -/
theorem State.arrive_notices (s : State) (line : Line) (frame : InputFrame) :
    (s.arrive line frame).notices =
      if 2 ≤ (s.store line).unread.length then s.notices.raise (.slip line 0 1 s.timing.sfn)
      else s.notices := by
  have hslips : (s.store line).arrivalSlips = true ↔ 2 ≤ (s.store line).unread.length := by
    rw [Store.arrivalSlips, Bool.not_eq_true', decide_eq_false_iff_not, Nat.not_lt]
    rfl
  simp only [State.arrive, hslips]
  split <;> rfl

/-- Settles O32: the framer's frame end (`RxFramer.judging_frameEnd`), and then the arrival of the frame at its store. -/
theorem frameEndHandsOnTheFrame : Obligations.FrameEndHandsOnTheFrame := by
  intro s line sync data hheld p e pulse haligned hend hmiss frame
  have hpulse : p.pulseIn ⟨sync, data⟩ = true ↔ pulse := LinePort.pulseIn_iff
  have hout : p.outcome ⟨sync, data⟩
      = (startFrame .aligned 0 (if p.pulseIn ⟨sync, data⟩ then 0 else p.rx.miss + 1) data, .frameEnd p.rx.bits) :=
    (LinePort.outcome_aligned haligned _).trans (RxFramer.judging_frameEnd hend (by rw [hpulse]; exact hmiss))
  have hstep := s.rxPeriod_frameEnd line ⟨sync, data⟩ (bits := p.rx.bits) (by rw [hout])
  refine ⟨_, exec_bitPeriod_released hheld line sync data, ?_, ?_, fun hroom => ?_, fun hfull => ?_⟩
  · rw [State.rxPeriod_port, if_pos rfl, LinePort.sampled_kept (by rw [hout]; nofun), hout]
    simp only [hpulse]
    rfl
  · rw [hstep]
    simp
  · rw [State.rxPeriod_store, if_pos rfl, hout, hstep]
    exact ⟨Store.arrive_room hroom _,
      (State.arrive_notices _ line _).trans (if_neg (Nat.not_le.mpr hroom))⟩
  · rw [State.rxPeriod_store, if_pos rfl, hout, hstep, ← satInc_eq]
    exact ⟨Store.arrive_slip hfull _, (State.arrive_notices _ line _).trans (if_pos hfull)⟩

/-! ### The bits of a frame -/

/-- The last bit is the least significant one (R68). -/
theorem bitsWord_concat (bits : List Bool) (b : Bool) :
    bitsWord (bits ++ [b]) = (bitsWord bits <<< 1) ||| (if b then 1 else 0) := by
  simp [bitsWord]

/-- A word holds its bits from the last one up (R68). -/
theorem bitsWord_getLsbD (bits : List Bool) {i : Nat} (hi : i < 32) :
    (bitsWord bits).getLsbD i = bits.reverse.getD i false := by
  induction bits using List.reverseRecOn generalizing i with
  | nil => simp [bitsWord]
  | append_singleton bits b ih =>
    rw [bitsWord_concat, List.reverse_concat]
    cases i with
    | zero => cases b <;> simp
    | succ i =>
      have hbit : (if b then 1 else 0 : Word).getLsbD (i + 1) = false := by
        cases b <;> simp
      rw [BitVec.getLsbD_or, hbit, BitVec.getLsbD_shiftLeft]
      simp [hi, ih (Nat.lt_of_succ_lt hi)]

theorem frameWords_length (width slots : Nat) (bits : List Bool) :
    (frameWords width slots bits).length = slots := by
  induction slots generalizing bits with
  | zero => rfl
  | succ slots ih => rw [frameWords, List.length_cons, ih]

/-- Each sample is made of the W bits collected in its slot (R68). -/
theorem frameWords_getD {width slots slot : Nat} (h : slot < slots) (bits : List Bool) :
    (frameWords width slots bits).getD slot 0 = bitsWord ((bits.drop (slot * width)).take width) := by
  induction slots generalizing slot bits with
  | zero => omega
  | succ slots ih =>
    rw [frameWords]
    cases slot with
    | zero => simp
    | succ slot =>
      rw [List.getD_cons_succ, ih (by omega), List.drop_drop]
      congr 3
      rw [Nat.succ_mul, Nat.add_comm]

/-- Settles O33: a sample is `bitsWord` of its slot's bits, which keeps the last one lowest. -/
theorem samplesKeepTheirBits : Obligations.SamplesKeepTheirBits := by
  intro width slots bits hwidth hlen
  refine ⟨frameWords_length width slots bits, fun slot k hslot hk => ?_⟩
  have hfits : slot * width + width ≤ bits.length := by
    rw [hlen, ← Nat.succ_mul]
    exact Nat.mul_le_mul_right width hslot
  have hchunk : ((bits.drop (slot * width)).take width).length = width := by
    rw [List.length_take, List.length_drop]
    omega
  rw [frameWords_getD hslot, bitsWord_getLsbD _ (by omega), List.getD_eq_getElem?_getD,
    List.getElem?_reverse (by omega), hchunk, show width - 1 - (width - 1 - k) = k by omega,
    List.getElem?_take_of_lt hk, List.getElem?_drop, List.getD_eq_getElem?_getD]

end Sys2Proof.Machine
end

section
/-! CERTIFICATE. TX_FRAME_END: TransmitFramerSendsItsFrame. -/

namespace Sys2Proof.Machine

/-! ### Bit periods of the transmit framer -/

/-- OFF and WAITING stay (R70, R72). -/
theorem LinePort.txPeriods_silent {p : LinePort} (h : p.tx = .off ∨ p.tx = .waiting) (n : Nat) :
    LinePort.txPeriods n p = p := by
  have hone : p.txPeriod = p := by
    unfold LinePort.txPeriod
    obtain h | h := h <;> rw [h]
  induction n with
  | zero => rfl
  | succ n ih => rw [LinePort.txPeriods, hone, ih]

/-- A port in whose bit period the frame's bit `position` is sent; the next one begins with the bit behind it (R70, R71). -/
def LinePort.sends (p : LinePort) (f : OutFrame) (position : Nat) : LinePort :=
  { p with
    tx := .sending f (position + 1), txSync := if position = 0 then .high else .low
    txData := f.pinAt position }

/-- A port whose frame has ended (R72). -/
def LinePort.waits (p : LinePort) : LinePort :=
  { p with tx := .waiting, txSync := .low, txData := .undriven }

section sending
variable {p : LinePort} {f : OutFrame} {next : Nat}

theorem LinePort.txPeriod_sends (h : p.tx = .sending f next) (hlt : next < f.bits) :
    p.txPeriod = p.sends f next := by
  simp only [LinePort.txPeriod, h, if_pos hlt]
  rfl

theorem LinePort.txPeriod_ends (h : p.tx = .sending f next) (hge : f.bits ≤ next) : p.txPeriod = p.waits := by
  simp only [LinePort.txPeriod, h, if_neg (Nat.not_lt.mpr hge)]
  rfl

/-- As many periods as the frame has bits left send them, one in each (R70, R71). -/
theorem LinePort.txPeriods_within (h : p.tx = .sending f next) {n : Nat} (hn : next + n < f.bits) :
    LinePort.txPeriods (n + 1) p = p.sends f (next + n) := by
  induction n generalizing p next with
  | zero => exact LinePort.txPeriod_sends h hn
  | succ n ih =>
    rw [LinePort.txPeriods, LinePort.txPeriod_sends h (by omega), ih (p := p.sends f next) rfl (by omega),
      Nat.add_right_comm]
    rfl

/-- The period behind the frame's last bit finds the frame ended, and the framer waits (R72). -/
theorem LinePort.txPeriods_past (h : p.tx = .sending f next) (hnext : next ≤ f.bits) {n : Nat}
    (hn : f.bits < next + n) : LinePort.txPeriods n p = p.waits := by
  induction n generalizing p next with
  | zero => omega
  | succ n ih =>
    by_cases hlt : next < f.bits
    · rw [LinePort.txPeriods, LinePort.txPeriod_sends h hlt, ih (p := p.sends f next) rfl hlt (by omega)]
      rfl
    · rw [LinePort.txPeriods, LinePort.txPeriod_ends h (by omega)]
      exact LinePort.txPeriods_silent (.inr rfl) n

end sending

/-- Putting back a port as it stands changes nothing. -/
theorem State.setPort_self (s : State) (line : Line) : s.setPort line (s.port line) = s := by
  simp [State.setPort, State.port, State.withPorts]

/-- Settles O35: OFF and WAITING stay (`LinePort.txPeriods_silent`), and SENDING goes on to the frame's end or waits behind it. -/
theorem transmitFramerSendsItsFrame : Obligations.TransmitFramerSendsItsFrame := by
  intro s line periods p put
  have hexec : exec (.txFrameEnd line periods) s
      = .next (s.setPort line (LinePort.txPeriods periods p)) := rfl
  refine ⟨fun h => ?_, fun f next htx hnext => ⟨fun hpast => ?_, fun hone hwithin => ?_⟩⟩
  · have hsame : LinePort.txPeriods periods p = p := by
      obtain h | h | rfl := h
      · exact LinePort.txPeriods_silent (.inl h) periods
      · exact LinePort.txPeriods_silent (.inr h) periods
      · rfl
    rw [hexec, hsame, State.setPort_self]
  · rw [LinePort.txPeriods_past htx hnext hpast] at hexec
    exact hexec
  · obtain ⟨n, rfl⟩ := Nat.exists_eq_add_of_le' hone
    rw [LinePort.txPeriods_within htx (by simp only [OutFrame.bits]; omega)] at hexec
    have hlast : next + (n + 1) - 1 = next + n := rfl
    have hfirst : (if next + (n + 1) = 1 then Pin.high else Pin.low) = if next + n = 0 then .high else .low :=
      if_congr (by omega) rfl rfl
    simp only [put, hlast, hfirst]
    exact hexec

end Sys2Proof.Machine
end

section
/-! CERTIFICATE. The part while RESTART_N is low, and an executor that cannot take a request: HeldPartDoesNothing. -/

namespace Sys2Proof.Machine

/-! ### While RESTART_N is low -/

section held
variable {s : State} (hheld : s.held = true)
include hheld

theorem State.boundaryDue_held : s.boundaryDue = false := by
  simp [State.boundaryDue, hheld]

theorem State.numberedDue_held : s.numberedDue = false := by
  simp [State.numberedDue, State.boundaryDue_held hheld]

theorem State.linkDue_held : s.linkDue = false := by
  simp [State.linkDue, State.numberedDue_held hheld]

theorem State.inboundDue_held : s.inboundDue = false := by
  simp [State.inboundDue, State.linkDue_held hheld]

theorem State.stalls_held : s.stalls = false := by
  simp [State.stalls, hheld]

/-- No bit period places a boundary (R80). -/
theorem State.placedWithin_held (within : List Coincidence) : s.placedWithin within = false := by
  have hplaces : ∀ line, s.placesBoundary line = false := fun line => by
    simp [State.placesBoundary, hheld]
  cases hl : s.timing.selector.line <;> simp [State.placedWithin, hplaces, hl]

theorem State.executorFree_held : s.executorFree = false := by
  simp [State.executorFree, hheld]

/-- While RESTART_N is low a row of the executor does nothing (R163). -/
theorem State.serve_held (test : Request → Bool) (carry : Request → State → State) :
    s.serve test carry = s :=
  State.serve_busy (State.executorFree_held hheld)

/-- While RESTART_N is low a command that is no restart does nothing; a transmit framer is in OFF then (R70, R80, R113, R163). -/
theorem exec_held {c : Instr} (hpower : ∀ straps high, c ≠ .powerUp straps high)
    (hlow : ∀ straps, c ≠ .restartN straps) (hrelease : ∀ straps, c ≠ .restartNRelease straps)
    (htx : ∀ line periods, c = .txFrameEnd line periods → (s.port line).tx = .off) :
    exec c s = .next s := by
  have hb := State.boundaryDue_held hheld
  have hn := State.numberedDue_held hheld
  have hl := State.linkDue_held hheld
  have hi := State.inboundDue_held hheld
  cases c
  case powerUp straps high => exact absurd rfl (hpower straps high)
  case restartN straps => exact absurd rfl (hlow straps)
  case restartNRelease straps => exact absurd rfl (hrelease straps)
  case boundary order => simp [exec, execBoundary, hb, State.placedWithin_held hheld]
  case fullRestartBoundary straps => simp [exec, execFullRestartBoundary, hb]
  case txFrameEnd line periods =>
    have hsame := LinePort.txPeriods_silent (.inl (htx line periods rfl)) periods
    rw [exec, execTxFrameEnd, hsame, State.setPort_self]
  case stall => simp [exec, execStall, State.stalls_held hheld]
  case copyComplete => cases hm : s.mc.state <;> simp [exec, execCopyComplete, hn, hm]
  case clearComplete => cases hm : s.mc.state <;> simp [exec, execClearComplete, hn, hm]
  case takePendingSwap => cases hm : s.mc.state <;> simp [exec, execTakePendingSwap, hn, hm]
  case scheduleFiring => simp [exec, execScheduleFiring, hn]
  case retransmitTimeout => simp [exec, execRetransmitTimeout, hn]
  case requestIntake seq kind payload => exact (execInbound_notDue hi seq kind payload).1
  case noticeAck seq => exact (execInbound_notDue hi seq 0 []).2.1
  case foreignKind kind => exact (execInbound_notDue hi 0 kind []).2.2
  case messageEnd => simp [exec, execMessageEnd, hl]
  case channelSwitch => simp [exec, execChannelSwitch, hl]
  case trialTimeout => simp [exec, execTrialTimeout, hl]
  case lineLostRevert => simp [exec, execLineLostRevert, hl]
  case pulse line before data => exact congrArg _ (State.rxPeriods_ignored hheld line _)
  case flywheelFrameEnd line before data => exact congrArg _ (State.rxPeriods_ignored hheld line _)
  -- the rows of the executor
  all_goals exact congrArg _ (State.serve_held hheld _ _)

end held

/-! ### An executor that takes no request -/

/-- The commands of the executor: each is a row served from the request queue (R149). -/
theorem exec_request {c : Instr}
    (h : c ∈ ([.echo, .identify, .restartFull, .restartSwitch, .setLine, .getLine, .readStats,
      .setReference, .getTiming, .writeEntries, .readEntries, .setPattern, .getPattern, .copyPage,
      .clearPage, .swapPages, .getPages, .addSchedule, .cancelSchedule, .listSchedule, .setProbe,
      .readProbe, .moveChannel, .getLink, .setNotices, .getNotices, .unknownKind] : List Instr)) :
    ∃ test carry, ∀ s, exec c s = .next (s.serve test carry) := by
  fin_cases h <;> exact ⟨_, _, fun _ => rfl⟩

/-- In HELD, with no unreserved free place, or with an empty queue, no row takes a request (R149, R150). -/
theorem State.serve_cannot {s : State}
    (h : s.engine.executor = .held ∨ 6 ≤ s.engine.responses.length + (if s.engine.reserved then 1 else 0)
      ∨ s.engine.requests = []) (test : Request → Bool) (carry : Request → State → State) :
    s.serve test carry = s := by
  obtain hheld | hfull | hempty := h
  · exact State.serve_busy (by simp [State.executorFree, hheld])
  · have hplace : s.engine.hasPlace = false := decide_eq_false (Nat.not_lt.mpr hfull)
    exact State.serve_busy (by simp [State.executorFree, hplace])
  · exact State.serve_empty hempty

/-- Settles O4: with RESTART_N low no condition of a step holds (`exec_held`); a row of the executor is `State.serve`, which finds nothing to take. -/
theorem heldPartDoesNothing : Obligations.HeldPartDoesNothing := by
  refine ⟨fun s c hheld hpower hlow hrelease htx => exec_held hheld hpower hlow hrelease htx,
    fun s c hcannot hmem => ?_⟩
  obtain ⟨test, carry, hserve⟩ := exec_request hmem
  rw [hserve, State.serve_cannot hcannot]

end Sys2Proof.Machine
end

section
/-! SUPPORT. A boundary with one bit period that falls together with it right before the link's share (R62, R91, R100, R169). -/

namespace Sys2Proof.Machine

/-! ### What the link reads -/

/-- What the receiving side of the link's record holds: the receiver and its three counters (R164, R168, R169). -/
def Link.inbound (k : Link) : Receiver × Half × Half × Half :=
  (k.receiver, k.checkErrors, k.lengthErrors, k.foreignKinds)

/-- The link after part 3 depends on the link and on what it reads of the current location's line alone. -/
theorem State.readFrame_link_congr_line {s t : State} (hl : s.link = t.link)
    (hf : s.newFrame s.link.current.line = t.newFrame s.link.current.line)
    (hr : (s.port s.link.current.line).record = (t.port s.link.current.line).record) :
    s.readFrame.link = t.readFrame.link := by
  rw [hl] at hf hr
  have hoctets : ∀ frame, s.managementOctets frame = t.managementOctets frame := fun frame => by
    simp only [State.managementOctets, hl, hr]
  have hfold : ∀ (octets : List Byte) (u v : State), u.link = v.link →
      (octets.foldl State.receive u).link = (octets.foldl State.receive v).link := by
    intro octets
    induction octets with
    | nil => exact fun _ _ h => h
    | cons b rest ih => exact fun u v h => ih _ _ (State.receive_link_congr h b)
  unfold State.readFrame
  rw [hl, hf]
  split
  · exact hl
  · rw [hoctets]
    exact hfold _ s t hl

/-- The transmitter leaves the receiving side as it stands (R171 to R173). -/
theorem State.fillFrame_inbound (s : State) : s.fillFrame.link.inbound = s.link.inbound := by
  have hready : ∀ u : State, u.readied.link.inbound = u.link.inbound := fun u => by
    simp only [State.readied, State.chooseMessage, State.startNotice, State.startResponse]
    (repeat' split) <;> rfl
  have hplace : ∀ (u : State) m next, (u.placeOctet m next).link.inbound = u.link.inbound := fun u m next => by
    simp only [State.placeOctet, State.endMessage]
    (repeat' split) <;> rfl
  have hslot : ∀ u : State, u.fillSlot.link.inbound = u.link.inbound := fun u => by
    unfold State.fillSlot
    split
    · exact (hplace _ _ _).trans (hready u)
    · exact hready u
    · exact hready u
  have hslots : ∀ (n : Nat) (u : State), (State.fillSlots n u).link.inbound = u.link.inbound := by
    intro n
    induction n with
    | zero => exact fun _ => rfl
    | succ n ih => exact fun u => (ih _).trans (hslot u)
  exact hslots _ s

/-- A resting link passes parts 1 and 2 unchanged, so its receiving side after the act is that after part 3 (R165). -/
theorem State.linkAct_inbound {s : State} (h : s.link.resting) :
    (s.linkAct State.readFrame).link.inbound = s.readFrame.link.inbound := by
  obtain ⟨hst, hpm, -⟩ := h
  have hhead : s.headParts = s :=
    State.headParts_settled hst ⟨fun _ => .inl hpm, fun ht => by rw [hst] at ht; cases ht⟩
  rw [State.linkAct, hhead]
  exact State.fillFrame_inbound _

/-! ### Shares in turn with one framer event among them -/

/-- A framer event right before a share comes between those before it and the rest. -/
theorem takeInTurn_single {meet : State → Coincidence → State} {share : State → Taker → State}
    {c : Coincidence} {t : Taker} (ht : fallsBefore c t = true) {earlier : List Taker}
    (he : ∀ a ∈ earlier, fallsBefore c a = false) (later : List Taker) (s : State) :
    takeInTurn meet share [c] (earlier ++ t :: later) s
      = later.foldl share (share (meet (earlier.foldl share s) c) t) := by
  induction earlier generalizing s with
  | nil => simp [takeInTurn, ht, takeInTurn_plain]
  | cons a rest ih =>
    have ha := he a List.mem_cons_self
    simp only [List.cons_append, takeInTurn, List.foldl_cons]
    simpa [ha] using ih (fun b hb => he b (List.mem_cons_of_mem _ hb)) (share s a)

/-- A framer event right before the link's share comes before no other. -/
theorem fallsBefore_link (line : Line) (x : RxSample) (t : Taker) :
    fallsBefore ⟨line, x, some .link⟩ t = decide (t = .link) := by
  simp [fallsBefore, Taker.act]

/-- The takers before which such an event does not come are those before the link. -/
theorem precedes_link {earlier later : List Taker} (he : .link ∉ earlier) (line : Line) (x : RxSample) (t : Taker) :
    precedes ⟨line, x, some .link⟩ (earlier ++ .link :: later) t = !decide (t ∈ earlier) := by
  have hwhile : (earlier ++ .link :: later).takeWhile (fun u => !fallsBefore ⟨line, x, some .link⟩ u) = earlier := by
    rw [List.takeWhile_append_of_pos]
    · simp [fallsBefore_link]
    · intro a ha
      have : a ≠ .link := fun h => he (h ▸ ha)
      simp [fallsBefore_link, this]
  simp [precedes, hwhile]

/-- The store of a line and the Timing Unit take the boundary first where the command names them first. -/
theorem State.shareOrder_first (s : State) (line : Line) (order : List Taker) :
    ∃ rest, s.shareOrder (.store line :: .timing :: order) = .store line :: .timing :: rest := by
  simp [State.shareOrder, keepFirst, deferToLink, Taker.act, State.defers]

/-- A framer event that no later share awaits is a bit period (R62). -/
theorem State.meet_taken {before s : State} {shares : List Taker} {c : Coincidence}
    (hstore : precedes c shares (.store c.line) = false) (htiming : precedes c shares .timing = false) :
    State.meet before shares s c = s.rxPeriod c.line c.sample := by
  simp only [State.meet, hstore, htiming]
  rfl

end Sys2Proof.Machine
end

section
/-! CERTIFICATE. Bit periods of ALIGNED before the expected position, and the third miss: MissesLoseAlignment. -/

namespace Sys2Proof.Machine

/-! ### Between two boundaries -/

theorem Link.watched_eq_some_iff (k : Link) (line : Line) :
    k.watched = some line ↔ (k.state = .settled ∧ k.pendingMove.map Location.line = some line)
      ∨ (k.state = .trial ∧ k.current.line = line) := by
  cases h : k.state <;> simp [Link.watched, h]

/-- Where the next boundary has no place yet, a loss on the locked line leaves it to REFCLK; the framer, hunting, reaches no point (R104, R105). -/
theorem State.rxPeriod_lost_timing {s : State} {line : Line} {x : RxSample}
    (h : (s.port line).outcome x = (emptyFramer .hunt, .lost)) :
    (s.rxPeriod line x).timing.pointReached = s.timing.pointReached
      ∧ (s.rxPeriod line x).timing.offLine =
        if s.timing.selector.line = some line ∧ s.timing.pointReached = false
            ∧ s.timing.offLine = none ∧ s.timing.refclk < 2 * s.timing.periodInForce.toNat then
          some s.timing.refclk
        else s.timing.offLine := by
  obtain ⟨n, hn⟩ := Timing.linePeriod_notAligned (f := emptyFramer .hunt) (by nofun) (s.timing.stopped line) line
    (s.port line).record.frameBits
  rw [State.rxPeriod_timing, h, if_pos rfl, State.countedBy, h, hn, Timing.stopped_eq]
  split <;> exact ⟨rfl, rfl⟩

/-- The framer at a third miss (R66, R67). -/
theorem LinePort.outcome_lost {p : LinePort} {x : RxSample} (haligned : p.rx.state = .aligned)
    (htwo : p.rx.miss = 2)
    (hmiss : x.sync = true ∧ p.syncWas = false ↔ p.rx.bits.length < p.record.frameBits) :
    p.outcome x = (emptyFramer .hunt, .lost) :=
  (LinePort.outcome_aligned haligned x).trans
    (RxFramer.judging_lost htwo (LinePort.pulseIn_iff.trans hmiss))

/-! ### Between two shares of a boundary -/

/-- The link's receiving side after a boundary is that after part 3 of the link's act, on the link and the ports before the boundary and the stores as they have taken it (R165, R166). -/
theorem State.numberedBoundary_inbound {s : State} (hopen : s.opening = closedOpening) (hrest : s.link.resting)
    (order : List Taker) :
    ∃ v : State, v.link = s.link ∧ v.ports = s.ports ∧ v.stores = Vector.ofFn s.storeAfter
      ∧ (s.numberedBoundary ⟨order, []⟩).link.inbound = v.readFrame.link.inbound := by
  obtain ⟨earlier, later, hsplit, hearlier, hlater⟩ := s.mapEffects.shareOrder_split order
  have hlink := (State.foldl_takeShare_leavesMove hearlier s (fun _ => s) (s.numberedEffects fun _ => s)).2
  have hact : ∀ u, State.takeShare s (fun _ => s) u .link = u.linkAct State.readFrame := fun u => by
    simp [State.takeShare, hopen, closedOpening]
  refine ⟨_, hlink.trans (by simp), ?_, ?_, ?_⟩
  · exact (foldl_keeps State.ports _ (fun _ _ => by simp) _ _).trans (State.numberedEffects_ports s _)
  · exact (foldl_keeps State.stores _ (fun _ _ => by simp) _ _).trans (State.numberedEffects_stores s _)
  · rw [State.numberedBoundary_plain, hsplit, List.foldl_append, List.foldl_cons, hact]
    refine (congrArg Link.inbound (State.foldl_takeShare_leavesMove hlater s (fun _ => s) _).2).trans ?_
    exact State.linkAct_inbound (by rw [hlink]; simpa using hrest)

/-- How the part stands at a boundary before the link's share where the store of a line and the Timing Unit have taken the boundary, and no framer event has come (R99). -/
structure State.BeforeLink (s : State) (line : Line) (v : State) : Prop where
  link : v.link = s.link
  ports : v.ports = s.ports
  store : v.store line = s.storeAfter line
  timing : v.timing = s.timingAfter
  mask : v.notices.mask = s.notices.mask

/-- A boundary that a bit period of a line meets right before the link's share, its store and the Timing Unit having taken the boundary: the bit period, the link's act, and shares that touch neither. -/
theorem State.numberedBoundary_meets {s : State} (hopen : s.opening = closedOpening) (line : Line) (x : RxSample)
    (order : List Taker) :
    ∃ (v : State) (later : List Taker) (found : Taker → State), s.BeforeLink line v ∧ .link ∉ later
      ∧ s.numberedBoundary ⟨.store line :: .timing :: order, [⟨line, x, some .link⟩]⟩
        = (((later.foldl (State.takeShare s found)
            ((v.rxPeriod line x).linkAct State.readFrame)).beginFrames).withOpening closedOpening) := by
  obtain ⟨earlier, later, hsplit, hearlier, hlater⟩ :=
    s.mapEffects.shareOrder_split (.store line :: .timing :: order)
  obtain ⟨rest, hfirst⟩ := s.mapEffects.shareOrder_first line order
  have hmem : .store line ∈ earlier ∧ .timing ∈ earlier := by
    rw [hsplit] at hfirst
    match earlier, hfirst with
    | [_], h => cases h
    | _ :: _ :: _, h => cases h; simp
  obtain ⟨hstoreMem, htimingMem⟩ := hmem
  have hstore : precedes ⟨line, x, some .link⟩ (earlier ++ .link :: later) (.store line) = false := by
    simp [precedes_link hearlier, hstoreMem]
  have htiming : precedes ⟨line, x, some .link⟩ (earlier ++ .link :: later) .timing = false := by
    simp [precedes_link hearlier, htimingMem]
  have hevents : s.coincidences (earlier ++ .link :: later) [⟨line, x, some .link⟩] = [⟨line, x, some .link⟩] := by
    simp [State.coincidences, keepFirst, htiming]
  set found := s.foundBy (earlier ++ .link :: later) [⟨line, x, some .link⟩] with hfound
  have hfoundStore : found (.store line) = s := by simp [hfound, State.foundBy, hstore]
  have hfoundTiming : found .timing = s := by simp [hfound, State.foundBy, htiming]
  set v := earlier.foldl (State.takeShare s found) (s.numberedEffects found) with hv
  have hact : ∀ u, State.takeShare s found u .link = u.linkAct State.readFrame := fun u => by
    simp [State.takeShare, hopen, closedOpening]
  refine ⟨v, later, found, ⟨?_, ?_, ?_, ?_, ?_⟩, hlater, ?_⟩
  · exact (State.foldl_takeShare_leavesMove hearlier s found _).2.trans (by simp)
  · exact (foldl_keeps State.ports _ (fun _ _ => by simp) _ _).trans (State.numberedEffects_ports s _)
  · have hstores : v.stores = (s.numberedEffects found).stores :=
      foldl_keeps State.stores _ (fun _ _ => by simp) _ _
    rw [State.store, hstores, State.numberedEffects_stores]
    simp [hfoundStore]
  · refine (foldl_keeps State.timing _ (fun _ _ => by simp) _ _).trans ?_
    rw [State.numberedEffects_timing, hfoundTiming]
  · exact (foldl_keeps (fun u : State => u.notices.mask) _ State.takeShare_mask _ _).trans (by simp)
  · have hmeet := State.meet_taken (before := s) (s := v) (c := ⟨line, x, some .link⟩) hstore htiming
    simp only [State.numberedBoundary, hsplit, hevents, ← hfound]
    rw [takeInTurn_single (by simp [fallsBefore_link]) (fun a ha => ?_), ← hv, hmeet, hact]
    · rfl
    · have : a ≠ .link := fun h => hearlier (h ▸ ha)
      simp [fallsBefore_link, this]

section within
variable {s v : State} {x : RxSample}

/-- On the current location's line a loss of alignment puts the receiver of a resting link in HUNT and marks nothing (R169, R178). -/
theorem Link.alignmentLost_resting {k : Link} (h : k.resting) :
    k.alignmentLost k.current.line = { k with receiver := .hunt } := by
  obtain ⟨hst, hpm, -⟩ := h
  have hwatched : k.watched = none := by simp [Link.watched, hst, hpm]
  simp [Link.alignmentLost, hwatched]

/-- A loss of alignment right before the link's share: part 3 is that of the same boundary on a receiver in HUNT, the store having kept the frame it took (R92, R169). -/
theorem State.readFrame_lostBefore (hv : s.BeforeLink s.link.current.line v) (hrest : s.link.resting)
    (hlost : ((v.port s.link.current.line).outcome x).2 = .lost) {w : State}
    (hlink : w.link = { s.link with receiver := .hunt }) (hports : w.ports = s.ports)
    (hstores : w.store s.link.current.line = s.storeAfter s.link.current.line) :
    (v.rxPeriod s.link.current.line x).readFrame.link = w.readFrame.link := by
  have hvlink : (v.rxPeriod s.link.current.line x).link = w.link := by
    rw [State.rxPeriod_link, if_pos hlost, hv.link, Link.alignmentLost_resting hrest, hlink]
  have hline : (v.rxPeriod s.link.current.line x).link.current.line = s.link.current.line := by
    rw [hvlink, hlink]
  refine State.readFrame_link_congr_line hvlink ?_ ?_
  · rw [hline, State.newFrame, State.newFrame, State.rxPeriod_store, if_pos rfl, hlost, hv.store, hstores]
    rfl
  · rw [hline, State.rxPeriod_port, if_pos rfl, State.port_congr hv.ports, State.port_congr hports]
    rfl

end within

theorem State.beginPort_losses (s : State) (line : Line) : (s.beginPort line).losses = (s.port line).losses := by
  simp only [State.beginPort]
  split <;> rfl

/-- The link's act and the shares behind it leave the ports, the stores and the Timing Unit as they stand, and the link as its act leaves it. -/
theorem State.linkAct_foldl_takeShare {before : State} {found : Taker → State} {later : List Taker}
    (hlater : .link ∉ later) (w : State) :
    (later.foldl (State.takeShare before found) (w.linkAct State.readFrame)).ports = w.ports
      ∧ (later.foldl (State.takeShare before found) (w.linkAct State.readFrame)).stores = w.stores
      ∧ (later.foldl (State.takeShare before found) (w.linkAct State.readFrame)).timing = w.timing
      ∧ (later.foldl (State.takeShare before found) (w.linkAct State.readFrame)).link
        = (w.linkAct State.readFrame).link :=
  ⟨(foldl_keeps State.ports _ (fun _ _ => by simp) _ _).trans (by simp),
    (foldl_keeps State.stores _ (fun _ _ => by simp) _ _).trans (by simp),
    (foldl_keeps State.timing _ (fun _ _ => by simp) _ _).trans (by simp),
    (State.foldl_takeShare_leavesMove hlater before found _).2⟩

/-- What a boundary leaves where a third miss of the current location's line comes right before the link's share, its store and the Timing Unit having taken the boundary (R62, R67, R91, R92, R100, R169). -/
structure State.LostWithin (s t : State) (line : Line) : Prop where
  rx : (t.port line).rx = emptyFramer .hunt
  losses : (t.port line).losses = satInc (s.port line).losses
  store : t.store line = (s.storeAfter line).flush
  sfn : t.timing.sfn = s.timing.sfn + 1
  selector : t.timing.selector = (s.timing.boundary s.aligned).selector
  qualify : t.timing.qualify = (s.timing.boundary s.aligned).qualify
  inbound : ∀ w : State, w.link = { s.link with receiver := .hunt } → w.ports = s.ports →
    w.store line = s.storeAfter line → t.link.inbound = w.readFrame.link.inbound
  shows : s.notices.mask.getLsbD 0 = true → t.notices.shows (.alignment line false (s.timing.sfn + 1))

theorem State.numberedBoundary_lostWithin {s : State} (hopen : s.opening = closedOpening)
    (hrest : s.link.resting) {x : RxSample}
    (hout : (s.port s.link.current.line).outcome x = (emptyFramer .hunt, .lost)) (order : List Taker) :
    s.LostWithin
      (s.numberedBoundary
        ⟨.store s.link.current.line :: .timing :: order, [⟨s.link.current.line, x, some .link⟩]⟩)
      s.link.current.line := by
  set line := s.link.current.line with hline
  obtain ⟨v, later, found, hv, hlater, hboundary⟩ := s.numberedBoundary_meets hopen line x order
  obtain ⟨hports, hstores, htiming, hlink⟩ :=
    State.linkAct_foldl_takeShare (before := s) (found := found) hlater (v.rxPeriod line x)
  have hvport : v.port line = s.port line := State.port_congr hv.ports line
  have hlost : ((v.port line).outcome x).2 = .lost := by rw [hvport, hout]
  obtain ⟨n, seen, reached, off, hcounted⟩ := v.rxPeriod_timing_eq line x
  rw [hv.timing, State.timingAfter_fresh hopen] at hcounted
  have htimed := htiming.trans hcounted
  have hshows : s.notices.mask.getLsbD 0 = true →
      (later.foldl (State.takeShare s found) ((v.rxPeriod line x).linkAct State.readFrame)).notices.shows
        (.alignment line false (s.timing.sfn + 1)) := fun hmask => by
    refine State.foldl_takeShare_shows hlater rfl (State.linkAct_shows rfl ?_)
    rw [State.rxPeriod_lost v line x hlost, hv.timing, State.timingAfter_fresh hopen]
    exact NoticeUnit.raise_holds_of_enabled (by rw [← hv.mask] at hmask; exact hmask) rfl
  rw [hboundary]
  set f := later.foldl (State.takeShare s found) ((v.rxPeriod line x).linkAct State.readFrame)
  have hport : f.port line = (s.port line).sampled x := by
    rw [State.port_congr hports, State.rxPeriod_port, if_pos rfl, hvport]
  rw [LinePort.sampled_lost (by rw [hout]), hout] at hport
  have hbegun : (f.beginFrames.withOpening closedOpening).port line = f.beginPort line :=
    f.beginFrames_port line
  refine ⟨?_, ?_, ?_, ?_, ?_, ?_, fun w hwlink hwports hwstore => ?_, hshows⟩
  · rw [hbegun, State.beginPort_rx, hport]
  · rw [hbegun, State.beginPort_losses, hport]
  · refine (State.store_congr hstores line).trans ?_
    rw [State.rxPeriod_store, if_pos rfl, hlost, hv.store]
    rfl
  · exact (congrArg Timing.sfn htimed).trans rfl
  · exact (congrArg Timing.selector htimed).trans rfl
  · exact (congrArg Timing.qualify htimed).trans rfl
  · refine (congrArg Link.inbound hlink).trans ?_
    rw [State.linkAct_inbound, State.readFrame_lostBefore hv hrest hlost hwlink hwports hwstore]
    rw [State.rxPeriod_link, if_pos hlost, hv.link, Link.alignmentLost_resting hrest]
    exact hrest

/-- Settles O34: the third miss and a bit collected are `RxFramer.judging_lost` and `RxFramer.judging_collect`; at a boundary the loss comes between shares that do not read it (`State.numberedBoundary_meets`). -/
theorem missesLoseAlignment : Obligations.MissesLoseAlignment := by
  refine ⟨?_, ?_, ?_⟩
  · intro s line sync data hheld p pulse haligned htwo hmiss watched
    have hout : p.outcome ⟨sync, data⟩ = (emptyFramer .hunt, .lost) :=
      LinePort.outcome_lost haligned htwo hmiss
    obtain ⟨hpoint, hoff⟩ := State.rxPeriod_lost_timing hout
    refine ⟨_, exec_bitPeriod_released hheld line sync data, ?_, ?_, ?_, ?_, ?_, hpoint, hoff⟩
    · rw [State.rxPeriod_port, if_pos rfl, LinePort.sampled_lost (by rw [hout]), hout, satInc_eq]
      rfl
    · rw [State.rxPeriod_store, if_pos rfl, hout]
      rfl
    · rw [State.rxPeriod_lost s line _ (by rw [hout])]
      rfl
    · rw [State.rxPeriod_link, if_pos (by rw [hout])]
      rfl
    · rw [State.rxPeriod_link, if_pos (by rw [hout])]
      simp [Link.alignmentLost, Link.watched_eq_some_iff, watched]
  · intro s line sync data hheld p pulse haligned hmid hmiss
    have hpulse : p.pulseIn ⟨sync, data⟩ = true ↔ pulse := LinePort.pulseIn_iff
    have hout := (LinePort.outcome_aligned haligned ⟨sync, data⟩).trans
      (RxFramer.judging_collect hmid (by rw [← Bool.not_eq_true, hpulse]; exact hmiss))
    simp only [hpulse] at hout
    obtain ⟨hport, hstores, hnotices, hlink, -⟩ := State.rxPeriod_quiet_fields hout
    exact ⟨_, exec_bitPeriod_released hheld line sync data, hport, hstores, hnotices, hlink⟩
  · intro s order x hfresh hrest line p haligned htwo hmiss _ takers hunting
    obtain ⟨hdue, hopen⟩ := hfresh
    have hdueHunting : hunting.numberedDue = true := hdue
    have hlost := State.numberedBoundary_lostWithin hopen hrest
      (LinePort.outcome_lost haligned htwo hmiss) order
    obtain ⟨w, hwlink, hwports, hwstores, hwinbound⟩ :=
      State.numberedBoundary_inbound (s := hunting) hopen hrest takers
    have hstore : ∀ u : State, u.stores = Vector.ofFn hunting.storeAfter → u.store line = s.storeAfter line :=
      fun u hu => by
        rw [State.store, hu]
        exact Vector.getElem_ofFn _
    have htiming : (hunting.numberedBoundary ⟨takers, []⟩).timing = s.timing.boundary s.aligned :=
      (State.numberedBoundary_timing hunting takers).trans (State.timingAfter_fresh (s := hunting) hopen)
    have hinbound := (hlost.inbound w hwlink hwports (hstore w hwstores)).trans hwinbound.symm
    simp only [Link.inbound, Prod.mk.injEq] at hinbound
    obtain ⟨hreceiver, hcheck, hlength, hforeign⟩ := hinbound
    refine ⟨_, _, exec_boundary_numbered hdueHunting ⟨takers, []⟩,
      exec_boundary_numbered hdue ⟨takers, [⟨line, x, some .link⟩]⟩, hreceiver, hcheck, hlength,
      hforeign, hlost.rx, ?_, ?_, hlost.sfn, ?_, ?_, hlost.shows⟩
    · rw [hlost.losses, satInc_eq]
    · rw [hstore _ (State.numberedBoundary_stores hunting takers)]
      exact hlost.store
    · rw [htiming]
      exact hlost.selector
    · rw [htiming]
      exact hlost.qualify

end Sys2Proof.Machine
end

section
/-! SUPPORT. What the laws of the lines, of the Timing Unit and of the record of shares read of a state, and the acts that change none of it (R60, R98, log 6). -/

namespace Sys2Proof.Machine

/-! ### What the laws read -/

/-- All that the laws of the lines, of the Timing Unit and of the record of shares read of a state (R60, R63, R98, R102 to R105, R164, log 6). -/
structure LineView where
  records : Vector LineRecord 8
  framers : Vector FramerState 8
  locations : List Location
  timing : Timing
  opening : Opening

/-- What these laws read of this state. -/
def State.lineView (s : State) : LineView :=
  { records := s.ports.map LinePort.record, framers := s.ports.map fun p => p.rx.state
    locations := s.link.locations, timing := s.timing, opening := s.opening }

/-- A framer is OFF just while its line's receive side is (R63): what the law of the Timing Unit needs of the store law. -/
def State.offLaw (s : State) : Prop :=
  ∀ l : Line, (s.port l).rx.state = .off ↔ (s.port l).record.rxOn = false

theorem State.storeLaw.offLaw {s : State} (h : s.storeLaw) : s.offLaw := fun l => by
  obtain ⟨-, -, hoff, -⟩ := h l
  exact hoff

/-- What an act that leads from `s` to `t` does to these laws: each that stands before it stands after it. -/
structure State.KeepsLines (s t : State) : Prop where
  line : s.lineLaw → t.lineLaw
  timing : s.offLaw → s.timingLaw → t.timingLaw
  opening : s.openingLaw → t.openingLaw

theorem State.KeepsLines.refl (s : State) : s.KeepsLines s :=
  ⟨id, fun _ => id, id⟩

theorem State.KeepsLines.trans {s t u : State} (hoff : s.offLaw → t.offLaw) (h : s.KeepsLines t)
    (h' : t.KeepsLines u) : s.KeepsLines u :=
  ⟨fun hl => h'.line (h.line hl), fun ho hl => h'.timing (hoff ho) (h.timing ho hl),
    fun hl => h'.opening (h.opening hl)⟩

theorem State.KeepsLines.ite {s t u : State} {c : Prop} [Decidable c] (ht : s.KeepsLines t) (hu : s.KeepsLines u) :
    s.KeepsLines (if c then t else u) := by
  split
  · exact ht
  · exact hu

/-- Where every line keeps its record and no location is new, the law of the lines stands (R60, R164). -/
theorem State.lineLaw_of_narrows {s t : State} (hr : ∀ l, (t.port l).record = (s.port l).record)
    (hl : t.link.locations ⊆ s.link.locations) (h : s.lineLaw) : t.lineLaw := by
  obtain ⟨hslots, hlocations⟩ := h
  refine ⟨fun l => by rw [hr]; exact hslots l, fun loc hloc => ?_⟩
  rw [hr]
  exact hlocations loc (hl hloc)

/-- Where the Timing Unit and the state of every framer stay, the law of the Timing Unit stands. -/
theorem State.timingLaw_of_same {s t : State} (ht : t.timing = s.timing)
    (hf : ∀ l, (t.port l).rx.state = (s.port l).rx.state) (h : s.timingLaw) : t.timingLaw := by
  simpa only [State.timingLaw, ht, hf] using h

/-- An act that changes nothing these laws read keeps them. -/
theorem State.KeepsLines.of_view {s t : State} (h : t.lineView = s.lineView) : s.KeepsLines t := by
  simp only [State.lineView, LineView.mk.injEq] at h
  obtain ⟨hrecords, hframers, hlocations, htiming, hopening⟩ := h
  have hr : ∀ l : Line, (t.port l).record = (s.port l).record := fun l => by
    simpa [State.port] using congrArg (fun v : Vector LineRecord 8 => v[l]) hrecords
  have hf : ∀ l : Line, (t.port l).rx.state = (s.port l).rx.state := fun l => by
    simpa [State.port] using congrArg (fun v : Vector FramerState 8 => v[l]) hframers
  refine ⟨State.lineLaw_of_narrows hr (by rw [hlocations]; exact List.Subset.refl _),
    fun _ => State.timingLaw_of_same htiming hf, fun hl => ?_⟩
  simpa only [State.openingLaw, hopening] using hl

/-! ### Acts that change nothing the laws read -/

/-- A port's record and its framer's state are all of it that is read. -/
theorem State.setPort_lineView {s : State} {l : Line} {p : LinePort} (hr : p.record = (s.port l).record)
    (hf : p.rx.state = (s.port l).rx.state) : (s.setPort l p).lineView = s.lineView := by
  have hrecords : (s.ports.set l p).map LinePort.record = s.ports.map LinePort.record := by
    ext i hi
    simp only [Vector.getElem_map, Vector.getElem_set]
    split
    · subst_vars; rw [hr]; rfl
    · rfl
  have hframers : (s.ports.set l p).map (fun p => p.rx.state) = s.ports.map fun p => p.rx.state := by
    ext i hi
    simp only [Vector.getElem_map, Vector.getElem_set]
    split
    · subst_vars; exact hf
    · rfl
  simp [State.lineView, State.setPort, hrecords, hframers]

@[simp] theorem State.withSchedule_lineView (s : State) (v : List ScheduleEntry) :
    (s.withSchedule v).lineView = s.lineView := rfl
@[simp] theorem State.withSwitch_lineView (s : State) (v : Switch) :
    (s.withSwitch v).lineView = s.lineView := rfl
@[simp] theorem State.withMc_lineView (s : State) (v : MapController) :
    (s.withMc v).lineView = s.lineView := rfl
@[simp] theorem State.withProbes_lineView (s : State) (v : Vector Probe 4) :
    (s.withProbes v).lineView = s.lineView := rfl
@[simp] theorem State.withEngine_lineView (s : State) (v : RequestEngine) :
    (s.withEngine v).lineView = s.lineView := rfl
@[simp] theorem State.withNotices_lineView (s : State) (v : NoticeUnit) :
    (s.withNotices v).lineView = s.lineView := rfl
@[simp] theorem State.withPending_lineView (s : State) (v : List Instr) :
    (s.withPending v).lineView = s.lineView := rfl
@[simp] theorem State.setStore_lineView (s : State) (l : Line) (e : Store) :
    (s.setStore l e).lineView = s.lineView := rfl
@[simp] theorem State.setProbeAt_lineView (s : State) (p : ProbeIndex) (v : Probe) :
    (s.setProbeAt p v).lineView = s.lineView := rfl
@[simp] theorem State.setPatternAt_lineView (s : State) (i : PatternIndex) (v : Pattern) :
    (s.setPatternAt i v).lineView = s.lineView := rfl
@[simp] theorem State.answer_lineView (s : State) (r : Request) (c : Status) (d : List Byte) :
    (s.answer r c d).lineView = s.lineView := rfl
@[simp] theorem State.answerHeld_lineView (s : State) (r : Request) (d : List Byte) :
    (s.answerHeld r d).lineView = s.lineView := rfl
@[simp] theorem State.badLength_lineView (s : State) (r : Request) :
    (s.badLength r).lineView = s.lineView := rfl
@[simp] theorem State.fillReserved_lineView (s : State) (k o : Byte) (c : Status) (d : List Byte) :
    (s.fillReserved k o c d).lineView = s.lineView := rfl
@[simp] theorem State.acceptPage_lineView (s : State) (m : McState) (f : Option Word) :
    (s.acceptPage m f).lineView = s.lineView := rfl
@[simp] theorem State.clearCounters_lineView (s : State) : s.clearCounters.lineView = s.lineView := rfl
@[simp] theorem State.rebuild_lineView (s : State) : s.rebuild.lineView = s.lineView := rfl

@[simp] theorem State.clearStats_lineView (s : State) (l : Line) :
    (s.clearStats l).lineView = s.lineView := by
  simp [State.clearStats, State.setPort_lineView]

@[simp] theorem State.abortPage_lineView (s : State) : s.abortPage.lineView = s.lineView := by
  unfold State.abortPage; split <;> simp

/-! ### Requests that change nothing the laws read -/

section requests
variable (r : Request) (s : State)

@[simp] theorem echo_lineView : (echo r s).lineView = s.lineView := by
  unfold echo; split <;> simp
@[simp] theorem identify_lineView : (identify r s).lineView = s.lineView := by
  unfold identify; split <;> simp
@[simp] theorem restartFull_lineView : (restartFull r s).lineView = s.lineView := by
  unfold restartFull; (repeat' split) <;> simp
@[simp] theorem restartSwitch_lineView : (restartSwitch r s).lineView = s.lineView := by
  unfold restartSwitch; (repeat' split) <;> simp
@[simp] theorem getLine_lineView : (getLine r s).lineView = s.lineView := by
  unfold getLine; (repeat' split) <;> simp
@[simp] theorem readStats_lineView : (readStats r s).lineView = s.lineView := by
  unfold readStats; (repeat' split) <;> simp
@[simp] theorem getTiming_lineView : (getTiming r s).lineView = s.lineView := by
  unfold getTiming; split <;> simp
@[simp] theorem writeEntries_lineView : (writeEntries r s).lineView = s.lineView := by
  unfold writeEntries; (repeat' split) <;> simp
@[simp] theorem readEntries_lineView : (readEntries r s).lineView = s.lineView := by
  unfold readEntries; (repeat' split) <;> simp
@[simp] theorem setPattern_lineView : (setPattern r s).lineView = s.lineView := by
  unfold setPattern; (repeat' split) <;> simp
@[simp] theorem getPattern_lineView : (getPattern r s).lineView = s.lineView := by
  unfold getPattern; (repeat' split) <;> simp
theorem pageRequest_lineView {accept : State → State} (h : (accept s).lineView = s.lineView) :
    (pageRequest accept r s).lineView = s.lineView := by
  unfold pageRequest; (repeat' split) <;> simp [h]
@[simp] theorem getPages_lineView : (getPages r s).lineView = s.lineView := by
  unfold getPages; split <;> simp
@[simp] theorem addSchedule_lineView : (addSchedule r s).lineView = s.lineView := by
  simp only [addSchedule]; (repeat' split) <;> simp
@[simp] theorem cancelSchedule_lineView : (cancelSchedule r s).lineView = s.lineView := by
  unfold cancelSchedule; (repeat' split) <;> simp
@[simp] theorem listSchedule_lineView : (listSchedule r s).lineView = s.lineView := by
  unfold listSchedule; split <;> simp
@[simp] theorem setProbe_lineView : (setProbe r s).lineView = s.lineView := by
  unfold setProbe; (repeat' split) <;> simp
@[simp] theorem readProbe_lineView : (readProbe r s).lineView = s.lineView := by
  unfold readProbe; (repeat' split) <;> simp
@[simp] theorem getLink_lineView : (getLink r s).lineView = s.lineView := by
  unfold getLink; (repeat' split) <;> simp
@[simp] theorem setNotices_lineView : (setNotices r s).lineView = s.lineView := by
  simp only [setNotices]; (repeat' split) <;> simp
@[simp] theorem getNotices_lineView : (getNotices r s).lineView = s.lineView := by
  unfold getNotices; split <;> simp

end requests

end Sys2Proof.Machine
end

section
/-! SUPPORT. What the acts of the part do to the lines' records and to the link's locations (R60, R164). -/

namespace Sys2Proof.Machine

/-- An act that leaves every line its record and gives the link no new location (R60, R164). -/
structure State.Narrows (s t : State) : Prop where
  records : ∀ l, (t.port l).record = (s.port l).record
  locations : t.link.locations ⊆ s.link.locations

theorem State.Narrows.refl (s : State) : s.Narrows s :=
  ⟨fun _ => rfl, List.Subset.refl _⟩

theorem State.Narrows.trans {s t u : State} (h : s.Narrows t) (h' : t.Narrows u) : s.Narrows u :=
  ⟨fun l => (h'.records l).trans (h.records l), List.Subset.trans h'.locations h.locations⟩

/-- An act that changes neither the ports nor the locations. -/
theorem State.Narrows.of_same {s t : State} (hp : t.ports = s.ports) (hl : t.link.locations = s.link.locations) :
    s.Narrows t :=
  ⟨fun l => by rw [State.port_congr hp], by rw [hl]; exact List.Subset.refl _⟩

theorem State.foldl_narrows {α : Type} {f : State → α → State} (h : ∀ (s : State) a, s.Narrows (f s a))
    (l : List α) (s : State) : s.Narrows (l.foldl f s) := by
  induction l generalizing s with
  | nil => exact .refl s
  | cons a l ih => exact (h s a).trans (ih _)

/-! ### The link's act -/

/-- The locations are part of the move (R164). -/
theorem Link.locations_of_move {k k' : Link} (h : k.move = k'.move) : k.locations = k'.locations := by
  obtain ⟨hcurrent, -, hpending, hformer, -, -⟩ := (Link.move_eq_iff k k').1 h
  rw [Link.locations, Link.locations, hcurrent, hpending, hformer]

/-- A link that rests on one of its locations has given up the others (R179, R180). -/
theorem Link.locations_settleOn {k : Link} {loc : Location} (h : loc ∈ k.locations) :
    (k.settleOn loc).locations ⊆ k.locations := by
  intro l hl
  have hloc : l = loc := by simpa [Link.locations, Link.settleOn] using hl
  rw [hloc]
  exact h

theorem State.confirm_locations (s : State) : s.confirm.link.locations ⊆ s.link.locations := by
  unfold State.confirm
  split
  · exact Link.locations_settleOn (by simp [Link.locations])
  · exact List.Subset.refl _

theorem State.revert_locations (s : State) (why : MoveReason) :
    (s.revert why).link.locations ⊆ s.link.locations := by
  unfold State.revert
  split
  next former hf => exact Link.locations_settleOn (loc := former) (by simp [Link.locations, hf])
  next => exact List.Subset.refl _

theorem State.headParts_locations (s : State) : s.headParts.link.locations ⊆ s.link.locations := by
  have htrial : s.trialPart.link.locations ⊆ s.link.locations := by
    unfold State.trialPart
    split
    · exact List.Subset.refl _
    split
    · exact s.revert_locations _
    split
    · exact s.revert_locations _
    · exact List.Subset.refl _
  have hswitch : ∀ u : State, u.switchPart.link.locations ⊆ u.link.locations := fun u => by
    unfold State.switchPart
    split
    next => exact List.Subset.refl _
    next pending hd =>
      obtain ⟨-, -, hp⟩ := State.switchDue_eq_some hd
      split
      · exact Link.locations_settleOn (loc := u.link.current) (by simp [Link.locations])
      · simp [State.switchTo, Link.locations, hp]
  exact List.Subset.trans (hswitch _) htrial

theorem State.deliverGood_locations (s : State) (seq kind : Byte) (payload : List Byte) :
    (s.deliverGood seq kind payload).link.locations ⊆ s.link.locations := by
  rw [State.deliverGood_link]
  exact s.confirm_locations

theorem State.receive_narrows (s : State) (b : Byte) : s.Narrows (s.receive b) := by
  refine ⟨fun l => by rw [State.port_congr (State.receive_ports s b)], ?_⟩
  obtain ⟨k, heq, hk⟩ | ⟨seq, kind, payload, -, heq⟩ := s.receive_cases b
  · rw [heq, State.withLink_link, Link.locations_of_move hk]
    exact List.Subset.refl _
  · rw [heq]
    exact (s.receiving .hunt).deliverGood_locations seq kind payload

theorem State.readFrame_narrows (s : State) : s.Narrows s.readFrame := by
  unfold State.readFrame
  split
  · exact .refl s
  · exact State.foldl_narrows State.receive_narrows _ s

theorem State.delivering_narrows (s : State) (seq kind : Byte) (payload : List Byte) :
    s.Narrows (State.delivering seq kind payload s) := by
  refine ⟨fun l => by rw [State.port_congr (State.delivering_ports s seq kind payload)], ?_⟩
  unfold State.delivering State.deliver
  split
  · exact List.Subset.refl _
  · exact (s.receiving .hunt).deliverGood_locations seq kind payload

theorem State.linkAct_narrows {inbound : State → State} (h : ∀ u : State, u.Narrows (inbound u)) (s : State) :
    s.Narrows (s.linkAct inbound) := by
  have hhead : s.Narrows s.headParts :=
    ⟨fun l => by rw [State.port_congr s.headParts_ports], s.headParts_locations⟩
  refine (hhead.trans (h _)).trans (.of_same (by simp [State.linkAct]) ?_)
  exact Link.locations_of_move (State.fillFrame_leavesMove _).move

theorem State.linkShare_narrows {inbound : State → State} (h : ∀ u : State, u.Narrows (inbound u)) (s : State) :
    s.Narrows (s.linkShare inbound) :=
  State.Narrows.trans (t := s.takeStores) (.of_same s.takeStores_ports (by rw [State.takeStores_link]))
    (State.linkAct_narrows h _)

/-! ### Framer events -/

theorem State.rxPeriod_narrows (s : State) (line : Line) (x : RxSample) : s.Narrows (s.rxPeriod line x) := by
  refine ⟨fun l => ?_, ?_⟩
  · rw [State.rxPeriod_port]
    split
    next hl => rw [hl]; rfl
    next => rfl
  · rw [State.rxPeriod_link]
    split <;> exact List.Subset.refl _

theorem State.meet_narrows (before : State) (shares : List Taker) (s : State) (c : Coincidence) :
    s.Narrows (State.meet before shares s c) := by
  have hstored : ∀ (u : State) (b : Bool) e, u.Narrows (if b then u.setStore c.line e else u) := fun u b e => by
    split <;> exact .of_same rfl rfl
  have htimed : ∀ (u : State) t, u.Narrows (u.withTiming t) := fun _ _ => .of_same rfl rfl
  exact (((hstored _ _ _).trans (htimed _ _)).trans (State.rxPeriod_narrows _ _ _)).trans
    ((hstored _ _ _).trans (htimed _ _))

/-! ### The whole boundary -/

theorem State.takeShare_narrows (before : State) (found : Taker → State) (s : State) (t : Taker) :
    s.Narrows (State.takeShare before found s t) := by
  by_cases ht : t = .link
  · subst ht
    simp only [State.takeShare]
    split
    · exact .refl s
    · exact State.linkAct_narrows State.readFrame_narrows s
  · exact .of_same (by simp) (by rw [State.takeShare_link ht])

theorem takeInTurn_narrows {meet : State → Coincidence → State} {share : State → Taker → State}
    (hm : ∀ (s : State) c, s.Narrows (meet s c)) (hs : ∀ (s : State) t, s.Narrows (share s t))
    (events : List Coincidence) (shares : List Taker) (s : State) :
    s.Narrows (takeInTurn meet share events shares s) := by
  induction shares generalizing events s with
  | nil => exact .refl s
  | cons t rest ih => exact ((State.foldl_narrows hm _ s).trans (hs _ t)).trans (ih _ _)

theorem State.beginFrames_narrows (s : State) : s.Narrows s.beginFrames :=
  ⟨fun l => by rw [State.beginFrames_port, State.beginPort_record], by simp⟩

theorem State.numberedBoundary_narrows (s : State) (order : BoundaryOrder) :
    s.Narrows (s.numberedBoundary order) := by
  refine State.Narrows.trans ?_
    (State.foldl_narrows (fun t (c : Coincidence) => t.rxPeriod_narrows c.line c.sample) _ _)
  refine State.Narrows.trans ?_ ((State.beginFrames_narrows _).trans (.of_same rfl rfl))
  refine State.Narrows.trans (.of_same (State.numberedEffects_ports s _) ?_)
    (takeInTurn_narrows (State.meet_narrows s _) (State.takeShare_narrows s _) _ _ _)
  rw [State.numberedEffects_link]

end Sys2Proof.Machine
end

section
/-! SUPPORT. The law of the Timing Unit over the bit periods and boundaries of the part (R98, R100 to R107). -/

namespace Sys2Proof.Machine

/-! ### The two parts of the law -/

/-- The Timing Unit's record is in range, and lock pending names the locked line (R98, R103). -/
structure Timing.Lawful (t : Timing) : Prop where
  period : 256 ≤ t.freePeriod.toNat
  secondary : t.secondary ≠ some t.primary
  qualify : ∀ line : Line, t.qualify[line] ≤ 64
  pending : ∀ line, t.lockPending = some line → t.selector.line = some line

/-- Where this is the port of line `line`, the place of the next boundary is settled or the locked line's framer is ALIGNED (R102 to R105). -/
def Timing.Follows (t : Timing) (line : Line) (p : LinePort) : Prop :=
  t.selector.line = some line → t.settled = true ∨ p.rx.state = .aligned

theorem State.timingLaw_iff (s : State) :
    s.timingLaw ↔ s.timing.Lawful ∧ ∀ line, s.timing.Follows line (s.port line) :=
  ⟨fun ⟨h1, h2, h3, h4, h5⟩ => ⟨⟨h1, h2, h3, h4⟩, h5⟩, fun ⟨⟨h1, h2, h3, h4⟩, h5⟩ => ⟨h1, h2, h3, h4, h5⟩⟩

/-! ### Counting between two boundaries -/

/-- The Timing Unit counts on between two boundaries: its record stays, and what is settled about the next boundary stays settled (R102 to R105). -/
structure Timing.CountsOn (t t' : Timing) : Prop where
  lawful : t.Lawful → t'.Lawful
  selector : t'.selector = t.selector
  settled : t.settled = true → t'.settled = true

theorem Timing.CountsOn.refl (t : Timing) : t.CountsOn t :=
  ⟨id, rfl, id⟩

theorem Timing.CountsOn.trans {t t' t'' : Timing} (h : t.CountsOn t') (h' : t'.CountsOn t'') : t.CountsOn t'' :=
  ⟨h'.lawful ∘ h.lawful, h'.selector.trans h.selector, h'.settled ∘ h.settled⟩

theorem Timing.CountsOn.follows {t t' : Timing} (h : t.CountsOn t') {line : Line} {p : LinePort}
    (hf : t.Follows line p) : t'.Follows line p := fun hsel =>
  (hf (h.selector ▸ hsel)).imp_left h.settled

/-- A line stops supplying frame starts (R104). -/
theorem Timing.countsOn_stopped (t : Timing) (line : Line) : t.CountsOn (t.stopped line) := by
  rw [Timing.stopped_eq]
  split
  next h =>
    obtain ⟨-, hpoint, hoff, hcount⟩ := h
    exact ⟨fun ⟨h1, h2, h3, h4⟩ => ⟨h1, h2, h3, h4⟩, rfl, fun _ => by simp [Timing.settled]⟩
  next => exact .refl t

/-- The locked line, once it has stopped, leaves nothing open about the next boundary (R104, R105). -/
theorem Timing.stopped_settled {t : Timing} {line : Line} (h : t.selector.line = some line) :
    (t.stopped line).settled = true := by
  by_cases hs : t.settled = true
  · exact (t.countsOn_stopped line).settled hs
  · have hc : (t.selector.line = some line && !t.settled) = true := by simp [h, hs]
    rw [Timing.stopped, if_pos hc]
    simp [Timing.settled]

/-- A bit period is counted (R102, R103). -/
theorem Timing.countsOn_linePeriod (t : Timing) (line : Line) (len : Nat) (f : RxFramer) :
    t.CountsOn (t.linePeriod line len f) := by
  refine ⟨?_, ?_, fun h => ?_⟩
  · obtain ⟨n, seen, reached, heq⟩ := t.linePeriod_eq line len f
    rw [heq]
    exact fun ⟨h1, h2, h3, h4⟩ => ⟨h1, h2, h3, h4⟩
  · obtain ⟨n, seen, reached, heq⟩ := t.linePeriod_eq line len f
    rw [heq]
  · unfold Timing.linePeriod
    split
    · split
      · simp only [Timing.settled, Bool.or_eq_true] at h ⊢
        obtain (h | h) | h := h
        · exact .inl (.inl (.inl h))
        · exact .inl (.inr h)
        · exact .inr h
      · exact h
    · exact h

/-- A REFCLK period passes (R101). -/
theorem Timing.countsOn_refclk (t : Timing) : t.CountsOn { t with refclk := t.refclk + 1 } := by
  refine ⟨fun ⟨h1, h2, h3, h4⟩ => ⟨h1, h2, h3, h4⟩, rfl, fun h => ?_⟩
  simp only [Timing.settled, Bool.or_eq_true, decide_eq_true_eq] at h ⊢
  exact h.imp_right fun hle => by omega

/-- The locked line's point is reached (R102, R103). -/
theorem Timing.countsOn_point (t : Timing) : t.CountsOn { t with pointReached := true } :=
  ⟨fun ⟨h1, h2, h3, h4⟩ => ⟨h1, h2, h3, h4⟩, rfl, fun _ => rfl⟩

/-- While the Timing Unit counts on, a state whose framers stay keeps the law. -/
theorem State.timingLaw_countsOn {s t : State} (ht : s.timing.CountsOn t.timing) (hp : t.ports = s.ports)
    (h : s.timingLaw) : t.timingLaw := by
  rw [State.timingLaw_iff] at h ⊢
  obtain ⟨hlawful, hfollows⟩ := h
  refine ⟨ht.lawful hlawful, fun line => ?_⟩
  rw [State.port_congr hp]
  exact ht.follows (hfollows line)

/-! ### Bit periods -/

/-- A framer leaves ALIGNED by a loss alone (R66, R67). -/
theorem RxFramer.judging_stays {f : RxFramer} (hf : f.state = .aligned) {len : Nat} {pulse data : Bool}
    (h : (f.judging len pulse data).2 ≠ .lost) : (f.judging len pulse data).1.state = .aligned := by
  have hmissed : ∀ (kept : RxFramer) act, kept.state = .aligned → (f.missed kept act).2 ≠ .lost →
      (f.missed kept act).1.state = .aligned := fun kept act hk hl => by
    unfold RxFramer.missed at hl ⊢
    split
    next hthree => simp [hthree] at hl
    next => exact hk
  unfold RxFramer.judging at h ⊢
  split at h
  next hend =>
    rw [if_pos hend]
    split at h
    next hp => rw [if_pos hp]; rfl
    next hp => rw [if_neg hp]; exact hmissed _ _ rfl h
  next hend =>
    rw [if_neg hend]
    split at h
    next hp => rw [if_pos hp]; exact hmissed _ _ hf h
    next hp => rw [if_neg hp]; exact hf

theorem LinePort.sampled_aligned {p : LinePort} {x : RxSample} (hp : p.rx.state = .aligned)
    (h : (p.outcome x).2 ≠ .lost) : (p.sampled x).rx.state = .aligned := by
  rw [LinePort.outcome_aligned hp] at h
  rw [LinePort.sampled]
  show (p.outcome x).1.state = .aligned
  rw [LinePort.outcome_aligned hp]
  exact RxFramer.judging_stays hp h

section period
variable (s : State) (line : Line) (x : RxSample)

theorem State.rxPeriod_countsOn : s.timing.CountsOn (s.rxPeriod line x).timing := by
  rw [State.rxPeriod_timing]
  split
  · exact (s.timing.countsOn_stopped line).trans (Timing.countsOn_linePeriod _ _ _ _)
  · exact Timing.countsOn_linePeriod _ _ _ _

/-- A bit period of the locked line leaves its framer ALIGNED or the place of the next boundary settled (R102 to R105). -/
theorem State.rxPeriod_follows {l : Line} (h : s.timing.Follows l (s.port l)) :
    (s.rxPeriod line x).timing.Follows l ((s.rxPeriod line x).port l) := by
  intro hsel
  have hcounts := s.rxPeriod_countsOn line x
  have hlocked : s.timing.selector.line = some l := hcounts.selector ▸ hsel
  obtain hs | ha := h hlocked
  · exact .inl (hcounts.settled hs)
  rw [State.rxPeriod_port]
  by_cases hl : l = line
  · subst hl
    rw [if_pos rfl]
    by_cases hlost : ((s.port l).outcome x).2 = .lost
    · left
      rw [State.rxPeriod_timing, if_pos hlost]
      exact (Timing.countsOn_linePeriod _ _ _ _).settled (Timing.stopped_settled hlocked)
    · exact .inr (LinePort.sampled_aligned ha hlost)
  · rw [if_neg hl]
    exact .inr ha

theorem State.rxPeriod_timingLaw (h : s.timingLaw) : (s.rxPeriod line x).timingLaw := by
  rw [State.timingLaw_iff] at h ⊢
  obtain ⟨hlawful, hfollows⟩ := h
  exact ⟨(s.rxPeriod_countsOn line x).lawful hlawful, fun l => s.rxPeriod_follows line x (hfollows l)⟩

end period

theorem State.foldl_rxPeriod_timingLaw (events : List Coincidence) {s : State} (h : s.timingLaw) :
    (events.foldl (fun u c => u.rxPeriod c.line c.sample) s).timingLaw := by
  induction events generalizing s with
  | nil => exact h
  | cons c rest ih => exact ih (s.rxPeriod_timingLaw c.line c.sample h)

/-! ### The Timing Unit's share of a boundary -/

section boundary
variable {t : Timing} {aligned : Line → Bool} {line : Line}

theorem Timing.qualified_aligned (h : t.qualified aligned line = true) : aligned line = true := by
  simp only [Timing.qualified, Timing.qualifyAfter] at h
  by_contra ha
  simp [ha, Config.qualifyCount] at h

theorem Timing.lost_aligned (h : t.lost aligned line = false) : aligned line = true := by
  simp only [Timing.lost, Bool.or_eq_false_iff, Bool.not_eq_false'] at h
  obtain ⟨⟨ha, -⟩, -⟩ := h
  exact ha

theorem Timing.trySecondary_line {test : Line → Bool} {otherwise : Selector}
    (ho : otherwise.line = some line → aligned line = true)
    (h : (t.trySecondary aligned test otherwise).line = some line) : aligned line = true := by
  unfold Timing.trySecondary at h
  split at h
  next l _ =>
    split at h
    next hq =>
      obtain rfl : l = line := by simpa [Selector.line] using h
      rw [Bool.and_eq_true] at hq
      exact Timing.qualified_aligned hq.2
    next => exact ho h
  next => exact ho h

/-- The evaluation locks only on a line whose framer is ALIGNED (R106, R107). -/
theorem Timing.select_aligned (h : (t.select aligned).line = some line) : aligned line = true := by
  have hprimary : t.qualified aligned t.primary = true → (Selector.primary t.primary).line = some line →
      aligned line = true := fun hq hl => by
    obtain rfl : t.primary = line := by simpa [Selector.line] using hl
    exact Timing.qualified_aligned hq
  unfold Timing.select at h
  split at h
  next =>
    split at h
    next hq => exact hprimary hq h
    next => exact Timing.trySecondary_line (by simp [Selector.line]) h
  next l hsel =>
    split at h
    next =>
      refine Timing.trySecondary_line (fun ho => ?_) h
      split at ho
      next hq => exact hprimary hq ho
      next => simp [Selector.line] at ho
    next hlost =>
      have ha : aligned l = true := Timing.lost_aligned (by simpa using hlost)
      split at h
      next =>
        obtain rfl : l = line := by simpa [Selector.line] using h
        exact ha
      next =>
        split at h
        next hq =>
          rw [Bool.and_eq_true] at hq
          exact hprimary hq.2 h
        next =>
          obtain rfl : l = line := by simpa [Selector.line] using h
          exact ha

theorem Timing.boundary_lawful (h : t.Lawful) : (t.boundary aligned).Lawful := by
  refine ⟨h.period, h.secondary, fun l => ?_, fun l hl => ?_⟩
  · have hq : (t.boundary aligned).qualify[l] = t.qualifyAfter aligned l := by simp [Timing.boundary]
    rw [hq, Timing.qualifyAfter]
    split
    · exact Nat.zero_le _
    split
    · exact Nat.min_le_left _ _
    · exact Nat.zero_le _
  · change t.pendingAfter aligned = some l at hl
    unfold Timing.pendingAfter at hl
    split at hl
    next => cases hl
    next m hm =>
      split at hl
      next => cases hl
      next =>
        obtain rfl : m = l := by simpa using hl
        exact hm

end boundary

/-- After its share of a boundary the Timing Unit follows the framers that it found there (R99, R106, R107). -/
theorem State.boundary_timingLaw {s : State} (h : s.timing.Lawful) :
    (s.withTiming (s.timing.boundary s.aligned)).timingLaw := by
  rw [State.timingLaw_iff]
  refine ⟨Timing.boundary_lawful h, fun line hsel => .inr ?_⟩
  have ha : s.aligned line = true := Timing.select_aligned hsel
  exact of_decide_eq_true ha

theorem State.timingAfter_timingLaw {s : State} (h : s.timingLaw) : (s.withTiming s.timingAfter).timingLaw := by
  unfold State.timingAfter
  split
  · exact h
  · exact State.boundary_timingLaw (s.timingLaw_iff.1 h).1

theorem State.timingShare_timingLaw {s : State} (h : s.timingLaw) : s.timingShare.timingLaw :=
  State.timingLaw_of_same (s := s.withTiming (s.timing.boundary s.aligned)) (by simp)
    (fun l => by rw [State.port_congr (State.timingShare_ports s)]; rfl)
    (State.boundary_timingLaw (s.timingLaw_iff.1 h).1)

end Sys2Proof.Machine
end

section
/-! SUPPORT. The law of the Timing Unit at a numbered boundary with framer events that fall together with it (R91, R100, R102 to R107, log 5). -/

namespace Sys2Proof.Machine

/-! ### The events of a boundary -/

/-- No two of the framer events that fall together with a boundary are of one line. -/
theorem keepFirst_map_nodup {α κ : Type} [DecidableEq κ] (key : α → κ) (l : List α) :
    ((keepFirst key l).map key).Nodup := by
  induction l with
  | nil => exact List.nodup_nil
  | cons a rest ih =>
    rw [keepFirst, List.map_cons, List.nodup_cons]
    refine ⟨?_, ih.sublist (List.filter_sublist.map key)⟩
    simp

theorem State.coincidences_nodup (s : State) (shares : List Taker) (within : List Coincidence) :
    ((s.coincidences shares within).map Coincidence.line).Nodup := by
  have hline : (s.coincidences shares within).map Coincidence.line
      = (keepFirst Coincidence.line within).map Coincidence.line := by
    rw [State.coincidences, List.map_map]
    refine List.map_congr_left fun c _ => ?_
    simp only [Function.comp_apply]
    split <;> rfl
  rw [hline]
  exact keepFirst_map_nodup _ _

/-- An event that comes before no share precedes none. -/
theorem precedes_eq_false {c : Coincidence} {shares : List Taker} {t : Taker} (ht : t ∈ shares)
    (h : ∀ u ∈ shares, fallsBefore c u = false) : precedes c shares t = false := by
  have hall : shares.takeWhile (fun u => !fallsBefore c u) = shares :=
    List.takeWhile_eq_self_iff.mpr fun u hu => by simp [h u hu]
  simp [precedes, hall, ht]

/-- The events that are left when every share is taken are those that come before none of them. -/
theorem takeInTurn_induction {meet : State → Coincidence → State} {share : State → Taker → State}
    {P : List Coincidence → State → Prop} (hperm : ∀ {l l' : List Coincidence} {s}, l.Perm l' → P l s → P l' s)
    (hmeet : ∀ {c l s}, P (c :: l) s → P l (meet s c)) (hshare : ∀ {l s} t, P l s → P l (share s t))
    (shares : List Taker) (events : List Coincidence) {s : State} (h : P events s) :
    P (events.filter fun c => shares.all fun t => !fallsBefore c t) (takeInTurn meet share events shares s) := by
  have hfold : ∀ (now later : List Coincidence) (s : State), P (now ++ later) s → P later (now.foldl meet s) := by
    intro now later
    induction now with
    | nil => exact fun _ h => h
    | cons c rest ih => exact fun s h => ih _ (hmeet h)
  induction shares generalizing events s with
  | nil => simpa [takeInTurn] using h
  | cons t rest ih =>
    have hsplit := (List.filter_append_perm (fun c => fallsBefore c t) events).symm
    have hrest := ih _ (hshare t (hfold _ _ s (hperm hsplit h)))
    simpa only [takeInTurn, List.filter_filter, List.all_cons, Bool.and_comm] using hrest

/-! ### Where the Timing Unit's share meets a line's port -/

section following
variable (shares : List Taker)

/-- With these events still to come, this is the port of the line as the Timing Unit's share of the boundary finds it. -/
def State.FoundPort (u : State) (events : List Coincidence) (l : Line) (p : LinePort) : Prop :=
  (∃ c ∈ events, c.line = l ∧ precedes c shares .timing = true ∧ p = (u.port l).sampled c.sample)
    ∨ (∀ c ∈ events, c.line = l → precedes c shares .timing = false) ∧ p = u.port l

/-- While the boundary is taken: the Timing Unit, which holds what its share made of it, follows the ports that this share finds. -/
structure State.FollowsFound (events : List Coincidence) (u : State) : Prop where
  lines : (events.map Coincidence.line).Nodup
  lawful : u.timing.Lawful
  follows : ∀ l, ∃ p, u.FoundPort shares events l p ∧ u.timing.Follows l p

variable {shares}

theorem State.FollowsFound.perm {u : State} {events events' : List Coincidence} (hp : events.Perm events')
    (h : State.FollowsFound shares events u) : State.FollowsFound shares events' u := by
  refine ⟨(hp.map _).nodup_iff.mp h.lines, h.lawful, fun l => ?_⟩
  simpa only [State.FoundPort, hp.mem_iff] using h.follows l

/-- A share changes neither a port nor, the effects of the frame number being made, the Timing Unit. -/
theorem State.FollowsFound.share {u v : State} {events : List Coincidence} (hports : v.ports = u.ports)
    (htiming : v.timing = u.timing) (h : State.FollowsFound shares events u) :
    State.FollowsFound shares events v := by
  refine ⟨h.lines, htiming ▸ h.lawful, fun l => ?_⟩
  simpa only [State.FoundPort, State.port_congr hports, htiming] using h.follows l

theorem State.meet_port (before s : State) (c : Coincidence) (l : Line) :
    (State.meet before shares s c).port l = if l = c.line then (s.port c.line).sampled c.sample else s.port l := by
  have hstored : ∀ (u : State) (b : Bool) e, (if b then u.setStore c.line e else u).ports = u.ports :=
    fun u b e => by split <;> rfl
  have hmet : ∀ u : State, u.ports = s.ports → (u.rxPeriod c.line c.sample).port l
      = if l = c.line then (s.port c.line).sampled c.sample else s.port l := fun u hu => by
    rw [State.rxPeriod_port, State.port_congr hu, State.port_congr hu]
  rw [← hmet ((if precedes c shares (.store c.line) then s.setStore c.line (before.store c.line) else s).withTiming
    (if precedes c shares .timing then before.timing else s.timing)) (hstored _ _ _)]
  exact State.port_congr (hstored _ _ _) l

/-- What a framer event does to the Timing Unit when its share comes first (R102 to R104). -/
theorem State.meet_timing (before s : State) (c : Coincidence) :
    (State.meet before shares s c).timing
      = if precedes c shares .timing then s.timing else (s.rxPeriod c.line c.sample).timing := by
  by_cases h : precedes c shares .timing = true
  · simp [State.meet, h]
  · have hport : ∀ b : Bool, ((if b then s.setStore c.line (before.store c.line) else s).withTiming s.timing).port c.line
        = s.port c.line := fun b => State.port_congr (by split <;> rfl) _
    simp only [State.meet, h, if_false, Bool.false_eq_true, State.withTiming_timing, State.rxPeriod_timing,
      State.countedBy, hport]

/-- A framer event is met: where the Timing Unit's share comes later the port becomes the one that share has found, else the event is counted as between two boundaries. -/
theorem State.FollowsFound.meet {before u : State} {c : Coincidence} {rest : List Coincidence}
    (h : State.FollowsFound shares (c :: rest) u) :
    State.FollowsFound shares rest (State.meet before shares u c) := by
  obtain ⟨hnodup, hlawful, hfollows⟩ := h
  rw [List.map_cons, List.nodup_cons] at hnodup
  obtain ⟨hnew, hrest⟩ := hnodup
  have hother : ∀ d ∈ rest, d.line ≠ c.line := fun d hd hl => hnew (hl ▸ List.mem_map_of_mem hd)
  have hcounts : u.timing.CountsOn (State.meet before shares u c).timing := by
    rw [State.meet_timing]
    split
    · exact .refl _
    · exact u.rxPeriod_countsOn _ _
  refine ⟨hrest, hcounts.lawful hlawful, fun l => ?_⟩
  obtain ⟨p, hfound, hp⟩ := hfollows l
  by_cases hl : l = c.line
  · subst hl
    refine ⟨_, .inr ⟨fun d hd hdl => absurd hdl (hother d hd), rfl⟩, ?_⟩
    obtain ⟨d, hd, hdl, hprec, rfl⟩ | ⟨hnone, rfl⟩ := hfound
    · obtain rfl : d = c := by
        obtain rfl | hd := List.mem_cons.1 hd
        · rfl
        · exact absurd hdl (hother d hd)
      rw [State.meet_port, if_pos rfl, State.meet_timing, if_pos hprec]
      exact hp
    · have hprec := hnone c List.mem_cons_self rfl
      rw [State.meet_port, if_pos rfl, State.meet_timing, hprec, if_neg Bool.false_ne_true]
      have := u.rxPeriod_follows c.line c.sample hp
      rwa [State.rxPeriod_port, if_pos rfl] at this
  · have hport : (State.meet before shares u c).port l = u.port l := by rw [State.meet_port, if_neg hl]
    refine ⟨p, ?_, hcounts.follows hp⟩
    rw [State.FoundPort, hport]
    obtain ⟨d, hd, hdl, hprec, rfl⟩ | ⟨hnone, rfl⟩ := hfound
    · obtain rfl | hd := List.mem_cons.1 hd
      · exact absurd hdl.symm hl
      · exact .inl ⟨d, hd, hdl, hprec, rfl⟩
    · exact .inr ⟨fun d hd => hnone d (List.mem_cons_of_mem _ hd), rfl⟩

/-- With every share taken no event is left that the Timing Unit's share has found: its law stands (R98). -/
theorem State.FollowsFound.timingLaw {u : State} {events : List Coincidence} (ht : .timing ∈ shares)
    (hleft : ∀ c ∈ events, ∀ t ∈ shares, fallsBefore c t = false) (h : State.FollowsFound shares events u) :
    u.timingLaw := by
  refine (State.timingLaw_iff u).2 ⟨h.lawful, fun l => ?_⟩
  obtain ⟨p, hfound, hp⟩ := h.follows l
  obtain ⟨c, hc, -, hprec, -⟩ | ⟨-, rfl⟩ := hfound
  · rw [precedes_eq_false ht (hleft c hc)] at hprec
    cases hprec
  · exact hp

end following

/-! ### The events that the Timing Unit's share finds -/

/-- Where no two of them are of one line, each event makes of its line's port what it makes of it alone. -/
theorem State.foldl_rxPeriod_port {events : List Coincidence} (h : (events.map Coincidence.line).Nodup) (s : State)
    (l : Line) :
    (∃ c ∈ events, c.line = l
        ∧ (events.foldl (fun u c => u.rxPeriod c.line c.sample) s).port l = (s.port l).sampled c.sample)
      ∨ (∀ c ∈ events, c.line ≠ l)
        ∧ (events.foldl (fun u c => u.rxPeriod c.line c.sample) s).port l = s.port l := by
  induction events generalizing s with
  | nil => exact .inr ⟨by simp, rfl⟩
  | cons c rest ih =>
    rw [List.map_cons, List.nodup_cons] at h
    obtain ⟨hnew, hrest⟩ := h
    obtain ⟨d, hd, hdl, hport⟩ | ⟨hnone, hport⟩ := ih hrest (s.rxPeriod c.line c.sample)
    · have hl : l ≠ c.line := fun hl => hnew (by rw [← hl, ← hdl]; exact List.mem_map_of_mem hd)
      rw [State.rxPeriod_port, if_neg hl] at hport
      exact .inl ⟨d, List.mem_cons_of_mem _ hd, hdl, hport⟩
    · by_cases hl : l = c.line
      · subst hl
        rw [State.rxPeriod_port, if_pos rfl] at hport
        exact .inl ⟨c, List.mem_cons_self, rfl, hport⟩
      · rw [State.rxPeriod_port, if_neg hl] at hport
        exact .inr ⟨List.forall_mem_cons.mpr ⟨fun h => hl h.symm, hnone⟩, hport⟩

/-- The Timing Unit's share, taken after the events it finds, follows the ports that these leave (R100, R107). -/
theorem State.numberedEffects_followsFound {s : State} (h : s.timingLaw) {shares : List Taker}
    {events : List Coincidence} (hlines : (events.map Coincidence.line).Nodup) :
    State.FollowsFound shares events (s.numberedEffects (s.foundBy shares events)) := by
  have hlaw := State.timingAfter_timingLaw
    (State.foldl_rxPeriod_timingLaw (events.filter fun c => precedes c shares .timing) h)
  obtain ⟨hlawful, hfollows⟩ := (State.timingLaw_iff _).1 hlaw
  have htiming : (s.numberedEffects (s.foundBy shares events)).timing
      = (s.foundBy shares events .timing).timingAfter := State.numberedEffects_timing s _
  have hports := State.numberedEffects_ports s (s.foundBy shares events)
  refine ⟨hlines, htiming ▸ hlawful, fun l => ⟨_, ?_, htiming ▸ hfollows l⟩⟩
  rw [State.FoundPort, State.port_congr hports]
  obtain ⟨c, hc, hcl, hport⟩ | ⟨hnone, hport⟩ :=
    State.foldl_rxPeriod_port (hlines.sublist (List.filter_sublist.map _)) s l
  · rw [List.mem_filter] at hc
    exact .inl ⟨c, hc.1, hcl, hc.2, hport⟩
  · refine .inr ⟨fun c hc hcl => ?_, hport⟩
    by_contra hprec
    exact hnone c (List.mem_filter.mpr ⟨hc, by simpa using hprec⟩) hcl

/-- A numbered boundary keeps the law of the Timing Unit. -/
theorem State.numberedBoundary_timingLaw {s : State} (h : s.timingLaw) (order : BoundaryOrder) :
    (s.numberedBoundary order).timingLaw := by
  unfold State.numberedBoundary
  extract_lets shares events found shared
  refine State.foldl_rxPeriod_timingLaw _ ?_
  have hshared := takeInTurn_induction (P := State.FollowsFound shares)
    State.FollowsFound.perm (State.FollowsFound.meet (before := s))
    (fun t => .share (State.takeShare_ports s _ found t) (State.takeShare_timing s _ found t)) shares events
    (State.numberedEffects_followsFound h (s.coincidences_nodup shares order.within))
  have hlaw : shared.timingLaw :=
    hshared.timingLaw (State.mem_shareOrder _ _ _) fun c hc t ht => by
      simpa using List.all_eq_true.1 (List.mem_filter.1 hc).2 t ht
  refine State.timingLaw_of_same (by simp) (fun l => ?_) hlaw
  change (shared.beginFrames.port l).rx.state = _
  rw [State.beginFrames_port, State.beginPort_rx]

end Sys2Proof.Machine
end

section
/-! SUPPORT. What an accepted Set Line, Set Reference and Move Channel make of the state (R75 to R77, R110, R175, R176). -/

namespace Sys2Proof.Machine

/-! ### Set Line -/

/-- The request's number of slots is checked (R75, check 1). -/
theorem parseSetLine_slots {l rx tx sl w la lp : Byte} {line : Line} {record : LineRecord}
    (h : parseSetLine l rx tx sl w la lp = .ok (line, record)) : 1 ≤ record.slots ∧ record.slots ≤ 64 := by
  unfold parseSetLine at h
  split at h
  case h_1 | h_2 | h_3 => cases h
  split at h
  · cases h
  next hslots =>
    split at h <;> cases h
    have : ¬ sl.toNat < 1 ∧ ¬ 64 < sl.toNat := by simpa using hslots
    exact ⟨Nat.not_lt.1 this.1, Nat.not_lt.1 this.2⟩

/-- A line of the management channel keeps its format and its sides (R75, check 2). -/
theorem State.lineRefusal_channel {s : State} {line : Line} {record : LineRecord}
    (h : s.lineRefusal line record = none) {loc : Location} (hloc : loc ∈ s.link.locations) (hl : loc.line = line) :
    record.slots = (s.port line).record.slots
      ∧ ((s.port line).record.rxOn = true → record.rxOn = true)
      ∧ ((s.port line).record.txOn = true → record.txOn = true) := by
  have hc : s.link.carries line = true := List.any_eq_true.2 ⟨loc, hloc, by simpa using hl⟩
  have hb : breaksChannel (s.port line).record record = false := by
    by_contra hb
    rw [State.lineRefusal, hc, eq_true_of_ne_false hb] at h
    cases h
  simp only [breaksChannel, Bool.or_eq_false_iff, bne_eq_false_iff_eq, Bool.and_eq_false_imp,
    Bool.not_eq_false'] at hb
  obtain ⟨⟨⟨hslots, -⟩, hrx⟩, htx⟩ := hb
  exact ⟨hslots.symm, hrx, htx⟩

section apply
variable (s : State) (line : Line) (record : LineRecord)

theorem State.applyLine_port (l : Line) :
    (s.applyLine line record).port l = if l = line then
      { s.port line with
        record := record, rx := (s.port line).rx.enabled (s.port line).record.rxOn record.rxOn }
    else s.port l := by
  rw [State.applyLine, ← State.setPort_port]
  split <;> rfl

theorem State.applyLine_timing :
    (s.applyLine line record).timing
      = if (s.port line).record.rxOn && !record.rxOn then s.timing.stopped line else s.timing := by
  rw [State.applyLine]
  split <;> rfl

/-- A receive side that keeps its setting keeps its framer (R63). -/
theorem RxFramer.enabled_same (f : RxFramer) (b : Bool) : f.enabled b b = f := by
  cases b <;> rfl

end apply

/-- An accepted Set Line leaves the management channel its lines (R60, R75). -/
theorem State.applyLine_lineLaw {s : State} {line : Line} {record : LineRecord}
    (hslots : 1 ≤ record.slots ∧ record.slots ≤ 64) (hpass : s.lineRefusal line record = none) (h : s.lineLaw) :
    (s.applyLine line record).lineLaw := by
  obtain ⟨hrange, hlocations⟩ := h
  refine ⟨fun l => ?_, fun loc hloc => ?_⟩
  · rw [State.applyLine_record]
    split
    · exact hslots
    · exact hrange l
  · rw [State.applyLine_link] at hloc
    obtain ⟨hone, hfour, hfit, hrx, htx⟩ := hlocations loc hloc
    rw [State.applyLine_record]
    split
    next hl =>
      rw [hl] at hfit hrx htx
      obtain ⟨hsame, hrxOn, htxOn⟩ := State.lineRefusal_channel hpass hloc hl
      exact ⟨hone, hfour, hsame ▸ hfit, hrxOn hrx, htxOn htx⟩
    next => exact ⟨hone, hfour, hfit, hrx, htx⟩

/-- The locked line whose receive side goes off leaves the boundary to REFCLK; one whose receive side was off had left it so before (R63, R104). -/
theorem State.applyLine_timingLaw {s : State} (line : Line) (record : LineRecord) (hoff : s.offLaw) (h : s.timingLaw) :
    (s.applyLine line record).timingLaw := by
  rw [State.timingLaw_iff] at h ⊢
  obtain ⟨hlawful, hfollows⟩ := h
  have hcounts : s.timing.CountsOn (s.applyLine line record).timing := by
    rw [State.applyLine_timing]
    split
    · exact s.timing.countsOn_stopped line
    · exact .refl _
  refine ⟨hcounts.lawful hlawful, fun l => ?_⟩
  rw [State.applyLine_port]
  by_cases hl : l = line
  · subst hl
    rw [if_pos rfl]
    cases hwas : (s.port l).record.rxOn <;> cases hnow : record.rxOn
    case true.false =>
      intro hsel
      rw [State.applyLine_timing, hwas, hnow]
      exact .inl (Timing.stopped_settled (hcounts.selector ▸ hsel))
    case false.true =>
      have hframer : (s.port l).rx.state = .off := (hoff l).2 hwas
      refine hcounts.follows fun hsel => .inl ((hfollows l hsel).resolve_right ?_)
      rw [hframer]
      exact FramerState.noConfusion
    all_goals
      refine hcounts.follows ?_
      rw [RxFramer.enabled_same]
      exact hfollows l
  · rw [if_neg hl]
    exact hcounts.follows (hfollows l)

theorem State.applyLine_keepsLines {s : State} {line : Line} {record : LineRecord}
    (hslots : 1 ≤ record.slots ∧ record.slots ≤ 64) (hpass : s.lineRefusal line record = none) :
    s.KeepsLines (s.applyLine line record) :=
  ⟨State.applyLine_lineLaw hslots hpass, State.applyLine_timingLaw line record,
    fun h => by rwa [State.openingLaw, State.applyLine_opening]⟩

/-! ### Set Reference -/

/-- The settings that Set Reference accepts are in range (R110). -/
theorem parseSetReference_ok {p q v a b : Byte} {primary : Line} {secondary : Option Line} {revertive : Bool}
    {period : Half} (h : parseSetReference p q v a b = .ok (primary, secondary, revertive, period)) :
    secondary ≠ some primary ∧ 256 ≤ period.toNat := by
  unfold parseSetReference at h
  split at h
  · cases h
  split at h
  · cases h
  split at h
  · cases h
  next hsecond =>
    split at h
    · cases h
    split at h
    · cases h
    next hperiod =>
      cases h
      exact ⟨hsecond, Nat.not_lt.1 hperiod⟩

/-- Set Reference leaves the selector, its marks and its counts as they are (R111). -/
theorem setReference_keepsLines (r : Request) (s : State) : s.KeepsLines (setReference r s) := by
  unfold setReference
  split
  case h_2 => exact .of_view (State.badLength_lineView s r)
  split
  · exact .of_view (State.answer_lineView ..)
  next hparse =>
    obtain ⟨hsecondary, hperiod⟩ := parseSetReference_ok hparse
    refine ⟨id, fun _ h => ?_, id⟩
    rw [State.timingLaw_iff] at h ⊢
    obtain ⟨⟨-, -, hqualify, hpending⟩, hfollows⟩ := h
    exact ⟨⟨hperiod, hsecondary, hqualify, hpending⟩, hfollows⟩

/-! ### Move Channel -/

/-- A location that Move Channel accepts lies within the frame of its line (R175, check 1). -/
theorem State.parseMove_ok {s : State} {l f w : Byte} {loc : Location} (h : s.parseMove l f w = .ok loc) :
    1 ≤ loc.width ∧ loc.width ≤ 4 ∧ loc.first.val + loc.width ≤ (s.port loc.line).record.slots := by
  unfold State.parseMove at h
  split at h
  case h_1 | h_2 => cases h
  next line first _ hfirst =>
    split at h
    · cases h
    next hwidth =>
      split at h
      · cases h
      next hfit =>
        cases h
        have hf : first.val = f.toNat := by
          obtain ⟨-, rfl⟩ := by simpa [slotOf] using hfirst
          rfl
        have hw : ¬ w.toNat < 1 ∧ ¬ 4 < w.toNat := by simpa using hwidth
        exact ⟨Nat.not_lt.1 hw.1, Nat.not_lt.1 hw.2, hf ▸ Nat.not_lt.1 hfit⟩

/-- A location that Move Channel accepts is on a line with both sides on (R175, check 3). -/
theorem State.moveRefusal_sides {s : State} {loc : Location} (h : s.moveRefusal loc = none) :
    (s.port loc.line).record.rxOn = true ∧ (s.port loc.line).record.txOn = true := by
  unfold State.moveRefusal at h
  extract_lets p at h
  split at h
  · cases h
  split at h
  · cases h
  split at h
  · cases h
  next hsides => simpa using hsides

/-- An accepted Move Channel adds a location to the link (R176). -/
theorem State.acceptMove_locations {s : State} {loc l : Location} (h : l ∈ (s.acceptMove loc).link.locations) :
    l = loc ∨ l ∈ s.link.locations := by
  have hlocations : (s.acceptMove loc).link.locations = s.link.current :: loc :: s.link.former.toList := rfl
  rw [hlocations] at h
  obtain rfl | h := List.mem_cons.1 h
  · exact .inr List.mem_cons_self
  obtain rfl | h := List.mem_cons.1 h
  · exact .inl rfl
  · exact .inr (List.mem_append_right (s.link.current :: s.link.pendingMove.toList) h)

/-- The location added lies within the frame of a line in service (R60, R175). -/
theorem State.acceptMove_keepsLines {s : State} {l f w : Byte} {loc : Location} (hparse : s.parseMove l f w = .ok loc)
    (hpass : s.moveRefusal loc = none) : s.KeepsLines (s.acceptMove loc) := by
  have hport : ∀ line, (s.acceptMove loc).port line = s.port line := State.port_congr (s.acceptMove_ports loc)
  refine ⟨fun ⟨hrange, hlocations⟩ => ⟨fun line => ?_, fun m hm => ?_⟩,
    fun _ => State.timingLaw_of_same (s.acceptMove_timing loc) fun line => by rw [hport],
    fun h => by rwa [State.openingLaw, State.acceptMove_opening]⟩
  · rw [hport]
    exact hrange line
  · rw [hport]
    obtain rfl | hold := State.acceptMove_locations hm
    · obtain ⟨hone, hfour, hfit⟩ := State.parseMove_ok hparse
      exact ⟨hone, hfour, hfit, State.moveRefusal_sides hpass⟩
    · exact hlocations m hold

end Sys2Proof.Machine
end

section
/-! CERTIFICATE. Every command keeps the laws of the lines, of the Timing Unit and of the record of shares (R60, R98, R102 to R105, log 6): StepsKeepTheLineAndTimingLaws. -/

namespace Sys2Proof.Machine

/-! ### Restarts -/

/-- After a full restart the control line is in service, alone, and the Timing Unit is FREE (R80, R113, R185). -/
theorem State.fullRestart_keepsLines (s : State) (straps : Straps) (cause : RestartCause) (held : Bool) :
    s.KeepsLines (s.fullRestart straps cause held) := by
  refine ⟨fun _ => ⟨fun l => ?_, fun loc hloc => ?_⟩, fun _ _ => ?_, fun _ _ => rfl⟩
  · rw [State.fullRestart_port, restartPort_record]
    (repeat' split) <;> decide
  · obtain rfl : loc = strapLocation straps := by
      simpa [State.fullRestart, restartLink, Link.locations] using hloc
    have hwidth : 1 ≤ (strapLocation straps).width ∧ (strapLocation straps).width ≤ 2 := by
      simp only [strapLocation]
      split <;> decide
    have hslots : 2 ≤ strapSlots straps.ctlFmt := by
      unfold strapSlots
      (repeat' split) <;> decide
    have hrecord : (restartPort straps (strapLocation straps).line).record
        = { rxOn := true, txOn := true, slots := strapSlots straps.ctlFmt, width := strapWidth straps.ctlFmt
            loss := .fill, lossPattern := 0 } := by
      simp [restartPort, strapLocation]
    rw [State.fullRestart_port, hrecord]
    have hfit : 0 + (strapLocation straps).width ≤ strapSlots straps.ctlFmt := by omega
    exact ⟨hwidth.1, hwidth.2.trans (by decide), hfit, rfl, rfl⟩
  · refine (State.timingLaw_iff _).2 ⟨⟨?_, ?_, fun l => ?_, ?_⟩, fun l hsel => ?_⟩
    · exact (by decide : 256 ≤ Config.resetFreePeriod.toNat)
    · exact nofun
    · simp [State.fullRestart, restartTiming]
    · exact nofun
    · cases hsel

/-! ### Shares taken ahead of the boundary -/

/-- An act that takes a share ahead gives lines and link no more to keep, and the record of shares is open (log 6). -/
theorem State.KeepsLines.of_ahead {s t : State} (hopen : t.opening.isOpen = true) (hn : s.Narrows t)
    (ht : s.timingLaw → t.timingLaw) : s.KeepsLines t :=
  ⟨State.lineLaw_of_narrows hn.records hn.locations, fun _ => ht,
    fun _ hclosed => absurd hclosed (by rw [hopen]; exact Bool.noConfusion)⟩

theorem State.mcShare_keepsLines (s : State) : s.KeepsLines s.mcShare :=
  .of_ahead rfl (.of_same s.mcShare_ports (by rw [State.mcShare_link]))
    (State.timingLaw_countsOn (by rw [State.mcShare_timing]; exact .refl _) s.mcShare_ports)

theorem State.timingShare_keepsLines (s : State) : s.KeepsLines s.timingShare :=
  .of_ahead (by simp [State.timingShare]) (.of_same s.timingShare_ports (by rw [State.timingShare_link]))
    State.timingShare_timingLaw

/-- The link's share ahead is the boundary's as far as these laws go (R165). -/
theorem State.linkShare_keepsLines {inbound : State → State} (hn : ∀ u : State, u.Narrows (inbound u))
    (hports : ∀ u, (inbound u).ports = u.ports) (htiming : ∀ u, (inbound u).timing = u.timing) (s : State) :
    s.KeepsLines (s.linkShare inbound) :=
  .of_ahead rfl (State.linkShare_narrows hn s)
    (State.timingLaw_countsOn (by rw [State.linkShare_timing _ _ htiming]; exact .refl _)
      (State.linkShare_ports _ _ hports))

theorem State.readShare_keepsLines (s : State) : s.KeepsLines (s.linkShare State.readFrame) :=
  State.linkShare_keepsLines State.readFrame_narrows State.readFrame_ports State.readFrame_timing s

theorem State.deliveringShare_keepsLines (s : State) (seq kind : Byte) (payload : List Byte) :
    s.KeepsLines (s.linkShare (State.delivering seq kind payload)) :=
  State.linkShare_keepsLines (fun u => u.delivering_narrows _ _ _) (fun u => u.delivering_ports _ _ _)
    (fun u => u.delivering_timing _ _ _) s

/-! ### Bit periods and boundaries -/

theorem State.rxPeriods_keepsLines (s : State) (line : Line) (xs : List RxSample) :
    s.KeepsLines (s.rxPeriods line xs) := by
  unfold State.rxPeriods
  split
  · exact .refl s
  have hopening : (xs.foldl (fun t x => t.rxPeriod line x) s).opening = s.opening :=
    foldl_keeps State.opening _ (fun t x => t.rxPeriod_opening line x) xs s
  have hn := State.foldl_narrows (fun (t : State) x => t.rxPeriod_narrows line x) xs s
  refine ⟨State.lineLaw_of_narrows hn.records hn.locations, fun _ h => ?_,
    fun h => by rwa [State.openingLaw, hopening]⟩
  simpa only [List.foldl_map] using State.foldl_rxPeriod_timingLaw (xs.map fun x => ⟨line, x, none⟩) h

theorem State.numberedBoundary_opening (s : State) (order : BoundaryOrder) :
    (s.numberedBoundary order).opening = closedOpening :=
  foldl_keeps State.opening (fun t (c : Coincidence) => t.rxPeriod c.line c.sample)
    (fun t c => t.rxPeriod_opening c.line c.sample) _ _

theorem State.numberedBoundary_keepsLines (s : State) (order : BoundaryOrder) :
    s.KeepsLines (s.numberedBoundary order) :=
  have hn := s.numberedBoundary_narrows order
  ⟨State.lineLaw_of_narrows hn.records hn.locations, fun _ h => State.numberedBoundary_timingLaw h order,
    fun _ _ => s.numberedBoundary_opening order⟩

theorem State.takeBoundary_keepsLines (s : State) (order : BoundaryOrder) : s.KeepsLines (s.takeBoundary order) :=
  .ite (s.fullRestart_keepsLines _ _ _) (s.numberedBoundary_keepsLines order)

/-- An act of the Timing Unit alone that counts on. -/
theorem State.KeepsLines.of_countsOn {s : State} {t : Timing} (h : s.timing.CountsOn t) : s.KeepsLines (s.withTiming t) :=
  ⟨id, fun _ => State.timingLaw_countsOn h rfl, id⟩

/-- The transmit framer's bit periods leave the receive framer alone (R70). -/
theorem LinePort.txPeriods_rx (n : Nat) (p : LinePort) : (LinePort.txPeriods n p).rx = p.rx := by
  induction n generalizing p with
  | zero => rfl
  | succ n ih =>
    rw [LinePort.txPeriods, ih]
    unfold LinePort.txPeriod
    (repeat' split) <;> rfl

/-! ### Every command -/

/-- A row keeps the laws where carrying out the request it takes does (R149). -/
theorem State.serve_keepsLines (s : State) (test : Request → Bool) {carry : Request → State → State}
    (h : ∀ r t, State.KeepsLines t (carry r t)) : s.KeepsLines (s.serve test carry) := by
  obtain hs | ⟨r, rest, -, -, hs⟩ := s.serve_cases test carry
  · rw [hs]; exact .refl s
  · rw [hs]
    exact State.KeepsLines.trans (t := s.taken rest) id (.of_view rfl) (h r _)

/-- A row whose request changes nothing the laws read keeps them. -/
theorem State.serve_keepsLines_of_view (s : State) (test : Request → Bool) {carry : Request → State → State}
    (h : ∀ r t, (carry r t).lineView = t.lineView) : s.KeepsLines (s.serve test carry) :=
  s.serve_keepsLines test fun r t => .of_view (h r t)

theorem setLine_keepsLines (r : Request) (s : State) : s.KeepsLines (setLine r s) := by
  unfold setLine
  split
  case h_2 => exact .of_view (State.badLength_lineView s r)
  split
  · exact .of_view (State.answer_lineView ..)
  next hparse =>
    split
    · exact .of_view (State.answer_lineView ..)
    next hpass =>
      have happly := State.applyLine_keepsLines (parseSetLine_slots hparse) hpass
      exact ⟨happly.line, happly.timing, happly.opening⟩

/-- An accepted Move Channel's answer changes nothing these laws read (R150). -/
theorem moveChannel_keepsLines (r : Request) (s : State) : s.KeepsLines (moveChannel r s) := by
  unfold moveChannel
  split
  case h_2 => exact .of_view (State.badLength_lineView s r)
  split
  · exact .of_view (State.answer_lineView ..)
  next hparse =>
    split
    · exact .of_view (State.answer_lineView ..)
    next hpass =>
      have hmove := State.acceptMove_keepsLines hparse hpass
      exact ⟨hmove.line, hmove.timing, hmove.opening⟩

/-- Every command keeps the laws of the lines, of the Timing Unit and of the record of shares. -/
theorem exec_keepsLines {c : Instr} {s t : State} (h : exec c s = .next t) : s.KeepsLines t := by
  cases c <;> cases h
  case powerUp => exact s.fullRestart_keepsLines _ _ _
  case restartN => exact s.fullRestart_keepsLines _ _ _
  case restartNRelease => exact .ite (s.fullRestart_keepsLines _ _ _) (.refl s)
  case fullRestartBoundary => exact .ite (s.fullRestart_keepsLines _ _ _) (.refl s)
  case boundary order =>
    have hpoint : s.KeepsLines s.pointTaken := .of_countsOn s.timing.countsOn_point
    exact .ite (s.takeBoundary_keepsLines order)
      (.ite (.trans (t := s.pointTaken) id hpoint (s.pointTaken.takeBoundary_keepsLines order)) (.refl s))
  case txFrameEnd line periods =>
    exact .of_view (State.setPort_lineView (by rw [LinePort.txPeriods_record]) (by rw [LinePort.txPeriods_rx]))
  case stall => exact .ite ⟨id, fun _ => id, id⟩ (.refl s)
  case copyComplete =>
    split
    · exact .ite s.mcShare_keepsLines (.refl s)
    · exact .refl s
  case clearComplete =>
    split
    · exact .ite s.mcShare_keepsLines (.refl s)
    · exact .refl s
  case takePendingSwap =>
    split
    · exact .ite s.mcShare_keepsLines (.refl s)
    · exact .refl s
  case scheduleFiring => exact .ite s.timingShare_keepsLines (.refl s)
  case requestIntake => exact .ite (s.deliveringShare_keepsLines _ _ _) (.refl s)
  case noticeAck => exact .ite (s.deliveringShare_keepsLines _ _ _) (.refl s)
  case foreignKind => exact .ite (s.deliveringShare_keepsLines _ _ _) (.refl s)
  case messageEnd => exact .ite s.readShare_keepsLines (.refl s)
  case channelSwitch => exact .ite s.readShare_keepsLines (.refl s)
  case trialTimeout => exact .ite s.readShare_keepsLines (.refl s)
  case lineLostRevert => exact .ite s.readShare_keepsLines (.refl s)
  case retransmitTimeout => exact .ite (.of_ahead rfl (.of_same rfl rfl) id) (.refl s)
  case pulse => exact s.rxPeriods_keepsLines _ _
  case flywheelFrameEnd => exact s.rxPeriods_keepsLines _ _
  case setLine => exact s.serve_keepsLines _ setLine_keepsLines
  case setReference => exact s.serve_keepsLines _ setReference_keepsLines
  case moveChannel => exact s.serve_keepsLines _ moveChannel_keepsLines
  case copyPage => exact s.serve_keepsLines_of_view _ fun r t => pageRequest_lineView r t rfl
  case clearPage => exact s.serve_keepsLines_of_view _ fun r t => pageRequest_lineView r t rfl
  case swapPages => exact s.serve_keepsLines_of_view _ fun r t => pageRequest_lineView r t rfl
  -- the other rows report, or set what these laws do not read
  all_goals exact s.serve_keepsLines_of_view _ fun r t => by simp

/-- Every step keeps these laws: the command at the front of the queue does, and so does a REFCLK period (R101). -/
theorem step_keepsLines {s t : State} (h : step s = .next t) : s.KeepsLines t := by
  unfold step at h
  split at h
  next rest _ =>
    exact .trans (t := s.withPending rest) id (.of_view (s.withPending_lineView _)) (exec_keepsLines h)
  next =>
    cases h
    exact .ite (.refl s) (.of_countsOn s.timing.countsOn_refclk)

/-- Settles O55: what every command does to the laws (`exec_keepsLines`), command by command. -/
theorem stepsKeepTheLineAndTimingLaws : Obligations.StepsKeepTheLineAndTimingLaws :=
  ⟨fun _ _ hl hs => (step_keepsLines hs).line hl,
    fun _ _ ⟨hstore, ht⟩ hs => (step_keepsLines hs).timing hstore.offLaw ht,
    fun _ _ ho hs => (step_keepsLines hs).opening ho⟩

end Sys2Proof.Machine
end

section
/-! SUPPORT. The checks of Set Line one by one, and what an accepted one writes (R63, R74 to R77, R93, R104). -/

namespace Sys2Proof.Machine

/-! ### Check 1: the fields -/

/-- A record in range is read back from its seven octets (R74, R204). -/
theorem parseSetLine_octets {record : LineRecord} (hone : 1 ≤ record.slots) (hmax : record.slots ≤ 64) (line : Line) :
    parseSetLine (octet line.val) (flagOctet record.rxOn) (flagOctet record.txOn) (octet record.slots)
      (octet record.width.bits) record.loss.code (octet record.lossPattern.val) = .ok (line, record) := by
  have hslots : (octet record.slots).toNat = record.slots := by
    rw [octet, BitVec.toNat_ofNat, Nat.mod_eq_of_lt (by omega)]
  have hrange : ¬ ((record.slots < 1 || 64 < record.slots) = true) := by
    rw [Bool.or_eq_true, decide_eq_true_eq, decide_eq_true_eq]
    omega
  have hline : lineOf (octet line.val) = some line := lineOf_octet line
  have hflag : ∀ b, flagOf (flagOctet b) = some b := flagOf_octet
  have hwidth : widthOf (octet record.width.bits) = some record.width := widthOf_octet _
  have hpattern : patternOf (octet record.lossPattern.val) = some record.lossPattern := patternOf_octet _
  simp only [parseSetLine, hline, hflag, hwidth, lossOf_octet, hpattern, hslots, if_neg hrange]

theorem lineOf_isSome (b : Byte) : (lineOf b).isSome = decide (b.toNat ≤ 7) := by
  revert b; decide

theorem flagOf_isSome (b : Byte) : (flagOf b).isSome = decide (b.toNat ≤ 1) := by
  revert b; decide

theorem widthOf_isSome (b : Byte) : (widthOf b).isSome = decide (b.toNat ∈ [8, 16, 24, 32]) := by
  revert b; decide

theorem lossOf_isSome (b : Byte) : (lossOf b).isSome = decide (b.toNat ≤ 1) := by
  revert b; decide

theorem patternOf_isSome (b : Byte) : (patternOf b).isSome = decide (b.toNat ≤ 15) := by
  revert b; decide

/-- The place reported is that of the first field out of range, in the order of the request (R75). -/
theorem parseSetLine_error {l rx tx sl w la lp : Byte} {place : Nat}
    (h : [(lineOf l).isSome, (flagOf rx).isSome, (flagOf tx).isSome, decide (1 ≤ sl.toNat ∧ sl.toNat ≤ 64),
      (widthOf w).isSome, (lossOf la).isSome, (patternOf lp).isSome].idxOf? false = some place) :
    parseSetLine l rx tx sl w la lp = .error place := by
  have hslots : (sl.toNat < 1 || 64 < sl.toNat) = !decide (1 ≤ sl.toNat ∧ sl.toNat ≤ 64) := by
    rw [Bool.eq_iff_iff]
    simp only [Bool.or_eq_true, Bool.not_eq_true', decide_eq_true_eq, decide_eq_false_iff_not]
    omega
  rw [parseSetLine, hslots]
  generalize lineOf l = line?, flagOf rx = rx?, flagOf tx = tx?, decide (1 ≤ sl.toNat ∧ sl.toNat ≤ 64) = inRange,
    widthOf w = width?, lossOf la = loss?, patternOf lp = pattern? at h ⊢
  match line?, rx?, tx?, inRange, width?, loss?, pattern? with
  | none, _, _, _, _, _, _ => simpa [List.idxOf?_cons] using h
  | some _, none, _, _, _, _, _ => simpa [List.idxOf?_cons] using h
  | some _, some _, none, _, _, _, _ => simpa [List.idxOf?_cons] using h
  | some _, some _, some _, false, _, _, _ => simpa [List.idxOf?_cons] using h
  | some _, some _, some _, true, none, _, _ => simpa [List.idxOf?_cons] using h
  | some _, some _, some _, true, some _, none, _ => simpa [List.idxOf?_cons] using h
  | some _, some _, some _, true, some _, some _, none => simpa [List.idxOf?_cons] using h
  | some _, some _, some _, true, some _, some _, some _ => simp [List.idxOf?_cons] at h

/-! ### Checks 2 to 4 -/

theorem Link.carries_iff (k : Link) (line : Line) : k.carries line = true ↔ ∃ loc ∈ k.locations, loc.line = line := by
  simp [Link.carries]

theorem breaksChannel_iff (old new : LineRecord) :
    breaksChannel old new = true ↔ (new.slots ≠ old.slots ∨ new.width ≠ old.width)
      ∨ (old.rxOn = true ∧ new.rxOn = false) ∨ (old.txOn = true ∧ new.txOn = false) := by
  simp [breaksChannel, or_assoc, eq_comm (a := new.slots) (b := old.slots), eq_comm (a := new.width) (b := old.width)]

/-- The format of a record is the number of its slots and their width (R60). -/
theorem formatDiffers_iff (old new : LineRecord) :
    (old.slots != new.slots || old.width != new.width) = true
      ↔ new.slots ≠ old.slots ∨ new.width ≠ old.width := by
  simp [eq_comm (a := new.slots) (b := old.slots), eq_comm (a := new.width) (b := old.width)]

theorem LineRecord.sidesOn_eq_zero (record : LineRecord) :
    record.sidesOn = 0 ↔ record.rxOn = false ∧ record.txOn = false := by
  rw [LineRecord.sidesOn]
  generalize record.rxOn = rx, record.txOn = tx
  revert rx tx
  decide

theorem LineRecord.sidesOn_eq (record : LineRecord) (h : record.rxOn = true ∨ record.txOn = true) :
    record.sidesOn = if record.rxOn = true ∧ record.txOn = true then 3 else if record.rxOn = true then 1 else 2 := by
  rw [LineRecord.sidesOn]
  generalize record.rxOn = rx, record.txOn = tx at h ⊢
  revert rx tx
  decide

/-- Some entry of the transmit line takes its source from `line` at or above `slots` (R76, check 4). -/
theorem Switch.lineHas_namesBeyond (w : Switch) (line l : Line) (slots : Nat) :
    w.lineHas (Entry.namesBeyond line slots) l = true
      ↔ ∃ (name : PageName) (t u : Slot) (justify : Justify),
          entryAt (w.page name) l t = .slot line u justify ∧ slots ≤ u.val := by
  have hname : ∀ e : Entry, Entry.namesBeyond line slots e = true
      ↔ ∃ (u : Slot) (justify : Justify), e = .slot line u justify ∧ slots ≤ u.val := fun e => by
    cases e <;> simp [Entry.namesBeyond]
  have hpage : ∀ p : Page, (p[l]).toList.any (Entry.namesBeyond line slots) = true
      ↔ ∃ (t u : Slot) (justify : Justify), entryAt p l t = .slot line u justify ∧ slots ≤ u.val := fun p => by
    simp only [List.any_eq_true, hname, Vector.mem_toList_iff, Vector.mem_iff_getElem]
    constructor
    · rintro ⟨_, ⟨i, hi, rfl⟩, h⟩
      exact ⟨⟨i, hi⟩, h⟩
    · rintro ⟨t, h⟩
      exact ⟨_, ⟨t.val, t.isLt, rfl⟩, h⟩
  rw [Switch.lineHas, Bool.or_eq_true, hpage, hpage]
  constructor
  · rintro (h | h)
    · exact ⟨.a, h⟩
    · exact ⟨.b, h⟩
  · rintro ⟨name, h⟩
    cases name with
    | a => exact .inl h
    | b => exact .inr h

/-- The first of the lines in order that passes a test. -/
theorem find?_finRange_eq_some {n : Nat} {test : Fin n → Bool} {i : Fin n} (hi : test i = true)
    (hfirst : ∀ j, j < i → test j = false) : (List.finRange n).find? test = some i := by
  rw [List.find?_eq_some_iff_getElem]
  refine ⟨hi, i.val, by simp, by simp, fun j hj => ?_⟩
  simpa using hfirst ⟨j, hj.trans i.isLt⟩ hj

section refusal
variable {s : State} {line : Line} {record : LineRecord}

/-- Check 2 refuses (R75). -/
theorem State.lineRefusal_reserved (hchannel : s.link.carries line = true)
    (hbreaks : breaksChannel (s.port line).record record = true) :
    s.lineRefusal line record = some (.reserved, 0) := by
  simp [State.lineRefusal, hchannel, hbreaks]

/-- Check 3 refuses (R76). -/
theorem State.lineRefusal_lineActive (hchannel : s.link.carries line = false)
    (hformat : record.slots ≠ (s.port line).record.slots ∨ record.width ≠ (s.port line).record.width)
    (hsides : (s.port line).record.sidesOn ≠ 0) :
    s.lineRefusal line record = some (.lineActive, (s.port line).record.sidesOn) := by
  have hdiffers := (formatDiffers_iff (s.port line).record record).2 hformat
  simp only [State.lineRefusal, hchannel, hdiffers, Bool.false_and, Bool.true_and, Bool.false_eq_true, if_false]
  exact if_pos (bne_iff_ne.2 hsides)

/-- With checks 2 and 3 passed, check 4 looks for an entry that the shorter frame would cut off (R76). -/
theorem State.lineRefusal_sources
    (hchannel : s.link.carries line = true → breaksChannel (s.port line).record record = false)
    (hformat : record.slots ≠ (s.port line).record.slots ∨ record.width ≠ (s.port line).record.width →
      (s.port line).record.sidesOn = 0) :
    s.lineRefusal line record = if record.slots < (s.port line).record.slots then
      (s.switch.lowestLine (Entry.namesBeyond line record.slots)).map fun l => (.inUse, l.val) else none := by
  have hone : (s.link.carries line && breaksChannel (s.port line).record record) = false := by
    simpa using hchannel
  have htwo : ((((s.port line).record.slots != record.slots || (s.port line).record.width != record.width)
      && (s.port line).record.sidesOn != 0)) = false := by
    rw [Bool.and_eq_false_imp, formatDiffers_iff]
    intro h
    rw [hformat h]
    rfl
  simp only [State.lineRefusal, hone, htwo, Bool.false_eq_true, if_false]

end refusal

/-! ### What an accepted one writes -/

/-- The record, and beside it what a receive side turned on or off brings with it; nothing else changes (R63, R77, R93, R104). -/
theorem State.applyLine_eq (s : State) (line : Line) (record : LineRecord) :
    s.applyLine line record = { s with
      ports := s.ports.set line
        { s.port line with
          record := record, rx := (s.port line).rx.enabled (s.port line).record.rxOn record.rxOn }
      stores :=
        if (s.port line).record.rxOn && !record.rxOn then s.stores.set line (s.store line).disable else s.stores
      timing := if (s.port line).record.rxOn && !record.rxOn then s.timing.stopped line else s.timing } := by
  rw [State.applyLine]
  split <;> rfl

/-- The receive framer starts afresh where its side is turned off or on (R63). -/
theorem RxFramer.enabled_eq (f : RxFramer) (was now : Bool) :
    f.enabled was now = if was = true ∧ now = false then emptyFramer .off
      else if was = false ∧ now = true then emptyFramer .hunt else f := by
  cases was <;> cases now <;> rfl

/-- The same in the words of the rules: the Timing Unit's part is that of R104. -/
theorem State.applyLine_written (s : State) (line : Line) (record : LineRecord) :
    let off := (s.port line).record.rxOn = true ∧ record.rxOn = false
    s.applyLine line record = { s with
      ports := s.ports.set line
        { s.port line with
          record := record
          rx := if off then emptyFramer .off
            else if (s.port line).record.rxOn = false ∧ record.rxOn = true then emptyFramer .hunt
            else (s.port line).rx }
      stores := if off then s.stores.set line (s.store line).disable else s.stores
      timing :=
        if off ∧ s.timing.selector.line = some line ∧ s.timing.pointReached = false
            ∧ s.timing.offLine = none ∧ s.timing.refclk < 2 * s.timing.periodInForce.toNat then
          { s.timing with offLine := some s.timing.refclk }
        else s.timing } := by
  intro off
  have hoff : ((s.port line).record.rxOn && !record.rxOn) = true ↔ off := by simp [off]
  rw [State.applyLine_eq, RxFramer.enabled_eq, Timing.stopped_eq]
  by_cases h : off
  · simp only [hoff, h, true_and, if_true, if_pos (show _ ∧ _ from h)]
  · simp only [hoff, h, false_and, if_false, if_neg (show ¬(_ ∧ _) from h)]

/-! ### The request as a whole -/

section request
variable {s : State} {r : Request} {line : Line} {record : LineRecord}

/-- A Set Line whose fields are in range. -/
def Request.setsLine (r : Request) (line : Line) (record : LineRecord) : Prop :=
  1 ≤ record.slots ∧ record.slots ≤ 64 ∧ r.payload = octet line.val :: record.octets

theorem setLine_refused (hr : r.setsLine line record) {status : Status} {detail : Nat}
    (h : s.lineRefusal line record = some (status, detail)) : setLine r s = s.answer r status [octet detail] := by
  obtain ⟨hone, hmax, hpayload⟩ := hr
  simp only [setLine, hpayload, LineRecord.octets, parseSetLine_octets hone hmax, h]

theorem setLine_accepted (hr : r.setsLine line record) (h : s.lineRefusal line record = none) :
    setLine r s = (s.applyLine line record).answer r .ok (octet line.val :: record.octets) := by
  obtain ⟨hone, hmax, hpayload⟩ := hr
  simp only [setLine, hpayload, LineRecord.octets, parseSetLine_octets hone hmax, h]

theorem exec_setLine {rest : List Request} (h : s.takes r rest) (hk : r.kind = 0x08) :
    exec .setLine s = .next (setLine r (s.taken rest)) :=
  congrArg _ (State.serve_takes h (ofKind_true hk))

end request

end Sys2Proof.Machine
end

section
/-! CERTIFICATE. Set Line: SetLineWritesTheRecord. -/

namespace Sys2Proof.Machine

section request
variable {s : State} {r : Request} {rest : List Request} {line : Line} {record : LineRecord}

/-- A refusal by checks 2 to 4 changes nothing but the engine (R75, R76). -/
theorem exec_setLine_refused (ht : s.takes r rest) (hk : r.kind = 0x08) (hr : r.setsLine line record)
    {status : Status} {detail : Nat} (h : s.lineRefusal line record = some (status, detail)) :
    exec .setLine s = .next (s.answered r rest status [BitVec.ofNat 8 detail]) := by
  rw [exec_setLine ht hk, setLine_refused (s := s.taken rest) hr h, State.taken_answer]
  rfl

/-- An accepted Set Line is the change of the record, answered (R77). -/
theorem exec_setLine_accepted (ht : s.takes r rest) (hk : r.kind = 0x08) (hr : r.setsLine line record)
    (h : s.lineRefusal line record = none) :
    exec .setLine s
      = .next ((s.applyLine line record).answered r rest .ok (octet line.val :: record.octets)) := by
  have htaken : (s.taken rest).applyLine line record = (s.applyLine line record).taken rest := by
    rw [State.applyLine_eq, State.applyLine_eq]
    rfl
  rw [exec_setLine ht hk, setLine_accepted (s := s.taken rest) hr h, htaken, State.taken_answer]

end request

/-- What check 1 refuses changes nothing but the engine (R75). -/
theorem exec_setLine_badValue {s : State} {r : Request} {rest : List Request} (ht : s.takes r rest)
    (hk : r.kind = 0x08) {l rx tx sl w la lp : Byte} (hp : r.payload = [l, rx, tx, sl, w, la, lp]) {place : Nat}
    (h : parseSetLine l rx tx sl w la lp = .error place) :
    exec .setLine s = .next (s.answered r rest .badValue [BitVec.ofNat 8 place]) := by
  rw [exec_setLine ht hk]
  simp only [setLine, hp, h]
  rw [State.taken_answer]
  rfl

/-- Settles O43: check 1 by the place of the first field out of range, checks 2 to 4 one by one, and with all passed `State.applyLine_eq`. -/
theorem setLineWritesTheRecord : Obligations.SetLineWritesTheRecord := by
  unfold Obligations.SetLineWritesTheRecord
  refine ⟨?_, ?_, ?_⟩
  · intro s r rest line record ht hk hone hmax p old data hp hchannel hformat hsource off
    have hpass : s.lineRefusal line record = none := by
      rw [State.lineRefusal_sources]
      · split
        next hlt =>
          rw [Option.map_eq_none_iff, Switch.lowestLine, List.find?_eq_none]
          intro l _ hl
          obtain ⟨name, t, u, justify, hentry, hbeyond⟩ := (Switch.lineHas_namesBeyond _ _ _ _).1 hl
          exact absurd (hsource hlt name l t u justify hentry) (Nat.not_lt.2 hbeyond)
        next => rfl
      · intro hcarries
        obtain ⟨loc, hloc, hl⟩ := (Link.carries_iff _ _).1 hcarries
        obtain ⟨hslots, hwidth, hrx, htx⟩ := hchannel loc hloc hl
        by_contra hbreaks
        obtain (h | h) | ⟨h, h'⟩ | ⟨h, h'⟩ := (breaksChannel_iff _ _).1 (eq_true_of_ne_false hbreaks)
        · exact h hslots
        · exact h hwidth
        · exact absurd (hrx h) (by rw [h']; exact Bool.false_ne_true)
        · exact absurd (htx h) (by rw [h']; exact Bool.false_ne_true)
      · intro h
        exact (LineRecord.sidesOn_eq_zero _).2 (hformat h)
    rw [exec_setLine_accepted ht hk ⟨hone, hmax, hp⟩ hpass, State.applyLine_written]
    rfl
  · intro s r rest line record ht hk hone hmax old hp format channel breaks beyond
    have hr : r.setsLine line record := ⟨hone, hmax, hp⟩
    have hcarries : ¬ channel → s.link.carries line = false := fun h => by
      by_contra hc
      exact h ((Link.carries_iff _ _).1 (eq_true_of_ne_false hc))
    refine ⟨fun hc hb => ?_, fun hc hf hsides => ?_, fun lowest hc hrx htx hlt hlowest hfirst => ?_⟩
    · exact exec_setLine_refused ht hk hr
        (State.lineRefusal_reserved ((Link.carries_iff _ _).2 hc) ((breaksChannel_iff _ _).2 hb))
    · have hon : old.sidesOn ≠ 0 := fun h => by
        obtain ⟨hrx, htx⟩ := (LineRecord.sidesOn_eq_zero _).1 h
        simp [hrx, htx] at hsides
      rw [exec_setLine_refused ht hk hr (State.lineRefusal_lineActive (hcarries hc) hf hon),
        LineRecord.sidesOn_eq _ hsides, apply_ite (BitVec.ofNat 8), apply_ite (BitVec.ofNat 8)]
      rfl
    · refine exec_setLine_refused ht hk hr ?_
      have hfind : s.switch.lowestLine (Entry.namesBeyond line record.slots) = some lowest :=
        find?_finRange_eq_some ((Switch.lineHas_namesBeyond _ _ _ _).2 hlowest) fun l hl => by
          by_contra hbeyond
          exact hfirst l hl ((Switch.lineHas_namesBeyond _ _ _ _).1 (eq_true_of_ne_false hbeyond))
      rw [State.lineRefusal_sources (fun h => by rw [hcarries hc] at h; cases h)
        fun _ => (LineRecord.sidesOn_eq_zero _).2 ⟨hrx, htx⟩, if_pos hlt, hfind]
      rfl
  · intro s r rest line rx tx slots width loss pattern place ht hk hp hplace
    refine exec_setLine_badValue ht hk hp (parseSetLine_error ?_)
    rw [lineOf_isSome, flagOf_isSome, flagOf_isSome, widthOf_isSome, lossOf_isSome, patternOf_isSome]
    exact hplace

end Sys2Proof.Machine
end

section
/-! SUPPORT. The laws of the elastic stores, read of one line's port and store, and what a bit period, a boundary, a Set Line and a full restart do to them (R46, R61, R63, R68, R80, R84 to R88, R92 to R94). -/

namespace Sys2Proof.Machine

/-! ### The laws, line by line -/

/-- The law of the elastic stores at one line (R63, R84, R93). -/
structure Store.Lawful (p : LinePort) (e : Store) : Prop where
  capacity : e.unread.length ≤ 2
  idle : p.rx.state ≠ .aligned → e.unread = [] ∧ e.taken = false
  off : p.rx.state = .off ↔ p.record.rxOn = false
  current : p.record.rxOn = false → e.current = none

/-- The law of the stored frames' format at one line (R46, R61, R63, R93). -/
structure Store.Formatted (p : LinePort) (e : Store) : Prop where
  slots : 1 ≤ p.record.slots
  unread : ∀ frame ∈ e.unread, p.record.fits frame
  current : ∀ frame ∈ e.current.toList, p.record.fits frame
  bits : p.rx.bits.length ≤ p.record.frameBits
  off : p.rx.state = .off ↔ p.record.rxOn = false
  empty : p.rx.state = .off → p.rx.bits = [] ∧ e.unread = [] ∧ e.current = none

/-- This holds of the port and the store of every line. -/
def State.EveryLine (P : LinePort → Store → Prop) (s : State) : Prop :=
  ∀ l : Line, P (s.port l) (s.store l)

theorem State.storeLaw_iff (s : State) : s.storeLaw ↔ s.EveryLine Store.Lawful :=
  forall_congr' fun _ => ⟨fun ⟨hcapacity, hidle, hoff, hcurrent⟩ => ⟨hcapacity, hidle, hoff, hcurrent⟩,
    fun ⟨hcapacity, hidle, hoff, hcurrent⟩ => ⟨hcapacity, hidle, hoff, hcurrent⟩⟩

theorem State.formatLaw_iff (s : State) : s.formatLaw ↔ s.EveryLine Store.Formatted :=
  forall_congr' fun _ => ⟨fun ⟨h1, h2, h3, h4, h5, h6⟩ => ⟨h1, h2, h3, h4, h5, h6⟩,
    fun ⟨h1, h2, h3, h4, h5, h6⟩ => ⟨h1, h2, h3, h4, h5, h6⟩⟩

/-! ### What can happen to a line -/

/-- The port of a line after Set Line has written its record (R63, R77). -/
def LinePort.written (p : LinePort) (record : LineRecord) : LinePort :=
  { p with record := record, rx := p.rx.enabled p.record.rxOn record.rxOn }

/-- The store of a line after Set Line has written the line's record (R93). -/
def Store.written (e : Store) (old record : LineRecord) : Store :=
  if old.rxOn && !record.rxOn then e.disable else e

/-- Set Line lets the record through: it has a slot, and a new format finds the receive side off (R75, R76). -/
structure LineRecord.Replaces (record old : LineRecord) : Prop where
  slots : 1 ≤ record.slots
  format : old.rxOn = true → record.slots = old.slots ∧ record.width = old.width

/-- A property of a line's port and store that whatever happens to a line keeps. -/
structure LineInvariant (P : LinePort → Store → Prop) : Prop where
  /-- It reads the record, the receive framer, the frames and the mark of R84 alone. -/
  reads : ∀ {p p' e e'}, p'.record = p.record → p'.rx = p.rx → e'.unread = e.unread →
    e'.current = e.current → e'.taken = e.taken → P p e → P p' e'
  /-- A bit period (R62). -/
  sampled : ∀ {p e} x, P p e → P (p.sampled x) (e.after p.record (p.outcome x).2)
  /-- The store's share of a boundary (R86). -/
  boundary : ∀ {p e} lock, P p e → P p (e.boundary lock p.record.loss)
  /-- A Set Line (R77). -/
  written : ∀ {p e record}, record.Replaces p.record → P p e →
    P (p.written record) (e.written p.record record)
  /-- A full restart (R80, R97). -/
  restart : ∀ straps line, P (restartPort straps line) restartStore

/-! ### A bit period at the framer -/

/-- All that a bit period can make of a framer, as far as its state goes (R62 to R67). -/
inductive RxFramer.Becomes (f : RxFramer) (len : Nat) : RxFramer × FramerAct → Prop
  | off : f.state = .off → Becomes f len (f, .quiet)
  | seeks {g : RxFramer} : f.state ≠ .off → f.state ≠ .aligned → g.state ≠ .off → g.state ≠ .aligned →
      Becomes f len (g, .quiet)
  | gains {g : RxFramer} : f.state ≠ .off → f.state ≠ .aligned → g.state = .aligned → Becomes f len (g, .gained)
  | collects {g : RxFramer} : f.state = .aligned → g.state = .aligned → Becomes f len (g, .quiet)
  | ends {g : RxFramer} : f.state = .aligned → len ≤ f.bits.length → g.state = .aligned →
      Becomes f len (g, .frameEnd f.bits)
  | loses {g : RxFramer} : f.state = .aligned → g.state = .hunt → Becomes f len (g, .lost)

section framer
variable {f : RxFramer} {len : Nat} {pulse data : Bool}

theorem RxFramer.confirming_becomes (hf : f.state = .confirm) : f.Becomes len (f.confirming len pulse data) := by
  have hoff : f.state ≠ .off := by rw [hf]; nofun
  have haligned : f.state ≠ .aligned := by rw [hf]; nofun
  unfold RxFramer.confirming
  split
  · split
    · split
      · exact .seeks hoff haligned nofun nofun
      · exact .gains hoff haligned rfl
    · exact .seeks hoff haligned nofun nofun
  · split
    · exact .seeks hoff haligned nofun nofun
    · exact .seeks hoff haligned hoff haligned

theorem RxFramer.judging_becomes (hf : f.state = .aligned) : f.Becomes len (f.judging len pulse data) := by
  have hmissed : ∀ (kept : RxFramer) act, (∀ g : RxFramer, g.state = kept.state → f.Becomes len (g, act)) →
      f.Becomes len (f.missed kept act) := fun kept act hg => by
    unfold RxFramer.missed
    split
    · exact .loses hf rfl
    · exact hg _ rfl
  unfold RxFramer.judging
  split
  next hend =>
    split
    · exact .ends hf hend rfl
    · exact hmissed _ _ fun g hg => .ends hf hend hg
  next =>
    split
    · exact hmissed _ _ fun g hg => .collects hf (hg.trans hf)
    · exact .collects hf hf

theorem RxFramer.period_becomes (f : RxFramer) (len : Nat) (pulse data : Bool) :
    f.Becomes len (f.period len pulse data) := by
  unfold RxFramer.period
  split
  next hf => exact .off hf
  next hf =>
    have hoff : f.state ≠ .off := by rw [hf]; nofun
    have haligned : f.state ≠ .aligned := by rw [hf]; nofun
    split
    · exact .seeks hoff haligned nofun nofun
    · exact .seeks hoff haligned hoff haligned
  next hf => exact RxFramer.confirming_becomes hf
  next hf => exact RxFramer.judging_becomes hf

/-- A framer never holds more bits than a line frame has (R62). -/
theorem RxFramer.period_bits (hlen : 1 ≤ len) (h : f.bits.length ≤ len) :
    (f.period len pulse data).1.bits.length ≤ len := by
  have hstart : ∀ state confirm miss, (startFrame state confirm miss data).bits.length ≤ len :=
    fun _ _ _ => hlen
  have hempty : ∀ state, (emptyFramer state).bits.length ≤ len := fun _ => Nat.zero_le _
  have hcollect : ¬ len ≤ f.bits.length → (f.collect data).bits.length ≤ len := fun hmid => by
    simp only [RxFramer.collect, List.length_append, List.length_singleton]
    omega
  have hmissed : ∀ (kept : RxFramer) act, kept.bits.length ≤ len → (f.missed kept act).1.bits.length ≤ len :=
    fun kept act hk => by
      unfold RxFramer.missed
      split
      · exact hempty _
      · exact hk
  unfold RxFramer.period
  split
  · exact h
  · split
    · exact hstart _ _ _
    · exact h
  · unfold RxFramer.confirming
    split
    · split
      · split <;> exact hstart _ _ _
      · exact hempty _
    next hmid =>
      split
      · exact hstart _ _ _
      · exact hcollect hmid
  · unfold RxFramer.judging
    split
    · split
      · exact hstart _ _ _
      · exact hmissed _ _ (hstart _ _ _)
    next hmid =>
      split
      · exact hmissed _ _ (hcollect hmid)
      · exact hcollect hmid

end framer

theorem LinePort.outcome_becomes (p : LinePort) (x : RxSample) :
    p.rx.Becomes p.record.frameBits (p.outcome x) :=
  RxFramer.period_becomes _ _ _ _

/-! ### The law of the stores -/

/-- Frames wait unread only while the framer is ALIGNED (R84). -/
theorem Store.Lawful.aligned {p : LinePort} {e : Store} (h : e.Lawful p) (hne : e.unread ≠ []) :
    p.rx.state = .aligned := by
  by_contra hp
  obtain ⟨hunread, -⟩ := h.idle hp
  exact hne hunread

/-- Of a framer that is not OFF the receive side is on, before and after a bit period (R63). -/
theorem Store.Lawful.awake {p p' : LinePort} {e e' : Store} (h : e.Lawful p) (hrecord : p'.record = p.record)
    (hoff : p.rx.state ≠ .off) (hoff' : p'.rx.state ≠ .off) (hcapacity : e'.unread.length ≤ 2)
    (hidle : p'.rx.state ≠ .aligned → e'.unread = [] ∧ e'.taken = false) : e'.Lawful p' := by
  have hon : p'.record.rxOn ≠ false := by
    rw [hrecord]
    exact fun hrx => hoff (h.off.2 hrx)
  exact ⟨hcapacity, hidle, ⟨fun hs => absurd hs hoff', fun hrx => absurd hrx hon⟩, fun hrx => absurd hrx hon⟩

theorem Store.arrive_length_le {e : Store} (h : e.unread.length ≤ 2) (frame : InputFrame) :
    (e.arrive frame).unread.length ≤ 2 := by
  by_cases hroom : e.unread.length < 2
  · rw [Store.arrive_room hroom, List.length_append, List.length_singleton]
    omega
  · rw [Store.arrive_slip (Nat.le_of_not_lt hroom), List.length_append, List.length_drop, List.length_singleton]
    omega

/-- A bit period after which the framer and the act on the store are `out` (R62, R67, R85, R92). -/
theorem Store.Lawful.after {p p' : LinePort} {e : Store} {out : RxFramer × FramerAct} (h : e.Lawful p)
    (hrecord : p'.record = p.record) (hrx : p'.rx = out.1) (hout : p.rx.Becomes p.record.frameBits out) :
    (e.after p.record out.2).Lawful p' := by
  cases hout with
  | off hoff =>
    obtain ⟨hcapacity, hidle, hside, hcurrent⟩ := h
    exact ⟨hcapacity, by rwa [hrx], by rwa [hrx, hrecord], by rwa [hrecord]⟩
  | seeks hoff haligned hoff' _ => exact h.awake hrecord hoff (hrx ▸ hoff') h.capacity fun _ => h.idle haligned
  | gains hoff haligned haligned' =>
    exact h.awake hrecord hoff (by rw [hrx, haligned']; nofun) h.capacity fun _ => h.idle haligned
  | collects haligned haligned' =>
    exact h.awake hrecord (by rw [haligned]; nofun) (by rw [hrx, haligned']; nofun) h.capacity
      fun hne => absurd (hrx ▸ haligned') hne
  | ends haligned _ haligned' =>
    exact h.awake hrecord (by rw [haligned]; nofun) (by rw [hrx, haligned']; nofun)
      (Store.arrive_length_le h.capacity _) fun hne => absurd (hrx ▸ haligned') hne
  | loses haligned hhunt =>
    exact h.awake hrecord (by rw [haligned]; nofun) (by rw [hrx, hhunt]; nofun) (Nat.zero_le _) fun _ => ⟨rfl, rfl⟩

/-- All that a boundary can make of a store's frames and of its mark (R86 to R88, R94). -/
theorem Store.boundary_cases (e : Store) (lock : Bool) (loss : LossAction) :
    (∃ frame ∈ e.unread, (e.boundary lock loss).current = some frame
        ∧ ∃ n, (e.boundary lock loss).unread = e.unread.drop n)
      ∨ e.unread = [] ∧ (e.boundary lock loss).unread = [] ∧ (e.boundary lock loss).taken = e.taken
        ∧ ((e.boundary lock loss).current = e.current ∨ (e.boundary lock loss).current = none) := by
  unfold Store.boundary
  split
  next oldest rest hunread =>
    left
    rw [hunread, Store.take]
    split
    · exact ⟨_, List.getLast_mem (List.cons_ne_nil oldest rest), List.getLast?_eq_some_getLast (List.cons_ne_nil oldest rest),
        (oldest :: rest).length, List.drop_length.symm⟩
    · exact ⟨oldest, List.mem_cons_self, rfl, 1, rfl⟩
  next hunread =>
    right
    split
    · exact ⟨hunread, hunread, rfl, .inl rfl⟩
    · refine ⟨hunread, hunread, rfl, ?_⟩
      show (if loss = .hold then e.current else none) = e.current ∨ _ = none
      split
      · exact .inl rfl
      · exact .inr rfl

theorem Store.Lawful.boundary {p : LinePort} {e : Store} (lock : Bool) (h : e.Lawful p) :
    (e.boundary lock p.record.loss).Lawful p := by
  obtain ⟨frame, hframe, hcurrent, n, hunread⟩ | ⟨hnone, hunread, htaken, hcurrent⟩ :=
    e.boundary_cases lock p.record.loss
  · have haligned := h.aligned (List.ne_nil_of_mem hframe)
    have hoff : p.rx.state ≠ .off := by rw [haligned]; nofun
    refine h.awake rfl hoff hoff ?_ fun hne => absurd haligned hne
    rw [hunread, List.length_drop]
    exact Nat.le_trans (Nat.sub_le _ _) h.capacity
  · refine ⟨by rw [hunread]; exact Nat.zero_le _, fun hne => ⟨hunread, htaken.trans (h.idle hne).2⟩, h.off,
      fun hrx => ?_⟩
    obtain hcurrent | hcurrent := hcurrent
    · exact hcurrent.trans (h.current hrx)
    · exact hcurrent

/-- What turns a receive side on or off, and what leaves it alone (R63, R93). -/
theorem LinePort.written_cases (p : LinePort) (e : Store) (record : LineRecord) :
    (record.rxOn = p.record.rxOn ∧ (p.written record).rx = p.rx ∧ e.written p.record record = e)
      ∨ (p.record.rxOn = true ∧ record.rxOn = false ∧ (p.written record).rx = emptyFramer .off
        ∧ e.written p.record record = e.disable)
      ∨ (p.record.rxOn = false ∧ record.rxOn = true ∧ (p.written record).rx = emptyFramer .hunt
        ∧ e.written p.record record = e) := by
  simp only [LinePort.written, Store.written]
  cases p.record.rxOn <;> cases record.rxOn
  · exact .inl ⟨rfl, rfl, rfl⟩
  · exact .inr (.inr ⟨rfl, rfl, rfl, rfl⟩)
  · exact .inr (.inl ⟨rfl, rfl, rfl, rfl⟩)
  · exact .inl ⟨rfl, rfl, rfl⟩

theorem Store.Lawful.written {p : LinePort} {e : Store} {record : LineRecord} (h : e.Lawful p) :
    (e.written p.record record).Lawful (p.written record) := by
  have hrecord : (p.written record).record = record := rfl
  obtain ⟨hsame, hrx, he⟩ | ⟨-, hnow, hrx, he⟩ | ⟨hwas, hnow, hrx, he⟩ := p.written_cases e record
  · obtain ⟨hcapacity, hidle, hoff, hcurrent⟩ := h
    rw [he]
    exact ⟨hcapacity, by rwa [hrx], by rwa [hrx, hrecord, hsame], by rwa [hrecord, hsame]⟩
  · rw [he]
    exact ⟨Nat.zero_le _, fun _ => ⟨rfl, rfl⟩, by simp [hrx, hrecord, hnow, emptyFramer], fun _ => rfl⟩
  · have hidle := h.idle (by rw [h.off.2 hwas]; nofun)
    rw [he]
    refine ⟨h.capacity, fun _ => hidle, by simp [hrx, hrecord, hnow, emptyFramer], fun hrx' => ?_⟩
    rw [hrecord, hnow] at hrx'
    cases hrx'

theorem restartPort_off_iff (straps : Straps) (line : Line) :
    (restartPort straps line).rx.state = .off ↔ (restartPort straps line).record.rxOn = false := by
  by_cases h : line = straps.ctlLine <;> simp [restartPort, emptyFramer, h]

theorem Store.lawful_invariant : LineInvariant Store.Lawful where
  reads hrecord hrx hunread hcurrent htaken h := by
    obtain ⟨hcapacity, hidle, hoff, hnone⟩ := h
    exact ⟨by rwa [hunread], by rwa [hrx, hunread, htaken], by rwa [hrx, hrecord], by rwa [hrecord, hcurrent]⟩
  sampled {p _} x h := h.after rfl rfl (p.outcome_becomes x)
  boundary lock h := h.boundary lock
  written _ h := h.written
  restart straps line := ⟨Nat.zero_le _, fun _ => ⟨rfl, rfl⟩, restartPort_off_iff straps line, fun _ => rfl⟩

/-! ### The law of the stored frames' format -/

/-- A word of W bits is below 2^W (R68). -/
theorem bitsWord_lt {bits : List Bool} {width : Nat} (h : bits.length ≤ width) :
    (bitsWord bits).toNat < 2 ^ width := by
  refine Nat.lt_pow_two_of_testBit _ fun i hi => ?_
  rw [BitVec.testBit_toNat]
  by_cases hlt : i < 32
  · rw [bitsWord_getLsbD _ hlt, List.getD_eq_default _ _ (by rw [List.length_reverse]; omega)]
  · exact BitVec.getLsbD_of_ge _ _ (Nat.le_of_not_lt hlt)

/-- The frame that a line's framer hands on has the line's format (R46, R68). -/
theorem LineRecord.fits_frameWords (r : LineRecord) (bits : List Bool) :
    r.fits (frameWords r.width.bits r.slots bits) := by
  refine ⟨frameWords_length _ _ _, ?_⟩
  generalize r.slots = slots
  induction slots generalizing bits with
  | zero => exact nofun
  | succ slots ih =>
    rw [frameWords, List.forall_mem_cons]
    exact ⟨bitsWord_lt (List.length_take_le _ _), ih _⟩

/-- Another record of the same format asks the same of a frame (R46). -/
theorem LineRecord.fits_congr {r r' : LineRecord} (hslots : r'.slots = r.slots) (hwidth : r'.width = r.width)
    (frame : InputFrame) : r'.fits frame ↔ r.fits frame := by
  rw [LineRecord.fits, LineRecord.fits, hslots, hwidth]

theorem Width.bits_pos (w : Width) : 1 ≤ w.bits := by
  cases w <;> decide

/-- Every unread frame after an arrival was unread before or has just arrived (R85). -/
theorem Store.mem_arrive {e : Store} {frame new : InputFrame} (h : frame ∈ (e.arrive new).unread) :
    frame ∈ e.unread ∨ frame = new := by
  by_cases hroom : e.unread.length < 2
  · rw [Store.arrive_room hroom] at h
    simpa using h
  · rw [Store.arrive_slip (Nat.le_of_not_lt hroom), List.mem_append, List.mem_singleton] at h
    exact h.imp_left List.mem_of_mem_drop

theorem Store.arrive_current (e : Store) (frame : InputFrame) : (e.arrive frame).current = e.current := by
  unfold Store.arrive
  split <;> rfl

/-- Of a framer that is not OFF the receive side is on, so the store need not be empty (R63, R93). -/
theorem Store.Formatted.awake {p p' : LinePort} {e e' : Store} (h : e.Formatted p) (hrecord : p'.record = p.record)
    (hoff : p.rx.state ≠ .off) (hoff' : p'.rx.state ≠ .off) (hbits : p'.rx.bits.length ≤ p.record.frameBits)
    (hunread : ∀ frame ∈ e'.unread, p.record.fits frame) (hcurrent : e'.current = e.current) : e'.Formatted p' := by
  have hon : p'.record.rxOn ≠ false := by
    rw [hrecord]
    exact fun hrx => hoff (h.off.2 hrx)
  refine ⟨by rw [hrecord]; exact h.slots, by rwa [hrecord], ?_, by rwa [hrecord],
    ⟨fun hs => absurd hs hoff', fun hrx => absurd hrx hon⟩, fun hs => absurd hs hoff'⟩
  rw [hrecord, hcurrent]
  exact h.current

/-- A bit period after which the framer and the act on the store are `out` (R62, R67, R85, R92). -/
theorem Store.Formatted.after {p p' : LinePort} {e : Store} {out : RxFramer × FramerAct} (h : e.Formatted p)
    (hrecord : p'.record = p.record) (hrx : p'.rx = out.1) (hout : p.rx.Becomes p.record.frameBits out)
    (hbits : out.1.bits.length ≤ p.record.frameBits) : (e.after p.record out.2).Formatted p' := by
  rw [← hrx] at hbits
  cases hout with
  | off hoff =>
    obtain ⟨hslots, hunread, hcurrent, hlen, hside, hempty⟩ := h
    exact ⟨by rwa [hrecord], by rwa [hrecord], by rwa [hrecord], by rwa [hrecord], by rwa [hrx, hrecord], by rwa [hrx]⟩
  | seeks hoff _ hoff' _ => exact h.awake hrecord hoff (hrx ▸ hoff') hbits h.unread rfl
  | gains hoff _ haligned' => exact h.awake hrecord hoff (by rw [hrx, haligned']; nofun) hbits h.unread rfl
  | collects haligned haligned' =>
    exact h.awake hrecord (by rw [haligned]; nofun) (by rw [hrx, haligned']; nofun) hbits h.unread rfl
  | ends haligned _ haligned' =>
    refine h.awake hrecord (by rw [haligned]; nofun) (by rw [hrx, haligned']; nofun) hbits (fun frame hframe => ?_)
      (Store.arrive_current _ _)
    obtain hold | rfl := Store.mem_arrive hframe
    · exact h.unread frame hold
    · exact p.record.fits_frameWords _
  | loses haligned hhunt =>
    exact h.awake hrecord (by rw [haligned]; nofun) (by rw [hrx, hhunt]; nofun) hbits nofun rfl

theorem Store.Formatted.boundary {p : LinePort} {e : Store} (lock : Bool) (h : e.Formatted p) :
    (e.boundary lock p.record.loss).Formatted p := by
  obtain ⟨hslots, hfits, hcurrentFits, hbits, hoff, hempty⟩ := h
  obtain ⟨frame, hframe, hcurrent, n, hunread⟩ | ⟨hnone, hunread, -, hcurrent⟩ :=
    e.boundary_cases lock p.record.loss
  · refine ⟨hslots, fun x hx => ?_, ?_, hbits, hoff, fun hs => ?_⟩
    · rw [hunread] at hx
      exact hfits x (List.mem_of_mem_drop hx)
    · rw [hcurrent, Option.toList_some, List.forall_mem_singleton]
      exact hfits frame hframe
    · obtain ⟨-, hunread, -⟩ := hempty hs
      rw [hunread] at hframe
      cases hframe
  · refine ⟨hslots, by rw [hunread]; exact nofun, ?_, hbits, hoff, fun hs => ?_⟩
    · obtain hcurrent | hcurrent := hcurrent <;> rw [hcurrent]
      · exact hcurrentFits
      · exact nofun
    · obtain ⟨hbits, -, hgone⟩ := hempty hs
      exact ⟨hbits, hunread, hcurrent.elim (·.trans hgone) id⟩

theorem Store.Formatted.written {p : LinePort} {e : Store} {record : LineRecord} (hr : record.Replaces p.record)
    (h : e.Formatted p) : (e.written p.record record).Formatted (p.written record) := by
  have hrecord : (p.written record).record = record := rfl
  obtain ⟨-, hunread, hcurrent, hbits, hoff, hempty⟩ := h
  obtain ⟨hsame, hrx, he⟩ | ⟨-, hnow, hrx, he⟩ | ⟨hwas, hnow, hrx, he⟩ := p.written_cases e record
  · rw [he]
    by_cases hon : p.record.rxOn = true
    · obtain ⟨hslots, hwidth⟩ := hr.format hon
      have hlen : record.frameBits = p.record.frameBits := by rw [LineRecord.frameBits, hslots, hwidth]; rfl
      simp only [← LineRecord.fits_congr hslots hwidth] at hunread hcurrent
      exact ⟨hr.slots, hunread, hcurrent, by rwa [hrx, hrecord, hlen], by rwa [hrx, hrecord, hsame], by rwa [hrx]⟩
    · obtain ⟨hnobits, hnone, hgone⟩ := hempty (hoff.2 (by simpa using hon))
      refine ⟨hr.slots, by rw [hnone]; exact nofun, by rw [hgone]; exact nofun, ?_, by rwa [hrx, hrecord, hsame],
        by rwa [hrx]⟩
      rw [hrx, hnobits]
      exact Nat.zero_le _
  · rw [he]
    exact ⟨hr.slots, nofun, nofun, by rw [hrx]; exact Nat.zero_le _, by simp [hrx, hrecord, hnow, emptyFramer],
      fun _ => ⟨by rw [hrx]; rfl, rfl, rfl⟩⟩
  · obtain ⟨-, hnone, hgone⟩ := hempty (hoff.2 hwas)
    rw [he]
    exact ⟨hr.slots, by rw [hnone]; exact nofun, by rw [hgone]; exact nofun, by rw [hrx]; exact Nat.zero_le _,
      by simp [hrx, hrecord, hnow, emptyFramer], fun _ => ⟨by rw [hrx]; rfl, hnone, hgone⟩⟩

theorem Store.formatted_invariant : LineInvariant Store.Formatted where
  reads hrecord hrx hunread hcurrent _ h := by
    obtain ⟨hslots, hfits, hcurrentFits, hbits, hoff, hempty⟩ := h
    exact ⟨by rwa [hrecord], by rwa [hunread, hrecord], by rwa [hcurrent, hrecord], by rwa [hrx, hrecord],
      by rwa [hrx, hrecord], by rwa [hrx, hunread, hcurrent]⟩
  sampled {p _} x h := h.after rfl rfl (p.outcome_becomes x)
    (RxFramer.period_bits (Nat.mul_pos h.slots p.record.width.bits_pos) h.bits)
  boundary lock h := h.boundary lock
  written hr h := h.written hr
  restart straps line := by
    refine ⟨?_, nofun, nofun, Nat.zero_le _, restartPort_off_iff straps line, fun _ => ⟨rfl, rfl, rfl⟩⟩
    rw [restartPort_record]
    (repeat' split) <;> decide

end Sys2Proof.Machine
end

section
/-! SUPPORT. What the acts of the part leave of every line's port and store, and the numbered boundary with the framer events that fall together with it (R62, R84, R86, R91, log 5). -/

namespace Sys2Proof.Machine

/-! ### What the laws read -/

/-- What the laws of the stores read of a port (R60, R62). -/
def LinePort.receiving (p : LinePort) : LineRecord × RxFramer :=
  (p.record, p.rx)

/-- What the laws of the stores read of a store (R84). -/
def Store.frames (e : Store) : List InputFrame × Option InputFrame × Bool :=
  (e.unread, e.current, e.taken)

/-- What the laws of the stores read of a state. -/
def State.storeView (s : State) :
    Vector (LineRecord × RxFramer) 8 × Vector (List InputFrame × Option InputFrame × Bool) 8 :=
  (s.ports.map LinePort.receiving, s.stores.map Store.frames)

theorem State.storeView_of_same {s t : State} (hp : t.ports = s.ports) (he : t.stores = s.stores) :
    t.storeView = s.storeView := by
  rw [State.storeView, State.storeView, hp, he]

/-- What an act that leads from `s` to `t` does to a property of the lines. -/
abbrev State.KeepsEveryLine (P : LinePort → Store → Prop) (s t : State) : Prop :=
  s.EveryLine P → t.EveryLine P

/-- Vectors that agree under a map agree under it at every place. -/
theorem getElem_of_map_eq {α β : Type} {f : α → β} {v w : Vector α 8} (h : v.map f = w.map f) (l : Line) :
    f v[l] = f w[l] := by
  simpa using congrArg (fun u : Vector β 8 => u[l]) h

/-- An act that changes nothing the laws read keeps them. -/
theorem LineInvariant.of_view {P : LinePort → Store → Prop} (hP : LineInvariant P) {s t : State}
    (h : t.storeView = s.storeView) : s.KeepsEveryLine P t := by
  obtain ⟨hports, hstores⟩ := Prod.mk.inj h
  intro hs l
  obtain ⟨hrecord, hrx⟩ := Prod.mk.inj (getElem_of_map_eq hports l)
  obtain ⟨hunread, hrest⟩ := Prod.mk.inj (getElem_of_map_eq hstores l)
  obtain ⟨hcurrent, htaken⟩ := Prod.mk.inj hrest
  exact hP.reads hrecord hrx hunread hcurrent htaken (hs l)

/-! ### Acts that change nothing the laws read -/

theorem State.setPort_storeView {s : State} {l : Line} {p : LinePort} (h : p.receiving = (s.port l).receiving) :
    (s.setPort l p).storeView = s.storeView := by
  have hports : (s.ports.set l p).map LinePort.receiving = s.ports.map LinePort.receiving := by
    ext1 i hi
    simp only [Vector.getElem_map, Vector.getElem_set]
    split
    next hl => subst hl; exact h
    next => rfl
  simp [State.storeView, State.setPort, hports]

theorem State.setStore_storeView {s : State} {l : Line} {e : Store} (h : e.frames = (s.store l).frames) :
    (s.setStore l e).storeView = s.storeView := by
  have hstores : (s.stores.set l e).map Store.frames = s.stores.map Store.frames := by
    ext1 i hi
    simp only [Vector.getElem_map, Vector.getElem_set]
    split
    next hl => subst hl; exact h
    next => rfl
  simp [State.storeView, State.setStore, hstores]

@[simp] theorem State.withTiming_storeView (s : State) (v : Timing) :
    (s.withTiming v).storeView = s.storeView := rfl
@[simp] theorem State.withSchedule_storeView (s : State) (v : List ScheduleEntry) :
    (s.withSchedule v).storeView = s.storeView := rfl
@[simp] theorem State.withSwitch_storeView (s : State) (v : Switch) :
    (s.withSwitch v).storeView = s.storeView := rfl
@[simp] theorem State.withMc_storeView (s : State) (v : MapController) :
    (s.withMc v).storeView = s.storeView := rfl
@[simp] theorem State.withEngine_storeView (s : State) (v : RequestEngine) :
    (s.withEngine v).storeView = s.storeView := rfl
@[simp] theorem State.withNotices_storeView (s : State) (v : NoticeUnit) :
    (s.withNotices v).storeView = s.storeView := rfl
@[simp] theorem State.setProbeAt_storeView (s : State) (p : ProbeIndex) (v : Probe) :
    (s.setProbeAt p v).storeView = s.storeView := rfl
@[simp] theorem State.setPatternAt_storeView (s : State) (i : PatternIndex) (v : Pattern) :
    (s.setPatternAt i v).storeView = s.storeView := rfl
@[simp] theorem State.answer_storeView (s : State) (r : Request) (c : Status) (d : List Byte) :
    (s.answer r c d).storeView = s.storeView := rfl
@[simp] theorem State.answerHeld_storeView (s : State) (r : Request) (d : List Byte) :
    (s.answerHeld r d).storeView = s.storeView := rfl
@[simp] theorem State.badLength_storeView (s : State) (r : Request) :
    (s.badLength r).storeView = s.storeView := rfl
@[simp] theorem State.acceptMove_storeView (s : State) (p : Location) :
    (s.acceptMove p).storeView = s.storeView := rfl
@[simp] theorem State.clearCounters_storeView (s : State) : s.clearCounters.storeView = s.storeView := rfl
@[simp] theorem State.rebuild_storeView (s : State) : s.rebuild.storeView = s.storeView := rfl

@[simp] theorem State.abortPage_storeView (s : State) : s.abortPage.storeView = s.storeView :=
  State.storeView_of_same s.abortPage_ports s.abortPage_stores

/-- Counters are nothing the laws of the stores read (R96). -/
@[simp] theorem State.clearStats_storeView (s : State) (l : Line) : (s.clearStats l).storeView = s.storeView := by
  rw [State.clearStats, State.setStore_storeView, State.setPort_storeView] <;> rfl

/-! ### Requests that change nothing the laws read -/

section requests
variable (r : Request) (s : State)

@[simp] theorem echo_storeView : (echo r s).storeView = s.storeView := by
  unfold echo; split <;> simp
@[simp] theorem identify_storeView : (identify r s).storeView = s.storeView := by
  unfold identify; split <;> simp
@[simp] theorem restartFull_storeView : (restartFull r s).storeView = s.storeView := by
  unfold restartFull; (repeat' split) <;> simp
@[simp] theorem restartSwitch_storeView : (restartSwitch r s).storeView = s.storeView := by
  unfold restartSwitch; (repeat' split) <;> simp
@[simp] theorem getLine_storeView : (getLine r s).storeView = s.storeView := by
  unfold getLine; (repeat' split) <;> simp
@[simp] theorem readStats_storeView : (readStats r s).storeView = s.storeView := by
  unfold readStats; (repeat' split) <;> simp
@[simp] theorem setReference_storeView : (setReference r s).storeView = s.storeView := by
  unfold setReference; (repeat' split) <;> simp
@[simp] theorem getTiming_storeView : (getTiming r s).storeView = s.storeView := by
  unfold getTiming; split <;> simp
@[simp] theorem writeEntries_storeView : (writeEntries r s).storeView = s.storeView := by
  unfold writeEntries; (repeat' split) <;> simp
@[simp] theorem readEntries_storeView : (readEntries r s).storeView = s.storeView := by
  unfold readEntries; (repeat' split) <;> simp
@[simp] theorem setPattern_storeView : (setPattern r s).storeView = s.storeView := by
  unfold setPattern; (repeat' split) <;> simp
@[simp] theorem getPattern_storeView : (getPattern r s).storeView = s.storeView := by
  unfold getPattern; (repeat' split) <;> simp
theorem pageRequest_storeView {accept : State → State} (h : (accept s).storeView = s.storeView) :
    (pageRequest accept r s).storeView = s.storeView := by
  unfold pageRequest; (repeat' split) <;> simp [h]
@[simp] theorem getPages_storeView : (getPages r s).storeView = s.storeView := by
  unfold getPages; split <;> simp
@[simp] theorem addSchedule_storeView : (addSchedule r s).storeView = s.storeView := by
  simp only [addSchedule]; (repeat' split) <;> simp
@[simp] theorem cancelSchedule_storeView : (cancelSchedule r s).storeView = s.storeView := by
  unfold cancelSchedule; (repeat' split) <;> simp
@[simp] theorem listSchedule_storeView : (listSchedule r s).storeView = s.storeView := by
  unfold listSchedule; split <;> simp
@[simp] theorem setProbe_storeView : (setProbe r s).storeView = s.storeView := by
  unfold setProbe; (repeat' split) <;> simp
@[simp] theorem readProbe_storeView : (readProbe r s).storeView = s.storeView := by
  unfold readProbe; (repeat' split) <;> simp
@[simp] theorem moveChannel_storeView : (moveChannel r s).storeView = s.storeView := by
  unfold moveChannel; (repeat' split) <;> simp
@[simp] theorem getLink_storeView : (getLink r s).storeView = s.storeView := by
  unfold getLink; (repeat' split) <;> simp
@[simp] theorem setNotices_storeView : (setNotices r s).storeView = s.storeView := by
  simp only [setNotices]; (repeat' split) <;> simp
@[simp] theorem getNotices_storeView : (getNotices r s).storeView = s.storeView := by
  unfold getNotices; split <;> simp

end requests

/-! ### Acts on the lines -/

section lines
variable {P : LinePort → Store → Prop} (hP : LineInvariant P)
include hP

/-- A store's share of the boundary, taken once (R86, R99). -/
theorem LineInvariant.storeAfter {s : State} {l : Line} (h : P (s.port l) (s.store l)) :
    P (s.port l) (s.storeAfter l) := by
  unfold State.storeAfter
  split
  · exact h
  · exact hP.boundary _ h

/-- An act that leaves the ports as they are and takes the stores over the boundary (R86). -/
theorem LineInvariant.of_storesTaken {s t : State} (hp : t.ports = s.ports)
    (he : t.stores = Vector.ofFn s.storeAfter) : s.KeepsEveryLine P t := by
  intro hs l
  have hstore : t.store l = s.storeAfter l := by simp [State.store, he]
  rw [State.port_congr hp, hstore]
  exact hP.storeAfter (hs l)

theorem LineInvariant.linkShare {inbound : State → State} (hports : ∀ u, (inbound u).ports = u.ports)
    (hstores : ∀ u, (inbound u).stores = u.stores) (s : State) : s.KeepsEveryLine P (s.linkShare inbound) :=
  hP.of_storesTaken (State.linkShare_ports s _ hports) (State.linkShare_stores s _ hstores)

theorem LineInvariant.rxPeriod (line : Line) (x : RxSample) (s : State) :
    s.KeepsEveryLine P (s.rxPeriod line x) := by
  intro hs l
  rw [State.rxPeriod_port, State.rxPeriod_store]
  split
  · exact hP.sampled x (hs line)
  · exact hs l

theorem LineInvariant.events (events : List Coincidence) (s : State) :
    s.KeepsEveryLine P (events.foldl (fun u c => u.rxPeriod c.line c.sample) s) := by
  induction events generalizing s with
  | nil => exact id
  | cons c rest ih => exact fun hs => ih _ (hP.rxPeriod c.line c.sample s hs)

theorem LineInvariant.rxPeriods (line : Line) (xs : List RxSample) (s : State) :
    s.KeepsEveryLine P (s.rxPeriods line xs) := by
  unfold State.rxPeriods
  split
  · exact id
  · simpa only [List.foldl_map] using hP.events (xs.map fun x => ⟨line, x, none⟩) s

theorem LineInvariant.fullRestart (s : State) (straps : Straps) (cause : RestartCause) (held : Bool) :
    s.KeepsEveryLine P (s.fullRestart straps cause held) := by
  intro _ l
  rw [State.fullRestart_port, State.fullRestart_store]
  exact hP.restart straps l

end lines

/-! ### Set Line -/

theorem State.applyLine_store (s : State) (line : Line) (record : LineRecord) (l : Line) :
    (s.applyLine line record).store l
      = if l = line then (s.store line).written (s.port line).record record else s.store l := by
  rw [State.applyLine, Store.written]
  split
  · exact State.setStore_store _ line l _
  · split
    next hl => rw [hl]; rfl
    next => rfl

/-- Set Line's checks let only such a record through (R75, R76). -/
theorem State.lineRefusal_replaces {s : State} {line : Line} {record : LineRecord} (hslots : 1 ≤ record.slots)
    (h : s.lineRefusal line record = none) : record.Replaces (s.port line).record := by
  refine ⟨hslots, fun hon => ?_⟩
  by_contra hformat
  have hsides : (s.port line).record.sidesOn ≠ 0 := fun hzero => by
    obtain ⟨hrx, -⟩ := (LineRecord.sidesOn_eq_zero _).1 hzero
    rw [hrx] at hon
    cases hon
  have hchanged : ((s.port line).record.slots != record.slots || (s.port line).record.width != record.width) = true := by
    rw [Bool.or_eq_true, bne_iff_ne, bne_iff_ne]
    by_contra hsame
    rw [not_or, not_not, not_not] at hsame
    exact hformat ⟨hsame.1.symm, hsame.2.symm⟩
  rw [State.lineRefusal] at h
  simp only [hchanged, Bool.true_and, bne_iff_ne, ne_eq, hsides, not_false_eq_true, if_true] at h
  split at h <;> cases h

theorem LineInvariant.setLine_keeps {P : LinePort → Store → Prop} (hP : LineInvariant P) (r : Request) (s : State) :
    s.KeepsEveryLine P (setLine r s) := by
  unfold setLine
  split
  case h_2 => exact hP.of_view (s.badLength_storeView r)
  split
  · exact hP.of_view (State.answer_storeView ..)
  next line record hparse =>
    split
    · exact hP.of_view (State.answer_storeView ..)
    next hpass =>
      intro hs
      refine hP.of_view (State.answer_storeView (s.applyLine line record) ..) fun l => ?_
      rw [State.applyLine_port, State.applyLine_store]
      split
      · exact hP.written (State.lineRefusal_replaces (parseSetLine_slots hparse).1 hpass) (hs line)
      · exact hs l

end Sys2Proof.Machine
end

section
/-! SUPPORT. The laws of the elastic stores at a numbered boundary with framer events that fall together with it (R62, R86, R91, log 5). -/

namespace Sys2Proof.Machine

/-- A framer event meets the store of its line only where the store's share has come before (R62, R90, R91). -/
theorem State.meet_store (before s : State) (shares : List Taker) (c : Coincidence) (l : Line) :
    (State.meet before shares s c).store l
      = if l = c.line ∧ precedes c shares (.store c.line) = false then
          (s.store l).after (s.port l).record ((s.port l).outcome c.sample).2
        else s.store l := by
  simp only [State.meet]
  generalize (if precedes c shares .timing then before.timing else s.timing) = found
  cases hlater : precedes c shares (.store c.line) with
  | true =>
    simp only [if_true, State.store_congr (State.withTiming_stores _ _), Bool.true_eq_false, and_false, if_false,
      State.setStore_store, State.rxPeriod_store]
    split
    next hl => rw [hl]
    next => rfl
  | false =>
    have hport : (s.withTiming found).port c.line = s.port c.line := rfl
    simp only [if_false, Bool.false_eq_true, State.store_congr (State.withTiming_stores _ _), State.rxPeriod_store,
      hport, and_true]
    split
    next hl => rw [hl]
    next => rfl

section boundary
variable {P : LinePort → Store → Prop} (hP : LineInvariant P) {shares : List Taker}

/-- While the boundary is taken: the property holds of every line's store and of its port as the store's share finds it. -/
structure State.StoresFollow (P : LinePort → Store → Prop) (shares : List Taker) (events : List Coincidence)
    (u : State) : Prop where
  lines : (events.map Coincidence.line).Nodup
  follows : ∀ l : Line,
    (∃ c ∈ events, c.line = l ∧ precedes c shares (.store l) = true ∧ P ((u.port l).sampled c.sample) (u.store l))
      ∨ (∀ c ∈ events, c.line = l → precedes c shares (.store l) = false) ∧ P (u.port l) (u.store l)

theorem State.StoresFollow.perm {u : State} {events events' : List Coincidence} (hp : events.Perm events')
    (h : u.StoresFollow P shares events) : u.StoresFollow P shares events' := by
  refine ⟨(hp.map _).nodup_iff.mp h.lines, fun l => ?_⟩
  simpa only [hp.mem_iff] using h.follows l

/-- A share changes neither a port nor, the effects of the frame number being made, a store. -/
theorem State.StoresFollow.share {u v : State} {events : List Coincidence} (hports : v.ports = u.ports)
    (hstores : v.stores = u.stores) (h : u.StoresFollow P shares events) : v.StoresFollow P shares events := by
  refine ⟨h.lines, fun l => ?_⟩
  simpa only [State.port_congr hports, State.store_congr hstores] using h.follows l

include hP in
/-- A framer event is met: where the store's share comes later the port becomes the one that share has found, else the event is a bit period of port and store. -/
theorem State.StoresFollow.meet {before u : State} {c : Coincidence} {rest : List Coincidence}
    (h : u.StoresFollow P shares (c :: rest)) : (State.meet before shares u c).StoresFollow P shares rest := by
  obtain ⟨hnodup, hfollows⟩ := h
  rw [List.map_cons, List.nodup_cons] at hnodup
  obtain ⟨hnew, hrest⟩ := hnodup
  have hother : ∀ d ∈ rest, d.line ≠ c.line := fun d hd hl => hnew (hl ▸ List.mem_map_of_mem hd)
  refine ⟨hrest, fun l => ?_⟩
  rw [State.meet_port, State.meet_store]
  by_cases hl : l = c.line
  · subst hl
    refine .inr ⟨fun d hd hdl => absurd hdl (hother d hd), ?_⟩
    obtain ⟨d, hd, hdl, hprec, hp⟩ | ⟨hnone, hp⟩ := hfollows c.line
    · obtain rfl : d = c := by
        obtain rfl | hd := List.mem_cons.1 hd
        · rfl
        · exact absurd hdl (hother d hd)
      rw [if_pos rfl, if_neg (by simp [hprec])]
      exact hp
    · rw [if_pos rfl, if_pos ⟨rfl, hnone c List.mem_cons_self rfl⟩]
      exact hP.sampled c.sample hp
  · rw [if_neg hl, if_neg (by simp [hl])]
    obtain ⟨d, hd, hdl, hprec, hp⟩ | ⟨hnone, hp⟩ := hfollows l
    · obtain rfl | hd := List.mem_cons.1 hd
      · exact absurd hdl.symm hl
      · exact .inl ⟨d, hd, hdl, hprec, hp⟩
    · exact .inr ⟨fun d hd => hnone d (List.mem_cons_of_mem _ hd), hp⟩

/-- With every share taken no event is left that a store's share has found. -/
theorem State.StoresFollow.everyLine {u : State} {events : List Coincidence} (hall : ∀ l, .store l ∈ shares)
    (hleft : ∀ c ∈ events, ∀ t ∈ shares, fallsBefore c t = false) (h : u.StoresFollow P shares events) :
    u.EveryLine P := by
  intro l
  obtain ⟨c, hc, -, hprec, -⟩ | ⟨-, hp⟩ := h.follows l
  · rw [precedes_eq_false (hall l) (hleft c hc)] at hprec
    cases hprec
  · exact hp

include hP in
/-- Each store's share is taken after the events it finds (R86, R91). -/
theorem LineInvariant.numberedEffects {s : State} (h : s.EveryLine P) {events : List Coincidence}
    (hlines : (events.map Coincidence.line).Nodup) :
    (s.numberedEffects (s.foundBy shares events)).StoresFollow P shares events := by
  refine ⟨hlines, fun l => ?_⟩
  have hstore : (s.numberedEffects (s.foundBy shares events)).store l
      = (s.foundBy shares events (.store l)).storeAfter l := by
    simp [State.store, State.numberedEffects_stores]
  have hfound := hP.storeAfter (hP.events (events.filter fun c => precedes c shares (.store l)) s h l)
  rw [hstore, State.port_congr (State.numberedEffects_ports s _)]
  obtain ⟨c, hc, hcl, hport⟩ | ⟨hnone, hport⟩ :=
    State.foldl_rxPeriod_port (hlines.sublist (List.filter_sublist.map _)) s l
  · rw [List.mem_filter] at hc
    rw [hport] at hfound
    exact .inl ⟨c, hc.1, hcl, hc.2, hfound⟩
  · rw [hport] at hfound
    refine .inr ⟨fun c hc hcl => ?_, hfound⟩
    by_contra hprec
    exact hnone c (List.mem_filter.mpr ⟨hc, by simpa using hprec⟩) hcl

include hP in
/-- The output frames that begin are none of a receive side's business (R70). -/
theorem LineInvariant.beginFrames (s : State) : s.KeepsEveryLine P s.beginFrames := fun hs l => by
  rw [State.beginFrames_port]
  exact hP.reads (s.beginPort_record l) (s.beginPort_rx l) rfl rfl rfl (hs l)

include hP in
theorem LineInvariant.numberedBoundary (s : State) (order : BoundaryOrder) :
    s.KeepsEveryLine P (s.numberedBoundary order) := by
  intro hs
  unfold State.numberedBoundary
  extract_lets shares events found shared
  refine hP.events _ _ ?_
  have hshared : shared.StoresFollow P shares _ := takeInTurn_induction (P := fun l u => State.StoresFollow P shares l u)
    State.StoresFollow.perm (State.StoresFollow.meet hP (before := s))
    (fun t => .share (State.takeShare_ports s _ found t) (State.takeShare_stores s _ found t)) shares events
    (hP.numberedEffects hs (s.coincidences_nodup shares order.within))
  exact hP.beginFrames shared (hshared.everyLine (fun l => State.mem_shareOrder _ _ _) fun c hc t ht => by
    simpa using List.all_eq_true.1 (List.mem_filter.1 hc).2 t ht)

end boundary

end Sys2Proof.Machine
end

section
/-! CERTIFICATE. Every command keeps the law of the elastic stores and the format of the stored frames (R46, R61, R84): StepsKeepTheStoreLaw. -/

namespace Sys2Proof.Machine

section every
variable {P : LinePort → Store → Prop} (hP : LineInvariant P)

theorem State.KeepsEveryLine.ite {s t u : State} {c : Prop} [Decidable c] (ht : s.KeepsEveryLine P t)
    (hu : s.KeepsEveryLine P u) : s.KeepsEveryLine P (if c then t else u) := by
  split
  · exact ht
  · exact hu

/-- A row keeps the property where carrying out the request it takes does (R149). -/
theorem State.serve_keepsEveryLine (s : State) (test : Request → Bool) {carry : Request → State → State}
    (h : ∀ r t, State.KeepsEveryLine P t (carry r t)) : s.KeepsEveryLine P (s.serve test carry) := by
  obtain hs | ⟨r, rest, -, -, hs⟩ := s.serve_cases test carry
  · rw [hs]; exact id
  · rw [hs]; exact h r (s.taken rest)

include hP

theorem LineInvariant.takeBoundary (s : State) (order : BoundaryOrder) :
    s.KeepsEveryLine P (s.takeBoundary order) :=
  .ite (hP.fullRestart s _ _ _) (hP.numberedBoundary s order)

theorem LineInvariant.mcShare (s : State) : s.KeepsEveryLine P s.mcShare :=
  hP.of_view (State.storeView_of_same s.mcShare_ports s.mcShare_stores)

/-- The link's share ahead takes the stores with it (R86, log 6). -/
theorem LineInvariant.readShare (s : State) : s.KeepsEveryLine P (s.linkShare State.readFrame) :=
  hP.linkShare State.readFrame_ports State.readFrame_stores s

theorem LineInvariant.deliveringShare (s : State) (seq kind : Byte) (payload : List Byte) :
    s.KeepsEveryLine P (s.linkShare (State.delivering seq kind payload)) :=
  hP.linkShare (fun u => u.delivering_ports _ _ _) (fun u => u.delivering_stores _ _ _) s

/-- A row whose request changes nothing the laws of the stores read keeps them. -/
theorem LineInvariant.serve_of_view (s : State) (test : Request → Bool) {carry : Request → State → State}
    (h : ∀ r t, (carry r t).storeView = t.storeView) : s.KeepsEveryLine P (s.serve test carry) :=
  s.serve_keepsEveryLine test fun r t => hP.of_view (h r t)

/-- Every command keeps what holds of every line whatever happens to it. -/
theorem LineInvariant.exec {c : Instr} {s t : State} (h : exec c s = .next t) : s.KeepsEveryLine P t := by
  cases c <;> cases h
  case powerUp => exact hP.fullRestart s _ _ _
  case restartN => exact hP.fullRestart s _ _ _
  case restartNRelease => exact .ite (hP.fullRestart s _ _ _) id
  case fullRestartBoundary => exact .ite (hP.fullRestart s _ _ _) id
  case boundary order =>
    exact .ite (hP.takeBoundary s order) (.ite (hP.takeBoundary s.pointTaken order) id)
  case txFrameEnd line periods =>
    exact hP.of_view (State.setPort_storeView
      (by rw [LinePort.receiving, LinePort.txPeriods_record, LinePort.txPeriods_rx]; rfl))
  case stall => exact .ite id id
  case copyComplete =>
    split
    · exact .ite (hP.mcShare s) id
    · exact id
  case clearComplete =>
    split
    · exact .ite (hP.mcShare s) id
    · exact id
  case takePendingSwap =>
    split
    · exact .ite (hP.mcShare s) id
    · exact id
  case scheduleFiring =>
    exact .ite (hP.of_view (State.storeView_of_same s.timingShare_ports s.timingShare_stores)) id
  case requestIntake => exact .ite (hP.deliveringShare s _ _ _) id
  case noticeAck => exact .ite (hP.deliveringShare s _ _ _) id
  case foreignKind => exact .ite (hP.deliveringShare s _ _ _) id
  case messageEnd => exact .ite (hP.readShare s) id
  case channelSwitch => exact .ite (hP.readShare s) id
  case trialTimeout => exact .ite (hP.readShare s) id
  case lineLostRevert => exact .ite (hP.readShare s) id
  case retransmitTimeout => exact .ite id id
  case pulse => exact hP.rxPeriods _ _ s
  case flywheelFrameEnd => exact hP.rxPeriods _ _ s
  case setLine => exact s.serve_keepsEveryLine _ hP.setLine_keeps
  case copyPage => exact hP.serve_of_view s _ fun r t => pageRequest_storeView r t rfl
  case clearPage => exact hP.serve_of_view s _ fun r t => pageRequest_storeView r t rfl
  case swapPages => exact hP.serve_of_view s _ fun r t => pageRequest_storeView r t rfl
  -- the other rows report, or set what the laws of the stores do not read
  all_goals exact hP.serve_of_view s _ fun r t => by simp

/-- Every step keeps it: the command at the front of the queue does, and so does a REFCLK period (R101). -/
theorem LineInvariant.step {s t : State} (h : step s = .next t) : s.KeepsEveryLine P t := by
  unfold Machine.step at h
  split at h
  next rest _ => exact hP.exec (s := s.withPending rest) h
  next =>
    cases h
    exact hP.of_view (State.storeView_of_same s.refclkPeriod_ports s.refclkPeriod_stores)

end every

/-- Settles O54: each law is a property of every line by itself (`State.storeLaw_iff`, `State.formatLaw_iff`) that bit periods, boundaries, Set Line and restarts keep, and no command does more to a line. -/
theorem stepsKeepTheStoreLaw : Obligations.StepsKeepTheStoreLaw := by
  refine ⟨fun s t hlaw hstep => ?_, fun s t hlaw hstep => ?_⟩
  · rw [State.storeLaw_iff] at hlaw ⊢
    exact Store.lawful_invariant.step hstep hlaw
  · rw [State.formatLaw_iff] at hlaw ⊢
    exact Store.formatted_invariant.step hstep hlaw

end Sys2Proof.Machine
end

section
/-! CERTIFICATE. Reads that clear what they report: ReadsThatClear. -/

namespace Sys2Proof.Machine

/-- A state whose engine is the one that has just given up its head request is answered in the words of the statements, and nothing else changes (R149). -/
theorem State.answer_after {s u : State} {r : Request} {rest : List Request} (h : u.engine = (s.taken rest).engine)
    (c : Status) (d : List Byte) :
    u.answer r c d = u.withEngine (s.engine.answered rest (finalResponse r rest c d false)) := by
  have hengine : ((s.taken rest).answer r c d).engine = s.engine.answered rest (finalResponse r rest c d false) := by
    rw [State.taken_answer]
    rfl
  rw [← hengine, State.answer, h]
  rfl

section request
variable {s : State} {r : Request} {rest : List Request} (ht : s.takes r rest)
include ht

/-- Read Stats of a line, with either flag (R96). -/
theorem exec_readStats {line : Line} {clear : Bool} (hk : r.kind = 0x0A)
    (hp : r.payload = [BitVec.ofNat 8 line.val, if clear then 1 else 0]) :
    exec .readStats s = .next
      (if clear then
        (s.clearStats line).withEngine (s.engine.answered rest (finalResponse r rest .ok (s.stats line) false))
      else s.answered r rest .ok (s.stats line)) := by
  refine congrArg Host.Outcome.next ?_
  rw [State.serve_takes ht (ofKind_true hk)]
  simp only [readStats, hp, lineOf_octet, flagOf_octet]
  cases clear with
  | true =>
    rw [if_pos rfl, if_pos rfl]
    exact State.answer_after (by rfl) ..
  | false => exact State.taken_answer ..

/-- Get Link, with either flag (R184). -/
theorem exec_getLink {clear : Bool} (hk : r.kind = 0x39) (hp : r.payload = [if clear then 1 else 0]) :
    exec .getLink s = .next
      (if clear then
        { s with
          link := { s.link with checkErrors := 0, lengthErrors := 0, foreignKinds := 0 }
          engine :=
            { s.engine.answered rest (finalResponse r rest .ok s.linkReport false) with
              droppedRequests := 0, droppedResends := 0 } }
      else s.answered r rest .ok s.linkReport) := by
  refine congrArg Host.Outcome.next ?_
  rw [State.serve_takes ht (ofKind_true hk)]
  simp only [getLink, hp, flagOf_octet]
  cases clear with
  | true =>
    have hcleared : (s.taken rest).clearCounters = s.clearCounters.taken rest := rfl
    rw [if_pos rfl, if_pos rfl, hcleared]
    exact s.clearCounters.taken_answer ..
  | false => exact State.taken_answer ..

/-- Read Probe, with either flag (R140). -/
theorem exec_readProbe {i : ProbeIndex} {rearm : Bool} (hk : r.kind = 0x31)
    (hp : r.payload = [BitVec.ofNat 8 i.val, if rearm then 1 else 0]) :
    exec .readProbe s = .next
      (if rearm then
        (s.setProbeAt i (s.probe i).rearm).withEngine
          (s.engine.answered rest (finalResponse r rest .ok (BitVec.ofNat 8 i.val :: (s.probe i).octets) false))
      else s.answered r rest .ok (BitVec.ofNat 8 i.val :: (s.probe i).octets)) := by
  refine congrArg Host.Outcome.next ?_
  rw [State.serve_takes ht (ofKind_true hk)]
  simp only [readProbe, hp, probeOf_octet, flagOf_octet]
  cases rearm with
  | true =>
    rw [if_pos rfl, if_pos rfl]
    exact State.answer_after (by rfl) ..
  | false => exact State.taken_answer ..

end request

theorem LinkState.code_eq (k : LinkState) : k.code = if k = .trial then 1 else 0 := by
  cases k <;> rfl

/-- Settles O42: each row's request is its report, and with the flag set what it clears, in one act. -/
theorem readsThatClear : Obligations.ReadsThatClear := by
  refine ⟨fun s r rest line clear ht hk hp => ?_, fun s r rest clear ht hk hp => ?_,
    fun s r rest i rearm ht hk hp => ?_⟩
  · exact (exec_readStats ht hk hp).trans (by cases clear <;> rfl)
  · have hread := exec_getLink ht hk hp
    rw [State.linkReport, LinkState.code_eq] at hread
    exact hread
  · rw [exec_readProbe ht hk hp]
    extract_lets p sample captured data
    have hsample : ∀ seen, sample seen = (sampleCode seen, sampleWord seen) := fun seen => by
      obtain _ | _ | w := seen <;> rfl
    have hdata : BitVec.ofNat 8 i.val :: (s.probe i).octets = data := by
      simp only [data, captured, hsample]
      rfl
    rw [hdata]
    cases rearm <;> rfl

end Sys2Proof.Machine
end

section
/-! SUPPORT. SLIP events of one line in the notice queue: what raising them makes of it, and what leaves them alone (R189, R190, R193 to R195). -/

namespace Sys2Proof.Machine

/-! ### SLIP events of a line -/

/-- The event is a SLIP of this line (R187). -/
def Event.slips (line : Line) : Event → Bool
  | .slip l _ _ _ => l = line
  | _ => false

/-- No never-sent record of the queue is a SLIP of this line, so the next one merges into none (R190). -/
def NoticeUnit.SlipFree (n : NoticeUnit) (line : Line) : Prop :=
  ∀ r ∈ n.queue, r.openSlip line = false

theorem NoticeRecord.openSlip_eq (r : NoticeRecord) (line : Line) :
    r.openSlip line = (r.number.isNone && r.event.slips line) := by
  obtain ⟨_ | _ | _ | _ | _ | _ | _ | _, _ | _⟩ := r <;> rfl

theorem NoticeRecord.openSlip_of_other {r : NoticeRecord} {line : Line} (h : r.event.slips line = false) :
    r.openSlip line = false := by
  rw [NoticeRecord.openSlip_eq, h, Bool.and_false]

/-! ### Merges -/

/-- A merge takes a never-sent SLIP of the line (R190). -/
theorem mergeSlip_eq_none {line : Line} {a d : Half} {q : List NoticeRecord} (h : ∀ r ∈ q, r.openSlip line = false) :
    mergeSlip line a d q = none := by
  induction q with
  | nil => rfl
  | cons x q ih =>
    obtain ⟨hx, hq⟩ := List.forall_mem_cons.mp h
    rw [mergeSlip]
    split
    next hnumber hevent =>
      rw [NoticeRecord.openSlip_eq, hnumber, hevent] at hx
      rw [if_neg (by simpa [Event.slips] using hx), ih hq]
      rfl
    next => rw [ih hq]; rfl

/-- The only never-sent SLIP of the line takes the merge, where it stands last (R190). -/
theorem mergeSlip_last {line : Line} {q : List NoticeRecord} (h : ∀ r ∈ q, r.openSlip line = false)
    (a d a' d' : Half) (f : Word) :
    mergeSlip line a d (q ++ [{ event := .slip line a' d' f, number := none }])
      = some (q ++ [{ event := .slip line (satAdd a' a) (satAdd d' d) f, number := none }]) := by
  induction q with
  | nil => simp [mergeSlip]
  | cons x q ih =>
    obtain ⟨hx, hq⟩ := List.forall_mem_cons.mp h
    rw [List.cons_append, mergeSlip]
    split
    next hnumber hevent =>
      rw [NoticeRecord.openSlip_eq, hnumber, hevent] at hx
      rw [if_neg (by simpa [Event.slips] using hx), ih hq]
      rfl
    next => rw [ih hq]; rfl

/-- A merge into a SLIP of line `l` leaves the SLIPs of other lines as they are, and adds none of them (R190). -/
theorem mergeSlip_other {l line : Line} (hne : l ≠ line) {a d : Half} {q q' : List NoticeRecord}
    (h : mergeSlip l a d q = some q') :
    (∀ r ∈ q, r.event.slips line = true → r ∈ q') ∧ ∀ r ∈ q', r ∈ q ∨ r.event.slips line = false := by
  induction q generalizing q' with
  | nil => cases h
  | cons x xs ih =>
    have hrest : (mergeSlip l a d xs).map (x :: ·) = some q' →
        (∀ r ∈ x :: xs, r.event.slips line = true → r ∈ q')
          ∧ ∀ r ∈ q', r ∈ x :: xs ∨ r.event.slips line = false := by
      intro h
      obtain ⟨ys, hys, rfl⟩ := Option.map_eq_some_iff.mp h
      obtain ⟨hkept, hnew⟩ := ih hys
      refine ⟨List.forall_mem_cons.mpr ⟨fun _ => List.mem_cons_self, fun r hr he => ?_⟩,
        List.forall_mem_cons.mpr ⟨.inl List.mem_cons_self, fun r hr => ?_⟩⟩
      · exact List.mem_cons_of_mem _ (hkept r hr he)
      · exact (hnew r hr).imp_left (List.mem_cons_of_mem _)
    rw [mergeSlip] at h
    split at h
    next m _ _ _ hnumber hevent =>
      split at h
      next hm =>
        cases h
        have hother : Event.slips line (.slip m 0 0 0) = false := by simpa [Event.slips, hm] using hne
        refine ⟨List.forall_mem_cons.mpr ⟨fun he => ?_, fun r hr _ => List.mem_cons_of_mem _ hr⟩,
          List.forall_mem_cons.mpr ⟨.inr hother, fun r hr => .inl (List.mem_cons_of_mem _ hr)⟩⟩
        rw [hevent] at he
        exact absurd he (by rw [Bool.not_eq_true]; exact hother)
      next => exact hrest h
    next => exact hrest h

/-! ### Acts that raise no SLIP of the line -/

/-- An act on the Notice Unit that takes no SLIP of the line from its queue and brings none into it. -/
structure NoticeUnit.SparesSlips (line : Line) (n n' : NoticeUnit) : Prop where
  mask : n'.mask = n.mask
  free : n.SlipFree line → n'.SlipFree line
  holds : ∀ e, e.slips line = true → n.holds e → n'.holds e
  shows : ∀ e, e.slips line = true → n.shows e → n'.shows e

theorem NoticeUnit.SparesSlips.refl (line : Line) (n : NoticeUnit) : n.SparesSlips line n :=
  ⟨rfl, id, fun _ _ => id, fun _ _ => id⟩

theorem NoticeUnit.SparesSlips.trans {line : Line} {n n' n'' : NoticeUnit} (h : n.SparesSlips line n')
    (h' : n'.SparesSlips line n'') : n.SparesSlips line n'' :=
  ⟨h'.mask.trans h.mask, fun hs => h'.free (h.free hs), fun e he hs => h'.holds e he (h.holds e he hs),
    fun e he hs => h'.shows e he (h.shows e he hs)⟩

/-- An event that is no SLIP of the line leaves these as they are, and adds none (R189, R190). -/
theorem NoticeUnit.raise_queue {line : Line} {e : Event} (he : e.slips line = false) (n : NoticeUnit) :
    (∀ r ∈ n.queue, r.event.slips line = true → r ∈ (n.raise e).queue)
      ∧ ∀ r ∈ (n.raise e).queue, r ∈ n.queue ∨ r.event.slips line = false := by
  have hsame : (∀ r ∈ n.queue, r.event.slips line = true → r ∈ n.queue)
      ∧ ∀ r ∈ n.queue, r ∈ n.queue ∨ r.event.slips line = false := ⟨fun _ hr _ => hr, fun _ => .inl⟩
  unfold NoticeUnit.raise
  split
  · exact hsame
  split
  next q hq =>
    unfold mergeEvent at hq
    split at hq
    next => exact mergeSlip_other (by simpa [Event.slips] using he) hq
    next => cases hq
  next =>
    split
    · refine ⟨fun r hr _ => List.mem_append_left _ hr, fun r hr => ?_⟩
      obtain hr | hr := List.mem_append.mp hr
      · exact .inl hr
      · rw [List.mem_singleton.mp hr]
        exact .inr he
    · exact hsame

/-- A full queue stays full while events are raised, and what kept a removal from making room unseen still does (R189, R191). -/
theorem NoticeUnit.raise_full {n : NoticeUnit} (h : 16 ≤ n.queue.length) (e : Event) :
    16 ≤ (n.raise e).queue.length
      ∧ (n.lost ≠ 0 ∨ n.state ≠ .outstanding ∧ n.state ≠ .stalled →
        (n.raise e).lost ≠ 0 ∨ (n.raise e).state ≠ .outstanding ∧ (n.raise e).state ≠ .stalled) := by
  obtain ⟨-, heq⟩ | ⟨-, q, heq, hlen, -⟩ | ⟨hroom, -⟩ | ⟨-, heq⟩ := n.raise_cases e
  · rw [heq]
    exact ⟨h, id⟩
  · rw [heq]
    exact ⟨by rw [hlen]; exact h, id⟩
  · omega
  · rw [heq]
    exact ⟨h, fun _ => .inl (satInc_ne_zero _)⟩

theorem NoticeUnit.raise_sparesSlips {line : Line} {e : Event} (he : e.slips line = false) (n : NoticeUnit) :
    n.SparesSlips line (n.raise e) := by
  obtain ⟨hkept, hnew⟩ := n.raise_queue he
  refine ⟨NoticeUnit.raise_mask n e, fun hfree r hr => ?_, fun x hx hs => ?_, fun x hx hs => ?_⟩
  · obtain hr | hr := hnew r hr
    · exact hfree r hr
    · exact NoticeRecord.openSlip_of_other hr
  · obtain ⟨r, hr, rfl, hn⟩ | ⟨hfull, hstays⟩ := hs
    · exact .inl ⟨r, hkept r hr hx, rfl, hn⟩
    · obtain ⟨hfull, hstays'⟩ := NoticeUnit.raise_full hfull e
      exact .inr ⟨hfull, hstays' hstays⟩
  · obtain ⟨r, hr, rfl⟩ | hfull := hs
    · exact .inl ⟨r, hkept r hr hx, rfl⟩
    · exact .inr (NoticeUnit.raise_full hfull e).1

theorem NoticeUnit.foldl_raise_sparesSlips {line : Line} {es : List Event} (h : ∀ e ∈ es, e.slips line = false)
    (n : NoticeUnit) : n.SparesSlips line (es.foldl NoticeUnit.raise n) := by
  induction es generalizing n with
  | nil => exact .refl line n
  | cons e es ih =>
    obtain ⟨he, hes⟩ := List.forall_mem_cons.mp h
    exact (n.raise_sparesSlips he).trans (ih hes _)

theorem State.raiseAll_sparesSlips {line : Line} {es : List Event} (h : ∀ e ∈ es, e.slips line = false) (s : State) :
    s.notices.SparesSlips line (s.raiseAll es).notices := by
  rw [State.raiseAll_eq]
  exact NoticeUnit.foldl_raise_sparesSlips h s.notices

/-- Raising an event after an act that is none of the Notice Unit's. -/
theorem NoticeUnit.SparesSlips.raised {s u : State} {line : Line} {e : Event} (h : u.notices = s.notices)
    (he : e.slips line = false) : s.notices.SparesSlips line (u.raise e).notices := by
  rw [State.raise_notices, h]
  exact s.notices.raise_sparesSlips he

/-- An act that is none of the Notice Unit's. -/
theorem NoticeUnit.SparesSlips.of_eq {line : Line} {n n' : NoticeUnit} (h : n' = n) : n.SparesSlips line n' :=
  h ▸ .refl line n

/-- The timer of an outstanding head leaves the queue as it is (R194, R196). -/
theorem State.noticeBoundary_sparesSlips (line : Line) (s : State) (ran : Bool) :
    s.notices.SparesSlips line (s.noticeBoundary ran).notices := by
  unfold State.noticeBoundary
  split
  case isFalse => exact .refl line _
  rename_i hran
  rw [Bool.and_eq_true, decide_eq_true_eq] at hran
  obtain ⟨-, hstate⟩ := hran
  have htick : ∃ state timer, s.notices.tick = { s.notices with state := state, timer := timer } := by
    unfold NoticeUnit.tick
    split
    · exact ⟨_, _, rfl⟩
    · exact ⟨s.notices.state, _, rfl⟩
  obtain ⟨state, timer, htick⟩ := htick
  rw [State.withNotices_notices, htick]
  refine ⟨rfl, id, fun e _ hs => ?_, fun _ _ => id⟩
  exact hs.imp_right fun ⟨hfull, hlost⟩ => ⟨hfull, .inl (hlost.resolve_right fun h => h.1 hstate)⟩

/-! ### The shares of a boundary -/

/-- A store raises SLIPs of its own line alone (R87, R94). -/
theorem State.storeSlips_line {s : State} {l line : Line} (h : l ≠ line) :
    ∀ e ∈ s.storeSlips l, e.slips line = false := by
  have hslip : ∀ a d f, Event.slips line (.slip l a d f) = false := fun _ _ _ => by simpa [Event.slips] using h
  unfold State.storeSlips Store.boundarySlips
  intro e he
  split at he
  · cases he
  split at he
  · split at he
    · obtain ⟨-, -, rfl⟩ := List.mem_map.mp he
      exact hslip _ _ _
    · cases he
  · split at he
    · rw [List.mem_singleton.mp he]
      exact hslip _ _ _
    · cases he

/-- The Timing Unit raises REFERENCE alone (R108). -/
theorem State.referenceDue_slips (s : State) (line : Line) : ∀ e ∈ s.referenceDue, e.slips line = false := by
  unfold State.referenceDue Timing.referenceEvents
  intro e he
  split at he
  · cases he
  · extract_lets after at he
    split at he
    · cases he
    · rw [List.mem_singleton.mp he]
      rfl

/-- The schedule table raises SCHEDULE_DONE alone (R124). -/
theorem State.fireOnce_slips (s : State) (line : Line) : ∀ e ∈ s.fireOnce.2, e.slips line = false := by
  have hfire : ∀ n es (u : State), ∀ e ∈ (fireAll n es u).2, e.slips line = false := by
    intro n es
    induction es with
    | nil => exact fun _ => nofun
    | cons x es ih => exact fun u => List.forall_mem_cons.mpr ⟨rfl, ih _⟩
  unfold State.fireOnce
  split
  · exact nofun
  · exact hfire _ _ _

/-- Every share but the link's and this line's store's leaves the SLIPs of the line alone. -/
theorem State.takeShare_sparesSlips {line : Line} (before : State) (found : Taker → State) (s : State) {t : Taker}
    (hlink : t ≠ .link) (hstore : t ≠ .store line) :
    s.notices.SparesSlips line (State.takeShare before found s t).notices := by
  cases t with
  | link => exact absurd rfl hlink
  | store l => exact State.raiseAll_sparesSlips (State.storeSlips_line fun hl => hstore (by rw [hl])) s
  | timing => exact State.raiseAll_sparesSlips (State.referenceDue_slips _ line) s
  | schedule => exact State.raiseAll_sparesSlips (State.fireOnce_slips _ line) s
  | mapController => exact .of_eq (State.finishMc_notices _ _)
  | notice => exact s.noticeBoundary_sparesSlips line _
  | probe i =>
    simp only [State.takeShare, State.probeBoundary]
    split
    · exact .refl line _
    split
    · exact .refl line _
    split
    · exact .raised (State.setProbeAt_notices _ _ _) rfl
    · exact .refl line _

/-! ### The link's act -/

theorem State.headParts_sparesSlips (line : Line) (s : State) :
    s.notices.SparesSlips line s.headParts.notices := by
  have hrevert : ∀ why, s.notices.SparesSlips line (s.revert why).notices := fun why => by
    unfold State.revert
    split
    · exact .raised (State.giveUp_notices _ _ _) rfl
    · exact .refl line _
  have htrial : s.notices.SparesSlips line s.trialPart.notices := by
    unfold State.trialPart
    split
    · exact .refl line _
    split
    · exact hrevert _
    split
    · exact hrevert _
    · exact .refl line _
  have hswitch : ∀ u : State, u.notices.SparesSlips line u.switchPart.notices := fun u => by
    unfold State.switchPart
    split
    · exact .refl line _
    split
    · exact .raised ((State.withEngine_notices _ _).trans (State.giveUp_notices _ _ _)) rfl
    · exact .of_eq (State.switchTo_notices _ _)
  exact htrial.trans (hswitch _)

theorem State.confirm_sparesSlips (line : Line) (s : State) : s.notices.SparesSlips line s.confirm.notices := by
  unfold State.confirm
  split
  · exact .raised (State.giveUp_notices _ _ _) rfl
  · exact .refl line _

/-- A good message brings no SLIP into the queue: of what it removes EVENTS_LOST may take the place (R191, R195). -/
theorem NoticeUnit.goodMessage_slipFree {n : NoticeUnit} {line : Line} (h : n.SlipFree line) (kind seq : Byte) :
    (n.goodMessage kind seq).SlipFree line := by
  by_cases hacks : n.acks kind seq
  · have hdrop : ∀ r ∈ n.queue.drop 1, r.openSlip line = false := fun r hr => h r (List.mem_of_mem_drop hr)
    rw [NoticeUnit.goodMessage_acks hacks, NoticeUnit.removeHead_eq]
    intro r hr
    simp only at hr
    split at hr
    · exact hdrop r hr
    · obtain hr | hr := List.mem_append.mp hr
      · exact hdrop r hr
      · rw [List.mem_singleton.mp hr]
        rfl
  · rw [NoticeUnit.goodMessage_released hacks, NoticeUnit.released]
    split <;> exact h

/-- Starting the head only gives it its number (R193). -/
theorem NoticeUnit.start_slipFree {n : NoticeUnit} {line : Line} (h : n.SlipFree line) : n.start.SlipFree line := by
  unfold NoticeUnit.start
  split
  next => exact h
  next x xs hq =>
    split
    next => exact h
    next =>
      rw [NoticeUnit.SlipFree, hq, List.forall_mem_cons] at h
      exact List.forall_mem_cons.mpr ⟨by rw [NoticeRecord.openSlip_eq]; rfl, h.2⟩

/-- What a SLIP of the line needs of the link's reading of a frame: none comes, and none that is held goes (R170, R195). -/
theorem State.readFrame_slips {s : State} {line : Line} :
    (s.notices.SlipFree line → s.readFrame.notices.SlipFree line)
      ∧ ∀ e, e.slips line = true → s.notices.holds e → s.readFrame.notices.holds e := by
  have hreceive : ∀ (u : State) (b : Byte), (u.notices.SlipFree line → (u.receive b).notices.SlipFree line)
      ∧ ∀ e, e.slips line = true → u.notices.holds e → (u.receive b).notices.holds e := fun u b => by
    obtain ⟨k, heq, -⟩ | ⟨seq, kind, payload, -, heq⟩ := u.receive_cases b
    · rw [heq]
      exact ⟨id, fun _ _ => id⟩
    · have hconfirm := (u.receiving .hunt).confirm_sparesSlips line
      rw [heq, State.deliverGood_notices]
      exact ⟨fun h => NoticeUnit.goodMessage_slipFree (hconfirm.free h) _ _,
        fun e he h => NoticeUnit.goodMessage_holds (hconfirm.holds e he h) _ _⟩
  have hfold : ∀ (octets : List Byte) (u : State),
      (u.notices.SlipFree line → (octets.foldl State.receive u).notices.SlipFree line)
        ∧ ∀ e, e.slips line = true → u.notices.holds e → (octets.foldl State.receive u).notices.holds e := by
    intro octets
    induction octets with
    | nil => exact fun _ => ⟨id, fun _ _ => id⟩
    | cons b rest ih =>
      intro u
      obtain ⟨hfree, hholds⟩ := hreceive u b
      obtain ⟨hfree', hholds'⟩ := ih (u.receive b)
      exact ⟨fun h => hfree' (hfree h), fun e he h => hholds' e he (hholds e he h)⟩
  unfold State.readFrame
  split
  · exact ⟨id, fun _ _ => id⟩
  · exact hfold _ s

/-- The transmitter does no more to the notice queue than to start its head (R193, R194). -/
theorem State.fillFrame_slipFree {s : State} {line : Line} (h : s.notices.SlipFree line) :
    s.fillFrame.notices.SlipFree line := by
  have hready : ∀ u : State, u.notices.SlipFree line → u.readied.notices.SlipFree line := fun u hu => by
    have hnotice : u.startNotice.notices.SlipFree line := by
      simp only [State.startNotice]
      split
      · exact hu
      · exact NoticeUnit.start_slipFree hu
    unfold State.readied
    split
    · unfold State.chooseMessage
      split
      · split
        · exact hnotice
        · exact hu
      · split
        · exact hnotice
        · exact hu
    · exact hu
  have hslot : ∀ u : State, u.notices.SlipFree line → u.fillSlot.notices.SlipFree line := fun u hu => by
    have hr := hready u hu
    unfold State.fillSlot
    split
    next m next _ => simpa only [NoticeUnit.SlipFree, State.placeOctet_queue] using hr
    next => exact hr
    next => exact hr
  have hslots : ∀ (n : Nat) (u : State), u.notices.SlipFree line → (State.fillSlots n u).notices.SlipFree line := by
    intro n
    induction n with
    | zero => exact fun _ => id
    | succ n ih => exact fun u hu => ih _ (hslot u hu)
  exact hslots _ s h

theorem State.linkAct_slipFree {s : State} {line : Line} (h : s.notices.SlipFree line) :
    (s.linkAct State.readFrame).notices.SlipFree line :=
  State.fillFrame_slipFree (s := s.headParts.readFrame)
    (State.readFrame_slips.1 ((s.headParts_sparesSlips line).free h))

theorem State.linkAct_showsSlip {s : State} {line : Line} {e : Event} (he : e.slips line = true)
    (h : s.notices.holds e) : (s.linkAct State.readFrame).notices.shows e :=
  State.fillFrame_shows (s := s.headParts.readFrame) (NoticeUnit.shows_of_holds
    (State.readFrame_slips.2 e he ((s.headParts_sparesSlips line).holds e he h)))

/-! ### The whole boundary -/

section shares
variable {before : State} {found : Taker → State} {line : Line}

/-- Before the store's share no SLIP of its line comes into the queue. -/
theorem State.foldl_takeShare_slipFree {shares : List Taker} (hstore : .store line ∉ shares) {s : State}
    (h : s.notices.SlipFree line) : (shares.foldl (State.takeShare before found) s).notices.SlipFree line := by
  induction shares generalizing s with
  | nil => exact h
  | cons t rest ih =>
    obtain ⟨ht, hrest⟩ := not_or.mp (mt List.mem_cons.mpr hstore)
    refine ih hrest ?_
    by_cases hlink : t = .link
    · subst hlink
      simp only [State.takeShare]
      split
      · exact h
      · exact State.linkAct_slipFree h
    · exact (State.takeShare_sparesSlips before found s hlink (Ne.symm ht)).free h

/-- A SLIP of the line that stands in the queue once the link and the line's store have taken the boundary stands there to its end. -/
theorem State.foldl_takeShare_showsSlip {shares : List Taker} (hlink : .link ∉ shares) (hstore : .store line ∉ shares)
    {s : State} {e : Event} (he : e.slips line = true) (h : s.notices.shows e) :
    (shares.foldl (State.takeShare before found) s).notices.shows e := by
  induction shares generalizing s with
  | nil => exact h
  | cons t rest ih =>
    obtain ⟨ht, hrest⟩ := not_or.mp (mt List.mem_cons.mpr hstore)
    obtain ⟨ht', hrest'⟩ := not_or.mp (mt List.mem_cons.mpr hlink)
    exact ih hrest' hrest ((State.takeShare_sparesSlips before found s (Ne.symm ht') (Ne.symm ht)).shows e he h)

/-- A SLIP of the line that is held once its store has taken the boundary shows at the end, since the link, which may start it, takes the boundary once. -/
theorem State.foldl_takeShare_holdsSlip {shares : List Taker} (hnodup : shares.Nodup) (hstore : .store line ∉ shares)
    {s : State} {e : Event} (he : e.slips line = true) (h : s.notices.holds e) :
    (shares.foldl (State.takeShare before found) s).notices.shows e := by
  induction shares generalizing s with
  | nil => exact NoticeUnit.shows_of_holds h
  | cons t rest ih =>
    obtain ⟨hout, hnodup'⟩ := List.nodup_cons.mp hnodup
    obtain ⟨ht, hrest⟩ := not_or.mp (mt List.mem_cons.mpr hstore)
    by_cases hlink : t = .link
    · subst hlink
      refine State.foldl_takeShare_showsSlip hout hrest he ?_
      simp only [State.takeShare]
      split
      · exact NoticeUnit.shows_of_holds h
      · exact State.linkAct_showsSlip he h
    · exact ih hnodup' hrest ((State.takeShare_sparesSlips before found s hlink (Ne.symm ht)).holds e he h)

end shares

/-- A SLIP of the line that its store's share leaves held stands in the notice queue after the boundary, whatever the order and whatever the link delivers, unless the queue is full (R189, R190). -/
theorem State.numberedBoundary_showsSlip {s : State} {line : Line} {e : Event} (he : e.slips line = true)
    (hfree : s.notices.SlipFree line)
    (hraise : ∀ n : NoticeUnit, n.mask = s.notices.mask → n.SlipFree line →
      ((s.storeSlips line).foldl NoticeUnit.raise n).holds e) (order : List Taker) :
    (s.numberedBoundary ⟨order, []⟩).notices.shows e := by
  obtain ⟨earlier, later, hsplit⟩ := List.append_of_mem (s.mapEffects.mem_shareOrder order (.store line))
  have hnodup := s.mapEffects.shareOrder_nodup order
  rw [hsplit] at hnodup
  have hmid := (List.perm_middle.nodup_iff.mp hnodup).notMem
  have hearlier : .store line ∉ earlier := fun hm => hmid (List.mem_append_left _ hm)
  obtain ⟨hlater, hlaterNodup⟩ := List.nodup_cons.mp (List.nodup_append.mp hnodup).2.1
  rw [State.numberedBoundary_plain, hsplit, List.foldl_append, List.foldl_cons]
  refine State.foldl_takeShare_holdsSlip hlaterNodup hlater he ?_
  rw [State.takeShare, State.raiseAll_eq]
  refine hraise _ ?_ (State.foldl_takeShare_slipFree hearlier (by rwa [State.numberedEffects_notices]))
  exact (foldl_keeps (fun u : State => u.notices.mask) _ State.takeShare_mask _ _).trans (by simp)

end Sys2Proof.Machine
end

section
/-! CERTIFICATE. The elastic stores at a boundary and their SLIP events: BoundaryHandlesEveryStore. -/

namespace Sys2Proof.Machine

/-! ### A store's share of a boundary -/

/-- The frames a lock boundary discards are counted, up to 65535 (R94, R95). -/
theorem countDeletes_eq (deletes : Half) (frames : List InputFrame) :
    countDeletes deletes frames = BitVec.ofNat 16 (min 65535 (deletes.toNat + frames.length)) := by
  have hlt := deletes.isLt
  induction frames generalizing deletes with
  | nil =>
    rw [countDeletes, List.length_nil, Nat.add_zero, Nat.min_eq_right (by omega), BitVec.ofNat_toNat, BitVec.setWidth_eq]
  | cons frame frames ih =>
    rw [countDeletes, ih _ (BitVec.isLt _), satInc_eq, BitVec.toNat_ofNat, List.length_cons]
    congr 1
    omega

/-- With frames unread and no lock boundary the store takes the oldest (R86). -/
theorem Store.boundary_oldest {e : Store} {oldest : InputFrame} {rest : List InputFrame}
    (h : e.unread = oldest :: rest) (loss : LossAction) :
    e.boundary false loss = { e with unread := rest, current := some oldest, newly := true, taken := true } := by
  rw [Store.boundary, h]
  rfl

/-- At the line's lock boundary it takes the newest, and the older ones are delete slips (R94). -/
theorem Store.boundary_newest {e : Store} {older : List InputFrame} {newest : InputFrame}
    (h : e.unread = older ++ [newest]) (loss : LossAction) :
    e.boundary true loss =
      { e with
        unread := [], current := some newest, newly := true, taken := true
        deletes := BitVec.ofNat 16 (min 65535 (e.deletes.toNat + older.length)) } := by
  obtain ⟨oldest, rest, hcons⟩ :=
    List.exists_cons_of_ne_nil (List.append_ne_nil_of_right_ne_nil older (List.cons_ne_nil newest []))
  have hlen : rest.length = older.length := by
    have := congrArg List.length hcons
    simp only [List.length_append, List.length_cons, List.length_nil] at this
    omega
  have hlast : (oldest :: rest).getLast? = some newest := by rw [← hcons, List.getLast?_concat]
  rw [Store.boundary, h, hcons]
  simp only [Store.take, if_true, hlast, countDeletes_eq, hlen]

/-- With none unread a store that has taken one since the line was aligned repeats it (R87). -/
theorem Store.boundary_repeat {e : Store} (h : e.unread = []) (ht : e.taken = true) (lock : Bool) (loss : LossAction) :
    e.boundary lock loss =
      { e with newly := false, repeats := BitVec.ofNat 16 (min 65535 (e.repeats.toNat + 1)) } := by
  rw [Store.boundary, h, ← satInc_eq]
  simp only [ht, if_true]

/-- With none unread and none taken the loss action is applied (R88). -/
theorem Store.boundary_loss {e : Store} (h : e.unread = []) (ht : e.taken = false) (lock : Bool) (loss : LossAction) :
    e.boundary lock loss = { e with newly := false, current := if loss = .hold then e.current else none } := by
  rw [Store.boundary, h]
  simp only [ht, Bool.false_eq_true, if_false]

/-- The coming boundary is the line's lock boundary, in the words of the statements (R94, R104, R105). -/
theorem State.lockFor_iff {s : State} (h : s.opening.timingDone = false) (line : Line) :
    s.lockFor line = true
      ↔ s.timing.lockPending = some line ∧ s.timing.stall = false ∧ s.timing.offLine = none := by
  simp only [State.lockFor, h, Bool.false_eq_true, if_false, Timing.lockBoundary_eq, decide_eq_true_eq]
  cases hs : s.timing.stall <;> cases ho : s.timing.offLine <;> simp

/-- A store after a boundary that it has not taken ahead (R86). -/
theorem State.numberedBoundary_store {s : State} (h : s.opening.storesDone = false) (order : List Taker) (line : Line) :
    (s.numberedBoundary ⟨order, []⟩).store line
      = (s.store line).boundary (s.lockFor line) (s.port line).record.loss := by
  rw [State.store, State.numberedBoundary_stores]
  simp [State.storeAfter, h]

/-! ### The SLIP events of a boundary -/

section slips
variable {s : State} (hopen : s.opening = closedOpening) (line : Line)
include hopen

theorem State.storeSlips_repeat (hnone : (s.store line).unread = []) (htaken : (s.store line).taken = true) :
    s.storeSlips line = [.slip line 1 0 (s.timing.sfn + 1)] := by
  have hdone : s.opening.storesDone = false := by rw [hopen]; rfl
  simp only [State.storeSlips, hdone, Bool.false_eq_true, if_false, Store.boundarySlips, hnone, htaken, if_true,
    State.comingFrame_fresh hopen]

/-- One event for each older frame that the lock boundary discards (R94). -/
theorem State.storeSlips_lock (hsome : (s.store line).unread ≠ []) (hlock : s.lockFor line = true) :
    s.storeSlips line
      = List.replicate ((s.store line).unread.length - 1) (.slip line 0 1 (s.timing.sfn + 1)) := by
  have hdone : s.opening.storesDone = false := by rw [hopen]; rfl
  obtain ⟨oldest, rest, hunread⟩ := List.exists_cons_of_ne_nil hsome
  simp only [State.storeSlips, hdone, Bool.false_eq_true, if_false, Store.boundarySlips, hunread, hlock, if_true,
    State.comingFrame_fresh hopen, List.length_cons, Nat.add_sub_cancel, List.map_const']

omit hopen in
theorem State.storeSlips_none (h : (s.store line).unread = [] → (s.store line).taken = false)
    (hlock : (s.store line).unread ≠ [] → s.lockFor line = false) : s.storeSlips line = [] := by
  unfold State.storeSlips Store.boundarySlips
  split
  · rfl
  split
  next hunread => rw [hlock (by rw [hunread]; nofun)]; rfl
  next hunread => rw [h hunread]; rfl

/-- All the SLIP events of a store at a boundary, in the words of the statements (R87, R94). -/
theorem State.storeSlips_eq :
    s.storeSlips line =
      if (s.store line).unread = [] then
        if (s.store line).taken then [.slip line 1 0 (s.timing.sfn + 1)] else []
      else if s.timing.lockPending = some line ∧ s.timing.stall = false ∧ s.timing.offLine = none then
        List.replicate ((s.store line).unread.length - 1) (.slip line 0 1 (s.timing.sfn + 1))
      else [] := by
  have hlock := State.lockFor_iff (s := s) (by rw [hopen]; rfl) line
  by_cases hnone : (s.store line).unread = []
  · rw [if_pos hnone]
    split
    next htaken => exact State.storeSlips_repeat hopen line hnone htaken
    next htaken => exact State.storeSlips_none line (fun _ => by simpa using htaken) fun hne => absurd hnone hne
  · rw [if_neg hnone]
    split
    next hyes => exact State.storeSlips_lock hopen line hnone (hlock.2 hyes)
    next hno =>
      exact State.storeSlips_none line (fun h => absurd h hnone) fun _ => Bool.eq_false_iff.mpr (mt hlock.1 hno)

end slips

/-! ### SLIP events raised in the notice queue -/

section raised
variable {n : NoticeUnit} {line : Line} (hmask : n.mask.getLsbD 1 = true)
include hmask

/-- The first SLIP of the line makes a record of its own, or is lost where the queue is full (R189, R190). -/
theorem NoticeUnit.raise_slip_first (hfree : n.SlipFree line) (a d : Half) (f : Word) :
    n.raise (.slip line a d f)
      = if n.queue.length < 16 then n.append (.slip line a d f) else { n with lost := satInc n.lost } := by
  simp only [NoticeUnit.raise, Event.enabled, hmask, Bool.not_true, Bool.false_eq_true, if_false, mergeEvent,
    mergeSlip_eq_none hfree]
  rfl

/-- The next one merges into it (R190). -/
theorem NoticeUnit.raise_slip_again (hfree : n.SlipFree line) (a d a' d' : Half) (f f' : Word) :
    (n.append (.slip line a d f)).raise (.slip line a' d' f') = n.append (.slip line (satAdd a a') (satAdd d d') f) := by
  have hmerge : mergeEvent (.slip line a' d' f') (n.append (.slip line a d f)).queue
      = some (n.append (.slip line (satAdd a a') (satAdd d d') f)).queue :=
    mergeSlip_last hfree a' d' a d f
  have henabled : Event.enabled (n.append (.slip line a d f)).mask (.slip line a' d' f') = true := hmask
  simp only [NoticeUnit.raise, henabled, Bool.not_true, Bool.false_eq_true, if_false, hmerge]
  rfl

/-- Events of one frame deleted each, the first of them in the queue, merge into it (R190). -/
theorem NoticeUnit.foldl_raise_deletes (hfree : n.SlipFree line) (f : Word) (count : Nat) (d : Half) :
    (List.replicate count (Event.slip line 0 1 f)).foldl NoticeUnit.raise (n.append (.slip line 0 d f))
      = n.append (.slip line 0 (BitVec.ofNat 16 (min 65535 (d.toNat + count))) f) := by
  have hlt := d.isLt
  induction count generalizing d with
  | zero =>
    rw [Nat.add_zero, Nat.min_eq_right (by omega), BitVec.ofNat_toNat, BitVec.setWidth_eq]
    rfl
  | succ count ih =>
    have hone : satAdd d 1 = BitVec.ofNat 16 (min 65535 (d.toNat + 1)) := by
      rw [← satInc_eq, satAdd, satInc]
      have : (1 : Half).toNat = 1 := rfl
      split <;> split <;> bv_omega
    have hzero : satAdd 0 0 = 0 := rfl
    rw [List.replicate_succ, List.foldl_cons, NoticeUnit.raise_slip_again hmask hfree, hzero, ih _ (BitVec.isLt _), hone,
      BitVec.toNat_ofNat]
    congr 3
    omega

end raised

/-- While the queue is full and its lost count stands, events raised leave it so (R189). -/
theorem NoticeUnit.foldl_raise_overflow {n : NoticeUnit} (hfull : 16 ≤ n.queue.length) (hlost : n.lost ≠ 0)
    (es : List Event) (e : Event) : (es.foldl NoticeUnit.raise n).holds e := by
  induction es generalizing n with
  | nil => exact .inr ⟨hfull, .inl hlost⟩
  | cons x es ih =>
    obtain ⟨-, heq⟩ | ⟨-, q, heq, hlen, -⟩ | ⟨hroom, -⟩ | ⟨-, heq⟩ := n.raise_cases x
    · rw [List.foldl_cons, heq]; exact ih hfull hlost
    · rw [List.foldl_cons, heq]; exact ih (hlen ▸ hfull) hlost
    · omega
    · rw [List.foldl_cons, heq]; exact ih hfull (satInc_ne_zero _)

/-- SLIPs of the line that merge into the first of them are held as one event once they have been raised (R189, R190). -/
theorem NoticeUnit.foldl_raise_holds {n : NoticeUnit} {line : Line} (hmask : n.mask.getLsbD 1 = true)
    (hfree : n.SlipFree line) {a d : Half} {f : Word} {es : List Event} {e : Event}
    (he : es.foldl NoticeUnit.raise (n.append (.slip line a d f)) = n.append e) :
    ((Event.slip line a d f :: es).foldl NoticeUnit.raise n).holds e := by
  rw [List.foldl_cons, NoticeUnit.raise_slip_first hmask hfree]
  split
  next =>
    rw [he]
    exact .inl ⟨_, List.mem_append_right _ List.mem_cons_self, rfl, rfl⟩
  next hfull =>
    exact NoticeUnit.foldl_raise_overflow (n := { n with lost := satInc n.lost }) (Nat.le_of_not_lt hfull)
      (satInc_ne_zero n.lost) es e

/-! ### The obligation -/

/-- Settles O9: each store's share is its boundary's case (`State.numberedBoundary_store`); the SLIPs its share raises merge into one event, which stands to the end of the boundary (`State.numberedBoundary_showsSlip`). -/
theorem boundaryHandlesEveryStore : Obligations.BoundaryHandlesEveryStore := by
  refine ⟨fun s order line hdue hstores htiming => ?_, fun s order ⟨hdue, hopen⟩ => ?_,
    fun s order line ⟨hdue, hopen⟩ hmask hfree => ?_⟩
  · intro e lock
    have hlock : s.lockFor line = true ↔ lock := State.lockFor_iff htiming line
    refine ⟨_, exec_boundary_numbered hdue _, ?_⟩
    rw [State.numberedBoundary_store hstores]
    refine ⟨fun oldest rest hunread hno => ?_, fun older newest hunread hyes => ?_, fun hnone htaken => ?_,
      fun hnone htaken => ?_⟩
    · rw [Bool.eq_false_iff.mpr (mt hlock.1 hno)]
      exact Store.boundary_oldest hunread _
    · rw [hlock.2 hyes]
      exact Store.boundary_newest hunread _
    · exact Store.boundary_repeat hnone htaken _ _
    · exact Store.boundary_loss hnone htaken _ _
  · intro lock n
    refine ⟨_, exec_boundary_numbered hdue _, ?_⟩
    rw [State.numberedBoundary_stores, State.takeStores, State.raiseAll_eq, hopen,
      show s.storeSlips = _ from funext (State.storeSlips_eq hopen)]
    rfl
  · intro e lock
    have hlock : s.lockFor line = true ↔ lock := State.lockFor_iff (by rw [hopen]; rfl) line
    have hself : ∀ a d f, (Event.slip line a d f).slips line = true := fun _ _ _ => decide_eq_true rfl
    refine ⟨_, exec_boundary_numbered hdue _, fun hnone htaken => ?_, fun older newest hunread holder hyes => ?_⟩
    · refine State.numberedBoundary_showsSlip (hself _ _ _) hfree (fun n hn hfree' => ?_) order
      rw [State.storeSlips_repeat hopen line hnone htaken]
      exact NoticeUnit.foldl_raise_holds (by rwa [hn]) hfree' rfl
    · refine State.numberedBoundary_showsSlip (hself _ _ _) hfree (fun n hn hfree' => ?_) order
      have hmask' : n.mask.getLsbD 1 = true := by rwa [hn]
      obtain ⟨count, hcount⟩ := Nat.exists_eq_succ_of_ne_zero (mt List.length_eq_zero_iff.1 holder)
      have hlen : (s.store line).unread.length - 1 = count + 1 := by
        rw [hunread, List.length_append, hcount]
        rfl
      rw [State.storeSlips_lock hopen line (by rw [hunread]; simp) (hlock.2 hyes), hlen, List.replicate_succ, hcount]
      refine NoticeUnit.foldl_raise_holds hmask' hfree' ?_
      rw [NoticeUnit.foldl_raise_deletes hmask' hfree']
      congr 4
      exact Nat.add_comm 1 count

end Sys2Proof.Machine
end

section
/-! CERTIFICATE. One step and the queue of commands: StepRunsFrontCommand. -/

namespace Sys2Proof.Machine

theorem step_front {s : State} {c : Instr} {rest : List Instr} (h : s.pending = c :: rest) :
    step s = exec c (s.withPending rest) := by
  rw [step, h]

theorem step_empty {s : State} (h : s.pending = []) : step s = .next s.refclkPeriod := by
  rw [step, h]

theorem State.refclkPeriod_released {s : State} (h : s.held = false) :
    s.refclkPeriod = s.withTiming { s.timing with refclk := s.timing.refclk + 1 } := by
  rw [State.refclkPeriod, h]
  rfl

/-- With RESTART_N low no REFCLK period passes (R113). -/
theorem State.refclkPeriod_ignored {s : State} (h : s.held = true) : s.refclkPeriod = s := by
  rw [State.refclkPeriod, if_pos h]

/-- Settles O1: the two branches of a step, and the two of a REFCLK period. -/
theorem stepRunsFrontCommand : Obligations.StepRunsFrontCommand := by
  refine ⟨fun c rest s hfront => step_front hfront, fun s hempty => ⟨fun hhigh => ?_, fun hlow => ?_⟩⟩
  · rw [step_empty hempty, State.refclkPeriod_released hhigh]
    rfl
  · rw [step_empty hempty, State.refclkPeriod_ignored hlow]

end Sys2Proof.Machine
end

section
/-! CERTIFICATE. STALL: StallSetsTheMark. -/

namespace Sys2Proof.Machine

/-- STALL where the locked line stalls sets the mark (R105). -/
theorem exec_stall_due {s : State} (h : s.stalls = true) :
    exec .stall s = .next (s.withTiming { s.timing with stall := true }) := by
  rw [exec, execStall, if_pos h]

/-- A stall places the next boundary (R105). -/
theorem Timing.placed_stall {t : Timing} {line : Line} (hsel : t.selector.line = some line) (hstall : t.stall = true) :
    t.placed = true := by
  simp only [Timing.placed, hsel, hstall, Bool.true_or]

/-- The boundary that a stall places is no lock boundary (R103, R105). -/
theorem Timing.lockBoundary_stall {t : Timing} (hstall : t.stall = true) : t.lockBoundary = none := by
  rw [Timing.lockBoundary_eq, if_pos (.inl hstall)]

/-- Settles O8: the conditions given are those of a stall (`State.stalls`), and the mark places the boundary. -/
theorem stallSetsTheMark : Obligations.StallSetsTheMark := by
  intro s line hheld hopen hsel hoff hpoint hstall hcount t
  have hstalls : s.stalls = true := by
    simp [State.stalls, hheld, hopen, hsel, hoff, hpoint, hstall, hcount]
  exact ⟨exec_stall_due hstalls, Timing.placed_stall (t := t.timing) hsel rfl, Timing.lockBoundary_stall rfl⟩

end Sys2Proof.Machine
end

section
/-! CERTIFICATE. The locked line's half-frame point: HalfFramePointPlacesTheBoundary. -/

namespace Sys2Proof.Machine

section counted
variable {t : Timing} {line : Line} {len : Nat} {f : RxFramer}

/-- A bit period of another line than the locked one counts for nothing (R102). -/
theorem Timing.linePeriod_other (h : t.selector.line ≠ some line) : t.linePeriod line len f = t := by
  rw [Timing.linePeriod, if_neg h]

theorem Timing.stopped_other (h : t.selector.line ≠ some line) : t.stopped line = t := by
  rw [Timing.stopped_eq, if_neg fun hs => h hs.1]

/-- A bit period of the locked line that leaves its framer ALIGNED (R102, R103). -/
theorem Timing.linePeriod_locked (hsel : t.selector.line = some line) (hf : f.state = .aligned) :
    t.linePeriod line len f =
      { t with
        lineBits := t.lineBits + 1, startSeen := t.startSeen || f.bits.length = 1
        pointReached := t.pointReached || t.reaches line len f.bits.length } := by
  rw [Timing.linePeriod, if_pos hsel, if_pos hf]

/-- The bit period that places the next boundary, in the words of the statements (R102 to R105). -/
theorem Timing.reaches_iff (hsel : t.selector.line = some line) (bits : Nat) :
    t.reaches line len (bits + 1) = true
      ↔ (t.pointReached = false ∧ t.offLine = none ∧ t.refclk < 2 * t.periodInForce.toNat) ∧ bits = len / 2
        ∧ (t.lockPending ≠ some line ∧ t.startSeen = true
          ∨ t.lockPending = some line ∧ len / 2 ≤ t.lineBits) := by
  rw [← Timing.settled_eq_false_iff, Timing.reaches]
  by_cases hlock : t.lockPending = some line <;> simp [hsel, hlock, and_assoc]

/-- A bit of the frame in progress is no frame start; it may be the one that places the next boundary (R102, R103, R105). -/
theorem Timing.linePeriod_collected (hsel : t.selector.line = some line) (hf : f.state = .aligned)
    (hoff : t.offLine = none) {bits : Nat} (hpos : 1 ≤ bits) (hbits : f.bits.length = bits + 1) :
    let u := t.linePeriod line len f
    u.lineBits = t.lineBits + 1 ∧ u.startSeen = t.startSeen ∧ u.offLine = none
      ∧ (u.pointReached = true ↔
          t.pointReached = true
            ∨ (bits = len / 2 ∧ t.refclk < 2 * t.periodInForce.toNat
              ∧ ((t.lockPending ≠ some line ∧ t.startSeen = true)
                ∨ (t.lockPending = some line ∧ len / 2 ≤ t.lineBits)))) := by
  rw [Timing.linePeriod_locked hsel hf, hbits]
  refine ⟨rfl, by simp [Nat.ne_of_gt hpos], hoff, ?_⟩
  rw [Bool.or_eq_true, Timing.reaches_iff hsel]
  cases t.pointReached <;> simp [hoff, and_left_comm]

/-- The first bit of a frame is a frame start, and not the one that places the next boundary (R102). -/
theorem Timing.linePeriod_started (hsel : t.selector.line = some line) (hf : f.state = .aligned)
    (hoff : t.offLine = none) (hhalf : 1 ≤ len / 2) (hbits : f.bits.length = 1) :
    let u := t.linePeriod line len f
    u.lineBits = t.lineBits + 1 ∧ u.startSeen = true ∧ u.offLine = none ∧ u.pointReached = t.pointReached := by
  have hnot : t.reaches line len 1 = false := Bool.eq_false_iff.mpr fun h => by
    obtain ⟨-, hzero, -⟩ := (Timing.reaches_iff hsel 0).mp h
    omega
  rw [Timing.linePeriod_locked hsel hf, hbits, hnot]
  exact ⟨rfl, Bool.or_true _, hoff, Bool.or_false _⟩

end counted

/-- Of a bit period that loses nothing the Timing Unit counts what the framer makes of it (R102). -/
theorem State.rxPeriod_timing_kept {s : State} {line : Line} {x : RxSample} {f : RxFramer} {act : FramerAct}
    (h : (s.port line).outcome x = (f, act)) (hact : act ≠ .lost) :
    (s.rxPeriod line x).timing = s.timing.linePeriod line (s.port line).record.frameBits f := by
  rw [State.rxPeriod_timing, if_neg (by rw [h]; exact hact), State.countedBy, h]

/-- A bit period of another line than the locked one leaves the Timing Unit as it is (R102, R104). -/
theorem State.rxPeriod_timing_other {s : State} {line : Line} (h : s.timing.selector.line ≠ some line) (x : RxSample) :
    (s.rxPeriod line x).timing = s.timing := by
  rw [State.rxPeriod_timing, Timing.stopped_other h, ite_self, State.countedBy, Timing.linePeriod_other h]

/-- Settles O30: a bit of the frame in progress is collected and a frame end starts the next frame (`RxFramer.judging_collect`, `RxFramer.judging_frameEnd`); `Timing.linePeriod` counts either. -/
theorem halfFramePointPlacesTheBoundary : Obligations.HalfFramePointPlacesTheBoundary := by
  intro s line sync data hheld haligned hoff t p half bits pulse period
  have hexec : exec period s = .next (s.rxPeriod line ⟨sync, data⟩) := exec_bitPeriod_released hheld line sync data
  have hpulse : p.pulseIn ⟨sync, data⟩ = true ↔ pulse := LinePort.pulseIn_iff
  have houtcome := LinePort.outcome_aligned haligned ⟨sync, data⟩
  refine ⟨fun hsel hpos hmid hmiss => ⟨_, hexec, ?_⟩, fun hsel hend hhalf hmiss => ⟨_, hexec, ?_⟩,
    fun hother => ⟨_, hexec, State.rxPeriod_timing_other hother _⟩⟩
  · rw [RxFramer.judging_collect hmid (hmiss.imp_left fun h => Bool.eq_false_iff.mpr (mt hpulse.mp h))] at houtcome
    rw [State.rxPeriod_timing_kept houtcome nofun]
    refine Timing.linePeriod_collected hsel ?_ hoff hpos (List.length_append ..)
    exact haligned
  · rw [RxFramer.judging_frameEnd hend (hmiss.imp_left hpulse.mpr)] at houtcome
    rw [State.rxPeriod_timing_kept houtcome nofun]
    exact Timing.linePeriod_started hsel rfl hoff hhalf rfl

end Sys2Proof.Machine
end

section
/-! SUPPORT. The checks of Set Reference and Set Probe, field by field (R110, R138). -/

namespace Sys2Proof.Machine

/-! ### Set Reference -/

/-- A line that may be absent is read back from its octet: no line number is FFh (R98). -/
theorem lineOf_optionalLine (l : Option Line) : lineOf (optionalLine l) = l := by
  revert l; decide

/-- The octet of a line that may be absent is in range just for a line number or FFh (R110). -/
theorem optionalLine_inRange (b : Byte) :
    decide (b.toNat ≤ 7 ∨ b = 0xFF) = !(b ≠ 0xFF && (lineOf b).isNone) := by
  revert b; decide

theorem lineOf_inj {b c : Byte} {l : Line} (h : lineOf b = some l) : lineOf c = some l ↔ c = b := by
  refine ⟨fun hc => ?_, fun hc => hc ▸ h⟩
  unfold lineOf at h hc
  split at h
  next =>
    split at hc
    next =>
      exact BitVec.eq_of_toNat_eq (Fin.mk.inj (Option.some.inj (hc.trans h.symm)))
    next => cases hc
  next => cases h

theorem halfOf_toNat (high low : Byte) : (halfOf high low).toNat = 256 * high.toNat + low.toNat := by
  rw [halfOf, BitVec.toNat_append, ← Nat.shiftLeft_add_eq_or_of_lt low.isLt, Nat.shiftLeft_eq, Nat.mul_comm]

/-- Settings in range are read back from their octets (R110, R204). -/
theorem parseSetReference_octets {primary : Line} {secondary : Option Line} {period : Half}
    (hsecond : secondary ≠ some primary) (hperiod : 256 ≤ period.toNat) (revertive : Bool) :
    parseSetReference (octet primary.val) (optionalLine secondary) (flagOctet revertive)
      (period.extractLsb' 8 8) (period.extractLsb' 0 8) = .ok (primary, secondary, revertive, period) := by
  have hprimary : lineOf (octet primary.val) = some primary := lineOf_octet primary
  have hflag : flagOf (flagOctet revertive) = some revertive := flagOf_octet revertive
  have hrange : (optionalLine secondary ≠ 0xFF && secondary.isNone) = false := by
    cases secondary with
    | none => rfl
    | some l => exact Bool.and_false _
  simp only [parseSetReference, hprimary, hflag, lineOf_optionalLine, hrange, halfOf_octets, hsecond,
    Nat.not_lt.mpr hperiod, Bool.false_eq_true, if_false]

/-- The DETAIL reported is that of the first check that fails; two of the five checks are of the secondary (R110). -/
theorem parseSetReference_error {primary secondary revertive high low : Byte} {check : Nat}
    (h : [decide (primary.toNat ≤ 7), decide (secondary.toNat ≤ 7 ∨ secondary = 0xFF),
      decide (secondary ≠ primary), decide (revertive.toNat ≤ 1),
      decide (256 ≤ 256 * high.toNat + low.toNat)].idxOf? false = some check) :
    ∃ place, parseSetReference primary secondary revertive high low = .error place
      ∧ octet place = ([0, 1, 1, 2, 3] : List Byte).getD check 0 := by
  rw [← lineOf_isSome, ← flagOf_isSome, ← halfOf_toNat, optionalLine_inRange] at h
  unfold parseSetReference
  cases hline : lineOf primary with
  | none =>
    obtain rfl : 0 = check := by simpa [hline, List.idxOf?_cons] using h
    exact ⟨0, rfl, rfl⟩
  | some line =>
    simp only [lineOf_inj hline]
    generalize (secondary ≠ 0xFF && (lineOf secondary).isNone) = noLine, flagOf revertive = flag? at h ⊢
    by_cases hsame : secondary = primary
    · obtain rfl | rfl : 1 = check ∨ 2 = check := by
        cases noLine <;> simp [hline, hsame, List.idxOf?_cons] at h <;> simp [h]
      all_goals exact ⟨1, by simp [hsame], rfl⟩
    match noLine, flag? with
    | true, _ =>
      obtain rfl : 1 = check := by simpa [hline, List.idxOf?_cons] using h
      exact ⟨1, rfl, rfl⟩
    | false, none =>
      obtain rfl : 3 = check := by simpa [hline, hsame, List.idxOf?_cons] using h
      exact ⟨2, by simp [hsame], rfl⟩
    | false, some _ =>
      by_cases hperiod : 256 ≤ (halfOf high low).toNat
      · simp [hline, hsame, hperiod, List.idxOf?_cons] at h
      · obtain rfl : 4 = check := by simpa [hline, hsame, hperiod, List.idxOf?_cons] using h
        exact ⟨3, by simp [hsame, Nat.lt_of_not_le hperiod], rfl⟩

/-! ### Set Probe -/

theorem probeOf_isSome (b : Byte) : (probeOf b).isSome = decide (b.toNat ≤ 3) := by
  revert b; decide

theorem probeModeOf_isSome (b : Byte) : (probeModeOf b).isSome = decide (b.toNat ≤ 2) := by
  revert b; decide

theorem sideOf_isSome (b : Byte) : (sideOf b).isSome = decide (b.toNat ≤ 1) := by
  revert b; decide

theorem slotOf_isSome (b : Byte) : (slotOf b).isSome = decide (b.toNat ≤ 63) := by
  revert b; decide

/-- A configuration is read back from its octets (R138, R204). -/
theorem parseSetProbe_octets (i : ProbeIndex) (mode : ProbeMode) (side : Side) (line : Line) (slot : Slot)
    (value mask : Word) :
    parseSetProbe (octet i.val) mode.code side.code (octet line.val) (octet slot.val) value mask
      = .ok (i, { mode := mode, side := side, line := line, slot := slot, value := value, mask := mask
                  hits := 0, last := none, capture := none }) := by
  simp only [parseSetProbe, octet, probeOf_octet, probeModeOf_octet, sideOf_octet, lineOf_octet, slotOf_octet]

/-- The place reported is that of the first field out of range, in the order of the request (R138). -/
theorem parseSetProbe_error {probe mode side line slot : Byte} {place : Nat}
    (h : [decide (probe.toNat ≤ 3), decide (mode.toNat ≤ 2), decide (side.toNat ≤ 1), decide (line.toNat ≤ 7),
      decide (slot.toNat ≤ 63)].idxOf? false = some place) (value mask : Word) :
    parseSetProbe probe mode side line slot value mask = .error place := by
  rw [← probeOf_isSome, ← probeModeOf_isSome, ← sideOf_isSome, ← lineOf_isSome, ← slotOf_isSome] at h
  rw [parseSetProbe]
  generalize probeOf probe = probe?, probeModeOf mode = mode?, sideOf side = side?, lineOf line = line?,
    slotOf slot = slot? at h ⊢
  match probe?, mode?, side?, line?, slot? with
  | none, _, _, _, _ => simpa [List.idxOf?_cons] using h
  | some _, none, _, _, _ => simpa [List.idxOf?_cons] using h
  | some _, some _, none, _, _ => simpa [List.idxOf?_cons] using h
  | some _, some _, some _, none, _ => simpa [List.idxOf?_cons] using h
  | some _, some _, some _, some _, none => simpa [List.idxOf?_cons] using h
  | some _, some _, some _, some _, some _ => simp [List.idxOf?_cons] at h

end Sys2Proof.Machine
end

section
/-! CERTIFICATE. Set Reference, Set Pattern and Set Probe: SettingsAreWritten. -/

namespace Sys2Proof.Machine

section request
variable {s : State} {r : Request} {rest : List Request} (ht : s.takes r rest)
include ht

theorem exec_setReference (hk : r.kind = 0x10) : exec .setReference s = .next (setReference r (s.taken rest)) :=
  congrArg _ (State.serve_takes ht (ofKind_true hk))

theorem exec_setPattern (hk : r.kind = 0x1A) : exec .setPattern s = .next (setPattern r (s.taken rest)) :=
  congrArg _ (State.serve_takes ht (ofKind_true hk))

theorem exec_setProbe (hk : r.kind = 0x30) : exec .setProbe s = .next (setProbe r (s.taken rest)) :=
  congrArg _ (State.serve_takes ht (ofKind_true hk))

/-- An accepted Set Reference (R111). -/
theorem exec_setReference_accepted (hk : r.kind = 0x10) {primary : Line} {secondary : Option Line} {revertive : Bool}
    {period : Half} (hsecond : secondary ≠ some primary) (hperiod : 256 ≤ period.toNat)
    (hp : r.payload = [octet primary.val, optionalLine secondary, flagOctet revertive] ++ halfOctets period) :
    exec .setReference s = .next
      ((s.withTiming
          { s.timing with
            primary := primary, secondary := secondary, revertive := revertive
            freePeriod := period }).withEngine
        (s.engine.answered rest (finalResponse r rest .ok (r.payload ++ wordOctets (s.timing.sfn + 1)) false))) := by
  rw [exec_setReference ht hk, hp]
  simp only [setReference, hp, halfOctets, List.cons_append, List.nil_append,
    parseSetReference_octets hsecond hperiod]
  exact congrArg _ (State.answer_after (by rfl) ..)

/-- A Set Reference that fails a check changes nothing but the engine (R110). -/
theorem exec_setReference_refused (hk : r.kind = 0x10) {p q v a b : Byte} (hp : r.payload = [p, q, v, a, b]) {place : Nat}
    (h : parseSetReference p q v a b = .error place) :
    exec .setReference s = .next (s.answered r rest .badValue [octet place]) := by
  rw [exec_setReference ht hk]
  simp only [setReference, hp, h]
  rw [State.taken_answer]

/-- An accepted Set Pattern (R18). -/
theorem exec_setPattern_accepted (hk : r.kind = 0x1A) {i : PatternIndex} {value : Word}
    (hp : r.payload = BitVec.ofNat 8 i.val :: wordOctets value) :
    exec .setPattern s = .next
      ((s.setPatternAt i { s.pattern i with pending := some value }).withEngine
        (s.engine.answered rest
          (finalResponse r rest .ok (BitVec.ofNat 8 i.val :: wordOctets (s.timing.sfn + 1)) false))) := by
  rw [exec_setPattern ht hk]
  simp only [setPattern, hp, wordOctets, patternOf_octet, wordOf_octets]
  exact congrArg _ (State.answer_after (by rfl) ..)

theorem exec_setPattern_refused (hk : r.kind = 0x1A) {index : Byte} {value : Word}
    (hp : r.payload = index :: wordOctets value) (h : 16 ≤ index.toNat) :
    exec .setPattern s = .next (s.answered r rest .badValue [0]) := by
  rw [exec_setPattern ht hk]
  simp only [setPattern, hp, wordOctets, (patternOf_eq_none_iff index).mpr h]
  rw [State.taken_answer]

/-- An accepted Set Probe (R138, R139). -/
theorem exec_setProbe_accepted (hk : r.kind = 0x30) {i : ProbeIndex} {mode : ProbeMode} {side : Side} {line : Line}
    {slot : Slot} {value mask : Word}
    (hp : r.payload = [octet i.val, mode.code, side.code, octet line.val, octet slot.val] ++ wordOctets value
      ++ wordOctets mask) :
    exec .setProbe s = .next
      ((s.setProbeAt i
          { mode := mode, side := side, line := line, slot := slot, value := value, mask := mask
            hits := 0, last := none, capture := none }).withEngine
        (s.engine.answered rest (finalResponse r rest .ok (octet i.val :: wordOctets (s.timing.sfn + 1)) false))) := by
  rw [exec_setProbe ht hk]
  simp only [setProbe, hp, wordOctets, List.cons_append, List.nil_append, wordOf_octets, parseSetProbe_octets]
  exact congrArg _ (State.answer_after (by rfl) ..)

theorem exec_setProbe_refused (hk : r.kind = 0x30) {probe mode side line slot : Byte} {value mask : Word} {place : Nat}
    (hp : r.payload = [probe, mode, side, line, slot] ++ wordOctets value ++ wordOctets mask)
    (h : ∀ value mask, parseSetProbe probe mode side line slot value mask = .error place) :
    exec .setProbe s = .next (s.answered r rest .badValue [octet place]) := by
  rw [exec_setProbe ht hk]
  simp only [setProbe, hp, wordOctets, List.cons_append, List.nil_append, h]
  rw [State.taken_answer]

end request

/-- Settles O44: fields in range are read back from their octets, and the first check that fails gives the DETAIL (`parseSetReference_error`, `parseSetProbe_error`). -/
theorem settingsAreWritten : Obligations.SettingsAreWritten := by
  refine ⟨fun s r rest primary secondary revertive period ht hk hsecond hperiod => ?_,
    fun s r rest i value ht hk hp => ?_, fun s r rest i mode side line slot value mask ht hk hp => ?_,
    fun s r rest ht => ⟨fun primary secondary revertive high low check hk hp hcheck => ?_,
      fun index value hk hp hindex => ?_, fun probe mode side line slot value mask place hk hp hplace => ?_⟩⟩
  · intro octets hp
    have hoctets : octets = [octet primary.val, optionalLine secondary, flagOctet revertive] ++ halfOctets period := by
      cases secondary <;> rfl
    rw [exec_setReference_accepted ht hk hsecond hperiod (hp.trans hoctets), hp]
    rfl
  · exact exec_setPattern_accepted ht hk hp
  · exact exec_setProbe_accepted ht hk hp
  · obtain ⟨place, hparse, hdetail⟩ := parseSetReference_error hcheck
    rw [← hdetail]
    exact exec_setReference_refused ht hk hp hparse
  · exact exec_setPattern_refused ht hk hp hindex
  · exact exec_setProbe_refused ht hk hp (parseSetProbe_error hplace)

end Sys2Proof.Machine
end

section
/-! SUPPORT. Where the next boundary has been placed, and the bit period that places it, in the words of the statements (R101 to R105). -/

namespace Sys2Proof.Machine

/-! ### The placing of a boundary -/

theorem Selector.exists_line {sel : Selector} (h : sel ≠ .free) : ∃ line, sel.line = some line := by
  cases sel with
  | free => exact absurd rfl h
  | primary line => exact ⟨line, rfl⟩
  | secondary line => exact ⟨line, rfl⟩

section placed
variable {t : Timing} {line : Line}

/-- In FREE the free period in force places the boundary (R101). -/
theorem Timing.placed_free (hsel : t.selector = .free) : t.placed = decide (t.periodInForce.toNat ≤ t.refclk) := by
  rw [Timing.placed, hsel]
  rfl

/-- A line that supplies frame starts places it by its point (R102, R103). -/
theorem Timing.placed_point (hsel : t.selector.line = some line) (hstall : t.stall = false) (hoff : t.offLine = none) :
    t.placed = t.pointReached := by
  simp only [Timing.placed, hsel, hstall, hoff, Bool.false_or]

/-- After the line stopped supplying them REFCLK places it (R104). -/
theorem Timing.placed_stopped (hsel : t.selector.line = some line) (hstall : t.stall = false) {count : Nat}
    (hoff : t.offLine = some count) :
    t.placed = decide (t.periodInForce.toNat ≤ t.refclk ∧ count < t.refclk) := by
  simp only [Timing.placed, hsel, hstall, hoff, Bool.false_or, Bool.decide_and]

end placed

section closed
variable {s : State} (hheld : s.held = false) (hopen : s.opening.isOpen = false)

include hheld hopen in
/-- With no share of it taken, a boundary falls just where it has been placed (R99). -/
theorem State.boundaryDue_closed : s.boundaryDue = s.timing.placed := by
  simp only [State.boundaryDue, hheld, hopen, Bool.not_false, Bool.true_and, Bool.false_or]

include hopen in
/-- With no share of it taken, a boundary is the restart boundary where the transmitter is STOPPED with no move pending (R161, R174). -/
theorem State.restartDue_closed :
    s.restartDue = decide (s.link.transmitter = .stopped ∧ s.link.pendingMove = none) := by
  simp only [State.restartDue, hopen, Bool.not_false, Bool.true_and, Bool.decide_and,
    Bool.decide_eq_true, ← Option.isNone_iff_eq_none]

include hheld hopen in
/-- The bit period of the locked line that places the boundary (R102 to R105). -/
theorem State.placesBoundary_iff {line : Line} (hsel : s.timing.selector.line = some line) :
    s.placesBoundary line = true ↔
      s.timing.stall = false ∧ (s.port line).rx.state = .aligned ∧ s.timing.pointReached = false
        ∧ s.timing.offLine = none ∧ s.timing.refclk < 2 * s.timing.periodInForce.toNat
        ∧ (s.port line).rx.bits.length = (s.port line).record.frameBits / 2
        ∧ (s.timing.lockPending = some line → (s.port line).record.frameBits / 2 ≤ s.timing.lineBits)
        ∧ (s.timing.lockPending ≠ some line → s.timing.startSeen = true) := by
  simp only [State.placesBoundary, hheld, hopen, Bool.not_false, Bool.true_and, Bool.and_eq_true, Bool.not_eq_true',
    decide_eq_true_eq, Timing.reaches_iff hsel]
  by_cases hlock : s.timing.lockPending = some line <;> simp [hlock, and_assoc]

end closed

/-! ### BOUNDARY by where the boundary falls -/

section boundary
variable {s : State} {order : BoundaryOrder}

/-- BOUNDARY where the boundary is due (R99). -/
theorem exec_boundary_due (hdue : s.boundaryDue = true) : exec (.boundary order) s = .next (s.takeBoundary order) := by
  rw [exec, execBoundary, if_pos hdue]

/-- BOUNDARY given the bit period that places the boundary (R102, R103). -/
theorem exec_boundary_within (hdue : s.boundaryDue = false) (hwithin : s.placedWithin order.within = true) :
    exec (.boundary order) s = .next (s.pointTaken.takeBoundary order) := by
  rw [exec, execBoundary, if_neg (Bool.eq_false_iff.mp hdue), if_pos hwithin]

/-- BOUNDARY where no boundary falls (log 2, log 4). -/
theorem exec_boundary_notDue (hdue : s.boundaryDue = false) (hwithin : s.placedWithin order.within = false) :
    exec (.boundary order) s = .next s := by
  rw [exec, execBoundary, if_neg (Bool.eq_false_iff.mp hdue), if_neg (Bool.eq_false_iff.mp hwithin)]

/-- No bit period given, none places the boundary. -/
theorem State.placedWithin_nil (s : State) : s.placedWithin [] = false := by
  cases hsel : s.timing.selector.line <;> simp [State.placedWithin, hsel]

/-- Given one bit period of the locked line, that one places the boundary or none does. -/
theorem State.placedWithin_locked {line : Line} (hsel : s.timing.selector.line = some line) (x : RxSample)
    (before : Option Taker) : s.placedWithin [⟨line, x, before⟩] = s.placesBoundary line := by
  simp [State.placedWithin, hsel]

end boundary

/-- A bit period that falls together with the boundary and after it is one that comes after it; none falls together with the restart boundary (R62, R80). -/
theorem State.takeBoundary_last {s : State} (hopen : s.opening.isOpen = false) (order : List Taker) (line : Line)
    (x : RxSample) :
    s.takeBoundary ⟨order, [⟨line, x, none⟩]⟩ =
      if s.link.transmitter = .stopped ∧ s.link.pendingMove = none then s.takeBoundary ⟨order, []⟩
      else (s.takeBoundary ⟨order, []⟩).rxPeriod line x := by
  simp only [State.takeBoundary, State.restartDue_closed hopen, decide_eq_true_eq]
  split
  · rfl
  · exact s.numberedBoundary_last order line x

end Sys2Proof.Machine
end

section
/-! CERTIFICATE. Where a numbered boundary falls: BoundaryFallsWhereItIsPlaced. -/

namespace Sys2Proof.Machine

section closed
variable {s : State} (hheld : s.held = false) (hopen : s.opening.isOpen = false) (order : List Taker)
include hheld hopen

/-- A boundary that has been placed and is not the restart boundary falls as boundary N = SFN + 1 (R99, R114). -/
theorem State.boundary_falls (hlaw : s.openingLaw)
    (hnumbered : s.link.transmitter ≠ .stopped ∨ s.link.pendingMove ≠ none) (hplaced : s.timing.placed = true) :
    ∃ t, exec (.boundary ⟨order, []⟩) s = .next t ∧ t.timing.sfn = s.timing.sfn + 1 := by
  have hrestart : s.restartDue = false := by
    rw [State.restartDue_closed hopen, decide_eq_false_iff_not, not_and_or]
    exact hnumbered
  have hdue : s.numberedDue = true := by
    rw [State.numberedDue, State.boundaryDue_closed hheld hopen, hplaced, hrestart]
    rfl
  refine ⟨_, exec_boundary_numbered hdue _, ?_⟩
  rw [State.numberedBoundary_timing, State.timingAfter_fresh (hlaw hopen)]
  rfl

/-- A boundary that has not been placed, with no bit period given, does not fall (log 2, log 4). -/
theorem State.boundary_stays (hplaced : ¬ s.timing.placed = true) : exec (.boundary ⟨order, []⟩) s = .next s :=
  exec_boundary_notDue ((State.boundaryDue_closed hheld hopen).trans (Bool.eq_false_iff.mpr hplaced))
    s.placedWithin_nil

end closed

/-- Settles O7: where `Timing.placed` or `State.placesBoundary` holds in the words of each clause the boundary falls, else it does not; a bit period after it is `State.takeBoundary_last`. -/
theorem boundaryFallsWhereItIsPlaced : Obligations.BoundaryFallsWhereItIsPlaced := by
  unfold Obligations.BoundaryFallsWhereItIsPlaced
  intro next
  refine ⟨fun s order hheld hopen hlaw hnumbered => ?_, fun s order line x hheld hopen hlaw hsel => ?_,
    fun s order line x hheld hopen hlaw hplaced => ?_⟩
  · intro falls stays fallsByRefclk
    have hfalls : s.timing.placed = true → falls := State.boundary_falls hheld hopen order hlaw hnumbered
    have hstays : ¬ s.timing.placed = true → stays := State.boundary_stays hheld hopen order
    have hcases : ∀ {c : Prop}, (s.timing.placed = true ↔ c) → (c → falls) ∧ (¬ c → stays) := fun hc =>
      ⟨fun h => hfalls (hc.mpr h), fun h => hstays (mt hc.mp h)⟩
    refine ⟨fun hfree => ?_, fun hlocked hstall hoff => ?_, fun count hlocked hstall hoff => ?_, fun hlocked hstall => ?_⟩
    · exact hcases (by rw [Timing.placed_free hfree, decide_eq_true_iff])
    · obtain ⟨line, hsel⟩ := Selector.exists_line hlocked
      rw [← Bool.not_eq_true]
      exact hcases (by rw [Timing.placed_point hsel hstall hoff])
    · obtain ⟨line, hsel⟩ := Selector.exists_line hlocked
      exact hcases (by rw [Timing.placed_stopped hsel hstall hoff, decide_eq_true_iff])
    · obtain ⟨line, hsel⟩ := Selector.exists_line hlocked
      exact hfalls (Timing.placed_stall hsel hstall)
  · intro t p half places
    have hplaces : s.placesBoundary line = true ↔ places := State.placesBoundary_iff hheld hopen hsel
    refine ⟨fun hyes => ?_, fun hno hunplaced before => ?_⟩
    · obtain ⟨hstall, -, hpoint, hoff, -⟩ := id hyes
      have hunplaced : s.boundaryDue = false := by
        rw [State.boundaryDue_closed hheld hopen, Timing.placed_point hsel hstall hoff, hpoint]
      have htaken : s.pointTaken.boundaryDue = true := by
        rw [State.boundaryDue_closed (s := s.pointTaken) hheld hopen]
        exact Timing.placed_point (t := s.pointTaken.timing) hsel hstall hoff
      refine ⟨_, exec_boundary_due htaken, ?_⟩
      rw [exec_boundary_within hunplaced ((State.placedWithin_locked hsel x none).trans (hplaces.mpr hyes)),
        State.takeBoundary_last (s := s.pointTaken) hopen]
      rfl
    · refine exec_boundary_notDue ((State.boundaryDue_closed hheld hopen).trans hunplaced) ?_
      rw [State.placedWithin_locked hsel, Bool.eq_false_iff]
      exact mt hplaces.mp hno
  · have hdue : s.boundaryDue = true := (State.boundaryDue_closed hheld hopen).trans hplaced
    refine ⟨_, exec_boundary_due hdue, ?_⟩
    rw [exec_boundary_due hdue, State.takeBoundary_last hopen]

end Sys2Proof.Machine
end

section
/-! SUPPORT. REFERENCE events in the notice queue: which acts of a boundary bring none (R108, R189 to R195). -/

namespace Sys2Proof.Machine

/-! ### The events of the notice queue -/

/-- The event is a REFERENCE (R187). -/
def Event.refers : Event → Bool
  | .reference _ _ _ _ => true
  | _ => false

/-- The events of the notice queue, in order; their numbers set aside (R188). -/
def NoticeUnit.events (n : NoticeUnit) : List Event :=
  n.queue.map NoticeRecord.event

/-- Every REFERENCE in the notice queue is one of these events. -/
def NoticeUnit.RefersWithin (n : NoticeUnit) (known : List Event) : Prop :=
  ∀ e ∈ n.events, e.refers = true → e ∈ known

theorem Event.refers_of_merges {e : Event} (h : e.merges = true) : e.refers = false := by
  match e, h with
  | .slip _ _ _ _, _ => rfl

/-- A merge only changes a SLIP (R190). -/
theorem mergeSlip_events {line : Line} {a d : Half} {q q' : List NoticeRecord} (h : mergeSlip line a d q = some q') :
    ∀ e ∈ q'.map NoticeRecord.event, e ∈ q.map NoticeRecord.event ∨ e.merges = true := by
  induction q generalizing q' with
  | nil => cases h
  | cons x xs ih =>
    have hrest : (mergeSlip line a d xs).map (x :: ·) = some q' →
        ∀ e ∈ q'.map NoticeRecord.event, e ∈ (x :: xs).map NoticeRecord.event ∨ e.merges = true := by
      intro h
      obtain ⟨ys, hys, rfl⟩ := Option.map_eq_some_iff.mp h
      exact List.forall_mem_cons.mpr
        ⟨.inl List.mem_cons_self, fun e he => (ih hys e he).imp_left (List.mem_cons_of_mem _)⟩
    rw [mergeSlip] at h
    split at h
    next =>
      split at h
      · cases h
        exact List.forall_mem_cons.mpr ⟨.inr rfl, fun e he => .inl (List.mem_cons_of_mem _ he)⟩
      · exact hrest h
    next => exact hrest h

/-- Raising an event brings that event alone into the queue, beside the SLIP of a merge (R189). -/
theorem NoticeUnit.raise_events (n : NoticeUnit) (e : Event) :
    ∀ x ∈ (n.raise e).events, x ∈ n.events ∨ x = e ∨ x.merges = true := by
  unfold NoticeUnit.raise
  split
  · exact fun _ => .inl
  split
  next q hq =>
    unfold mergeEvent at hq
    split at hq
    next => exact fun x hx => (mergeSlip_events hq x hx).imp_right .inr
    next => cases hq
  next =>
    split
    · intro x hx
      rw [NoticeUnit.events, NoticeUnit.append, List.map_append, List.mem_append] at hx
      exact hx.imp_right fun h => .inl (List.mem_singleton.mp h)
    · exact fun _ => .inl

/-- A good message brings at most EVENTS_LOST into the queue (R191, R195). -/
theorem NoticeUnit.goodMessage_events (n : NoticeUnit) (kind seq : Byte) :
    ∀ x ∈ (n.goodMessage kind seq).events, x ∈ n.events ∨ x = .eventsLost n.lost := by
  by_cases hacks : n.acks kind seq
  · have hdrop : ∀ x ∈ (n.queue.drop 1).map NoticeRecord.event, x ∈ n.events := fun x hx =>
      ((List.drop_sublist 1 n.queue).map NoticeRecord.event).mem hx
    rw [NoticeUnit.goodMessage_acks hacks, NoticeUnit.removeHead_eq, NoticeUnit.events]
    intro x hx
    simp only at hx
    split at hx
    · exact .inl (hdrop x hx)
    · rw [List.map_append, List.mem_append] at hx
      exact hx.imp (hdrop x) List.mem_singleton.mp
  · rw [NoticeUnit.goodMessage_released hacks, NoticeUnit.released]
    split <;> exact fun _ => .inl

/-- Starting the head only numbers it (R193). -/
theorem NoticeUnit.start_events (n : NoticeUnit) : n.start.events = n.events := by
  unfold NoticeUnit.start
  split
  next => rfl
  next x xs hq =>
    split
    next => rfl
    next => rw [NoticeUnit.events, NoticeUnit.events, hq]; rfl

/-- The timer leaves the queue as it is (R194, R196). -/
theorem State.noticeBoundary_events (s : State) (ran : Bool) : (s.noticeBoundary ran).notices.events = s.notices.events := by
  unfold State.noticeBoundary
  split
  · rw [State.withNotices_notices, NoticeUnit.tick]
    split <;> rfl
  · rfl

/-- The transmitter does no more to the notice queue than to start its head (R193, R194). -/
theorem State.fillFrame_events (s : State) : s.fillFrame.notices.events = s.notices.events := by
  have hnotice : ∀ u : State, u.startNotice.notices.events = u.notices.events := fun u => by
    simp only [State.startNotice]
    split
    · rfl
    · exact u.notices.start_events
  have hready : ∀ u : State, u.readied.notices.events = u.notices.events := fun u => by
    unfold State.readied State.chooseMessage
    split
    · split
      · split
        · exact hnotice u
        · rfl
      · split
        · exact hnotice u
        · rfl
    · rfl
  have hslot : ∀ u : State, u.fillSlot.notices.events = u.notices.events := fun u => by
    rw [← hready u, State.fillSlot]
    split
    next m next _ => exact congrArg (List.map NoticeRecord.event) (State.placeOctet_queue _ m next)
    next => rfl
    next => rfl
  have hslots : ∀ (n : Nat) (u : State), (State.fillSlots n u).notices.events = u.notices.events := by
    intro n
    induction n with
    | zero => exact fun _ => rfl
    | succ n ih => exact fun u => (ih _).trans (hslot u)
  exact hslots _ s

/-! ### Acts that bring no REFERENCE -/

section known
variable {known : List Event}

theorem NoticeUnit.RefersWithin.of_events {n n' : NoticeUnit} (h : n.RefersWithin known) (he : n'.events = n.events) :
    n'.RefersWithin known := by
  rwa [NoticeUnit.RefersWithin, he]

theorem NoticeUnit.RefersWithin.raise {n : NoticeUnit} (h : n.RefersWithin known) {e : Event} (he : e.refers = false) :
    (n.raise e).RefersWithin known := by
  intro x hx hrefers
  obtain hx | rfl | hmerges := n.raise_events e x hx
  · exact h x hx hrefers
  · rw [he] at hrefers; cases hrefers
  · rw [Event.refers_of_merges hmerges] at hrefers; cases hrefers

theorem NoticeUnit.RefersWithin.raiseAll {s : State} (h : s.notices.RefersWithin known) {es : List Event}
    (hes : ∀ e ∈ es, e.refers = false) : (s.raiseAll es).notices.RefersWithin known := by
  induction es generalizing s with
  | nil => exact h
  | cons e es ih =>
    obtain ⟨he, hrest⟩ := List.forall_mem_cons.mp hes
    exact ih (s := s.raise e) (h.raise he) hrest

theorem NoticeUnit.RefersWithin.goodMessage {n : NoticeUnit} (h : n.RefersWithin known) (kind seq : Byte) :
    (n.goodMessage kind seq).RefersWithin known := by
  intro x hx hrefers
  obtain hx | rfl := n.goodMessage_events kind seq x hx
  · exact h x hx hrefers
  · cases hrefers

/-- Parts 1 and 2 of the link's act raise CHANNEL alone (R177 to R180). -/
theorem State.headParts_refersWithin {s : State} (h : s.notices.RefersWithin known) :
    s.headParts.notices.RefersWithin known := by
  have hrevert : ∀ (why : MoveReason), (s.revert why).notices.RefersWithin known := fun why => by
    unfold State.revert
    split
    · exact NoticeUnit.RefersWithin.raise (by rwa [State.giveUp_notices]) rfl
    · exact h
  have htrial : s.trialPart.notices.RefersWithin known := by
    unfold State.trialPart
    split
    · exact h
    split
    · exact hrevert _
    split
    · exact hrevert _
    · exact h
  have hswitch : ∀ u : State, u.notices.RefersWithin known → u.switchPart.notices.RefersWithin known := fun u hu => by
    unfold State.switchPart
    split
    · exact hu
    split
    · exact NoticeUnit.RefersWithin.raise (by rwa [State.withEngine_notices, State.giveUp_notices]) rfl
    · rwa [State.switchTo_notices]
  exact hswitch _ htrial

/-- A frame read confirms a trial and acknowledges a head at most (R170, R179, R195). -/
theorem State.readFrame_refersWithin {s : State} (h : s.notices.RefersWithin known) :
    s.readFrame.notices.RefersWithin known := by
  have hconfirm : ∀ u : State, u.notices.RefersWithin known → u.confirm.notices.RefersWithin known := fun u hu => by
    unfold State.confirm
    split
    · exact NoticeUnit.RefersWithin.raise (by rwa [State.giveUp_notices]) rfl
    · exact hu
  have hreceive : ∀ (u : State) (b : Byte), u.notices.RefersWithin known → (u.receive b).notices.RefersWithin known := by
    intro u b hu
    obtain ⟨k, heq, -⟩ | ⟨seq, kind, payload, -, heq⟩ := u.receive_cases b
    · rwa [heq]
    · rw [heq, State.deliverGood_notices]
      exact (hconfirm (u.receiving .hunt) hu).goodMessage _ _
  have hfold : ∀ (octets : List Byte) (u : State), u.notices.RefersWithin known →
      (octets.foldl State.receive u).notices.RefersWithin known := by
    intro octets
    induction octets with
    | nil => exact fun _ => id
    | cons b rest ih => exact fun u hu => ih _ (hreceive u b hu)
  unfold State.readFrame
  split
  · exact h
  · exact hfold _ s h

theorem State.linkAct_refersWithin {s : State} (h : s.notices.RefersWithin known) :
    (s.linkAct State.readFrame).notices.RefersWithin known :=
  (State.readFrame_refersWithin (State.headParts_refersWithin h)).of_events (State.fillFrame_events _)

/-! ### The shares of a boundary -/

/-- A store raises SLIP alone (R87, R94). -/
theorem State.storeSlips_merges (s : State) (line : Line) : ∀ e ∈ s.storeSlips line, e.merges = true := by
  unfold State.storeSlips Store.boundarySlips
  intro e he
  split at he
  · cases he
  split at he
  · split at he
    · obtain ⟨-, -, rfl⟩ := List.mem_map.mp he
      rfl
    · cases he
  · split at he
    · rw [List.mem_singleton.mp he]
      rfl
    · cases he

/-- The schedule table raises SCHEDULE_DONE alone (R124). -/
theorem State.fireOnce_refers (s : State) : ∀ e ∈ s.fireOnce.2, e.refers = false := by
  have hfire : ∀ n es (u : State), ∀ e ∈ (fireAll n es u).2, e.refers = false := by
    intro n es
    induction es with
    | nil => exact fun _ => nofun
    | cons x es ih => exact fun u => List.forall_mem_cons.mpr ⟨rfl, ih _⟩
  unfold State.fireOnce
  split
  · exact nofun
  · exact hfire _ _ _

/-- With no REFERENCE due no share of a boundary brings one. -/
theorem State.takeShare_refersWithin {before : State} {found : Taker → State} (hnone : (found .timing).referenceDue = [])
    {s : State} (h : s.notices.RefersWithin known) (t : Taker) :
    (State.takeShare before found s t).notices.RefersWithin known := by
  cases t with
  | store line => exact h.raiseAll fun e he => Event.refers_of_merges (State.storeSlips_merges _ _ e he)
  | timing =>
    rw [State.takeShare, hnone]
    exact h
  | schedule => exact h.raiseAll (State.fireOnce_refers _)
  | mapController => exact h.of_events (congrArg _ (State.finishMc_notices _ _))
  | notice => exact h.of_events (s.noticeBoundary_events _)
  | link =>
    simp only [State.takeShare]
    split
    · exact h
    · exact State.linkAct_refersWithin h
  | probe i =>
    simp only [State.takeShare, State.probeBoundary]
    split
    · exact h
    split
    · exact h
    split
    · exact NoticeUnit.RefersWithin.raise (by rwa [State.setProbeAt_notices]) rfl
    · exact h

end known

/-- With no REFERENCE due a boundary brings none into the notice queue (R108). -/
theorem State.numberedBoundary_refersWithin {s : State} (hnone : s.referenceDue = []) (order : List Taker) :
    (s.numberedBoundary ⟨order, []⟩).notices.RefersWithin s.notices.events := by
  have hfold : ∀ (shares : List Taker) (u : State), u.notices.RefersWithin s.notices.events →
      (shares.foldl (State.takeShare s fun _ => s) u).notices.RefersWithin s.notices.events := by
    intro shares
    induction shares with
    | nil => exact fun _ => id
    | cons t rest ih => exact fun u hu => ih _ (State.takeShare_refersWithin hnone hu t)
  rw [State.numberedBoundary_plain]
  refine hfold _ _ ?_
  rw [State.numberedEffects_notices]
  exact fun _ he _ => he

end Sys2Proof.Machine
end

section
/-! CERTIFICATE. The evaluation at a numbered boundary and its REFERENCE event: BoundaryEvaluatesTheReference. -/

namespace Sys2Proof.Machine

/-! ### The evaluation's table -/

section select
variable {t : Timing} {aligned : Line → Bool} {test : Line → Bool} {otherwise : Selector}

/-- The secondary is locked on where it is named, passes the test and is qualified (R107). -/
theorem Timing.trySecondary_locks {m : Line} (hnamed : t.secondary = some m) (htest : test m = true)
    (hqual : t.qualified aligned m = true) : t.trySecondary aligned test otherwise = .secondary m := by
  simp only [Timing.trySecondary, hnamed, htest, hqual, Bool.and_self, if_true]

theorem Timing.trySecondary_otherwise
    (h : ∀ m, t.secondary = some m → test m = true → ¬ t.qualified aligned m = true) :
    t.trySecondary aligned test otherwise = otherwise := by
  unfold Timing.trySecondary
  split
  next m hnamed => exact if_neg fun hm => h m hnamed (Bool.and_eq_true_iff.mp hm).1 (Bool.and_eq_true_iff.mp hm).2
  next => rfl

/-- In FREE: a qualified primary, else a qualified secondary, else FREE (R107). -/
theorem Timing.select_free (hfree : t.selector.line = none) :
    (t.qualified aligned t.primary = true → t.select aligned = .primary t.primary)
      ∧ (¬ t.qualified aligned t.primary = true → ∀ m, t.secondary = some m → t.qualified aligned m = true →
          t.select aligned = .secondary m)
      ∧ (¬ t.qualified aligned t.primary = true → (∀ m, t.secondary = some m → ¬ t.qualified aligned m = true) →
          t.select aligned = .free) := by
  simp only [Timing.select, hfree]
  refine ⟨fun hprimary => if_pos hprimary, fun hprimary m hnamed hqual => ?_, fun hprimary hnone => ?_⟩
  · rw [if_neg hprimary, Timing.trySecondary_locks hnamed rfl hqual]
  · rw [if_neg hprimary, Timing.trySecondary_otherwise fun m hnamed _ => hnone m hnamed]

/-- The locked line lost: another qualified secondary, else a qualified primary, else FREE (R106, R107). -/
theorem Timing.select_lost {line : Line} (hsel : t.selector.line = some line) (hlost : t.lost aligned line = true) :
    (∀ m, t.secondary = some m → m ≠ line → t.qualified aligned m = true → t.select aligned = .secondary m)
      ∧ ((∀ m, t.secondary = some m → m ≠ line → ¬ t.qualified aligned m = true) →
          (t.qualified aligned t.primary = true → t.select aligned = .primary t.primary)
            ∧ (¬ t.qualified aligned t.primary = true → t.select aligned = .free)) := by
  simp only [Timing.select, hsel, hlost, if_true]
  refine ⟨fun m hnamed hne hqual => Timing.trySecondary_locks hnamed (bne_iff_ne.mpr hne) hqual, fun hnone => ?_⟩
  rw [Timing.trySecondary_otherwise fun m hnamed htest => hnone m hnamed (bne_iff_ne.mp htest)]
  exact ⟨fun hprimary => if_pos hprimary, fun hprimary => if_neg hprimary⟩

/-- The locked line kept: a secondary gives way to a qualified primary where the part is revertive (R107). -/
theorem Timing.select_kept {line : Line} (hsel : t.selector.line = some line) (hkept : ¬ t.lost aligned line = true) :
    (line = t.primary → t.select aligned = .primary line)
      ∧ (line ≠ t.primary →
          (t.revertive = true ∧ t.qualified aligned t.primary = true → t.select aligned = .primary t.primary)
            ∧ (¬ (t.revertive = true ∧ t.qualified aligned t.primary = true) → t.select aligned = .secondary line)) := by
  simp only [Timing.select, hsel, hkept, Bool.false_eq_true, if_false, ← Bool.and_eq_true]
  exact ⟨fun hprimary => if_pos hprimary, fun hother =>
    ⟨fun hreverts => by rw [if_neg hother, if_pos hreverts], fun hstays => by rw [if_neg hother, if_neg hstays]⟩⟩

/-- Lock pending marks a newly locked line (R103, R107). -/
theorem Timing.pendingAfter_eq :
    t.pendingAfter aligned = if (t.select aligned).line = t.selector.line then none else (t.select aligned).line := by
  unfold Timing.pendingAfter
  cases (t.select aligned).line with
  | none => exact (ite_self _).symm
  | some line => simp only [eq_comm]

end select

/-! ### The boundary -/

/-- The Timing Unit after a boundary that it has not taken ahead (R99). -/
theorem State.numberedBoundary_evaluates {s : State} (h : s.opening.timingDone = false) (order : List Taker) :
    (s.numberedBoundary ⟨order, []⟩).timing = s.timing.boundary s.aligned := by
  rw [State.numberedBoundary_timing, State.timingAfter, h]
  rfl

section event
variable {s : State} (hopen : s.opening = closedOpening) (order : List Taker)
include hopen

/-- An evaluation that changes the selector has its REFERENCE in the queue after the boundary (R108, R189). -/
theorem State.numberedBoundary_showsReference (hchanged : s.timing.select s.aligned ≠ s.timing.selector)
    (hmask : s.notices.mask.getLsbD 2 = true) :
    (s.numberedBoundary ⟨order, []⟩).notices.shows
      (.reference s.timing.selector.name (s.timing.select s.aligned).name
        (referenceLine s.timing.selector (s.timing.select s.aligned)) (s.timing.sfn + 1)) := by
  refine State.numberedBoundary_shows (t := .timing) rfl (fun u hu => State.raiseAll_holds ?_ rfl ?_) order
  · rw [State.referenceDue_fresh hopen, Timing.referenceEvents, if_neg hchanged]
    exact List.mem_singleton_self _
  · rw [hu]
    exact hmask

/-- An evaluation that changes nothing brings no REFERENCE (R108). -/
theorem State.numberedBoundary_noReference (hsame : s.timing.select s.aligned = s.timing.selector) :
    (s.numberedBoundary ⟨order, []⟩).notices.RefersWithin s.notices.events := by
  refine State.numberedBoundary_refersWithin ?_ order
  rw [State.referenceDue_fresh hopen, Timing.referenceEvents, if_pos hsame]

end event

/-- Settles O6: the Timing Unit's share is `Timing.boundary`, its table row by row; REFERENCE is raised by that share, which no other share undoes, and by no other share. -/
theorem boundaryEvaluatesTheReference : Obligations.BoundaryEvaluatesTheReference := by
  refine ⟨fun s order hdue htiming => ?_, fun s order ⟨hdue, hopen⟩ => ?_⟩
  · intro t aligned count lost
    have hcount : ∀ line, t.qualifyAfter s.aligned line = count line := fun line => by
      simp [Timing.qualifyAfter, State.aligned, count, aligned, Config.qualifyCount]
    have hqual : ∀ line, count line = 64 ↔ t.qualified s.aligned line = true := fun line => by
      rw [Timing.qualified, hcount, decide_eq_true_eq]
      rfl
    have hlost : ∀ line, lost line ↔ t.lost s.aligned line = true := fun line => by
      simp [Timing.lost, State.aligned, lost, aligned, or_assoc]
    refine ⟨_, exec_boundary_numbered hdue _, ?_⟩
    rw [State.numberedBoundary_evaluates htiming]
    simp only [ne_eq, hqual, hlost]
    refine ⟨rfl, fun line => ?_, Timing.select_free, fun line => Timing.select_lost, fun line => Timing.select_kept,
      Timing.pendingAfter_eq, rfl, rfl, rfl, rfl, rfl, rfl, rfl⟩
    exact (Vector.getElem_ofFn _).trans (hcount line)
  · intro t
    have htiming : s.opening.timingDone = false := by rw [hopen]; rfl
    refine ⟨_, exec_boundary_numbered hdue _, fun hchanged hmask => ?_, fun hsame r hr before after line frame he => ?_⟩
    · rw [State.numberedBoundary_evaluates htiming] at hchanged ⊢
      exact State.numberedBoundary_showsReference hopen order hchanged hmask
    · rw [State.numberedBoundary_evaluates htiming] at hsame
      exact List.mem_map.mp
        (State.numberedBoundary_noReference hopen order hsame r.event (List.mem_map_of_mem hr) (by rw [he]; rfl))

end Sys2Proof.Machine
end

section
/-! SUPPORT. The schedule table as a list of entries and a frame number: its law, and what placing, removing and firing entries do to it (R115 to R121). -/

namespace Sys2Proof.Machine

/-! ### The law of the table -/

/-- A schedule table is lawful at frame number `sfn` (R115 to R118). -/
structure LawfulTable (sfn : Word) (entries : List ScheduleEntry) : Prop where
  capacity : entries.length ≤ 8
  tags : (entries.map ScheduleEntry.tag).Nodup
  range : ∀ e ∈ entries, 1 ≤ e.tag ∧ e.tag ≤ 255
  window : ∀ e ∈ entries, 1 ≤ distanceAhead e.due sfn ∧ distanceAhead e.due sfn ≤ 2 ^ 24
  order : entries.Pairwise fun a b => distanceAhead a.due sfn ≤ distanceAhead b.due sfn

theorem State.scheduleLaw_iff (s : State) : s.scheduleLaw ↔ LawfulTable s.timing.sfn s.schedule :=
  ⟨fun ⟨h1, h2, h3, h4, h5⟩ => ⟨h1, h2, h3, h4, h5⟩, fun ⟨h1, h2, h3, h4, h5⟩ => ⟨h1, h2, h3, h4, h5⟩⟩

theorem LawfulTable.nil (sfn : Word) : LawfulTable sfn [] :=
  ⟨Nat.zero_le _, List.nodup_nil, nofun, nofun, .nil⟩

/-- Entries may leave a lawful table (R121, R125). -/
theorem LawfulTable.sublist {sfn : Word} {entries fewer : List ScheduleEntry} (h : LawfulTable sfn entries)
    (hs : fewer.Sublist entries) : LawfulTable sfn fewer :=
  ⟨hs.length_le.trans h.capacity, h.tags.sublist (hs.map _), fun e he => h.range e (hs.subset he),
    fun e he => h.window e (hs.subset he), h.order.sublist hs⟩

/-! ### Firing -/

/-- When the frame number grows, an entry that was ahead is one frame nearer (R117). -/
theorem distanceAhead_succ {due sfn : Word} (h : 1 ≤ distanceAhead due sfn) :
    distanceAhead due (sfn + 1) + 1 = distanceAhead due sfn := by
  unfold distanceAhead at *
  bv_omega

/-- Only the entry due at the coming boundary is one frame ahead (R117, R121). -/
theorem two_le_distanceAhead {due sfn : Word} (h : 1 ≤ distanceAhead due sfn) (hdue : due ≠ sfn + 1) :
    2 ≤ distanceAhead due sfn := by
  unfold distanceAhead at *
  bv_omega

/-- Once no entry is due at the boundary that comes, the frame number may grow: every entry comes one frame nearer and stays ahead (R117, R121). -/
theorem LawfulTable.advance {sfn : Word} {entries : List ScheduleEntry} (h : LawfulTable sfn entries)
    (hdue : ∀ e ∈ entries, e.due ≠ sfn + 1) : LawfulTable (sfn + 1) entries := by
  have hnearer : ∀ e ∈ entries, distanceAhead e.due (sfn + 1) + 1 = distanceAhead e.due sfn := fun e he =>
    distanceAhead_succ (h.window e he).1
  refine ⟨h.capacity, h.tags, h.range, fun e he => ?_, h.order.imp_of_mem fun {a b} ha hb hab => ?_⟩
  · have hfar := two_le_distanceAhead (h.window e he).1 (hdue e he)
    have hnear := (h.window e he).2
    have := hnearer e he
    omega
  · have := hnearer a ha
    have := hnearer b hb
    omega

/-- A lawful table is lawful after a boundary, at which the entries due leave it (R121). -/
theorem LawfulTable.fire {sfn : Word} {entries : List ScheduleEntry} (h : LawfulTable sfn entries) :
    LawfulTable (sfn + 1) (entries.filter fun e => e.due ≠ sfn + 1) :=
  (h.sublist List.filter_sublist).advance fun e he => by simpa using (List.mem_filter.mp he).2

/-! ### A new entry -/

/-- With room in the table the tag given is free and the lowest that is (R116). -/
theorem freeTag_spec {entries : List ScheduleEntry} (hroom : entries.length < 255) :
    1 ≤ freeTag entries ∧ freeTag entries ≤ 255 ∧ (∀ e ∈ entries, e.tag ≠ freeTag entries)
      ∧ ∀ u, 1 ≤ u → u < freeTag entries → ∃ e ∈ entries, e.tag = u := by
  cases hfind : (List.range' 1 255).find? fun t => !entries.any fun e => e.tag = t with
  | none =>
    -- were every tag held, the table would hold 255 entries
    have hheld : List.range' 1 255 ⊆ entries.map ScheduleEntry.tag := fun t ht => by
      simpa using List.find?_eq_none.mp hfind t ht
    have := (List.subperm_of_subset List.nodup_range' hheld).length_le
    simp at this
    omega
  | some tag =>
    have htag : freeTag entries = tag := by rw [freeTag, hfind, Option.getD_some]
    obtain ⟨hfree, hrange, hlowest⟩ := List.find?_range'_eq_some.mp hfind
    rw [List.mem_range'_1] at hrange
    rw [htag]
    refine ⟨hrange.1, by omega, by simpa using hfree, fun u h1 hu => by simpa using hlowest u h1 hu⟩

/-- A new entry is placed behind those due no later and before those due later (R117). -/
theorem insertEntry_split {sfn : Word} (e : ScheduleEntry) {entries : List ScheduleEntry}
    (h : entries.Pairwise fun a b => distanceAhead a.due sfn ≤ distanceAhead b.due sfn) :
    ∃ before after, entries = before ++ after ∧ insertEntry sfn e entries = before ++ e :: after
      ∧ (∀ x ∈ before, distanceAhead x.due sfn ≤ distanceAhead e.due sfn)
      ∧ ∀ x ∈ after, distanceAhead e.due sfn < distanceAhead x.due sfn := by
  induction entries with
  | nil => exact ⟨[], [], rfl, rfl, nofun, nofun⟩
  | cons x rest ih =>
    obtain ⟨hx, hrest⟩ := List.pairwise_cons.mp h
    rw [insertEntry]
    split
    next hle =>
      obtain ⟨before, after, rfl, hinsert, hbefore, hafter⟩ := ih hrest
      exact ⟨x :: before, after, rfl, by rw [hinsert]; rfl, List.forall_mem_cons.mpr ⟨hle, hbefore⟩, hafter⟩
    next hlt =>
      have hlt := Nat.lt_of_not_le hlt
      exact ⟨[], x :: rest, rfl, rfl, nofun,
        List.forall_mem_cons.mpr ⟨hlt, fun y hy => Nat.lt_of_lt_of_le hlt (hx y hy)⟩⟩

/-- A table with room stays lawful when an entry in the window, with the tag given, is placed in it (R115 to R118). -/
theorem LawfulTable.insert {sfn due : Word} {entries : List ScheduleEntry} (h : LawfulTable sfn entries)
    (hroom : entries.length < 8) (hwindow : 1 ≤ distanceAhead due sfn ∧ distanceAhead due sfn ≤ 2 ^ 24)
    (action : Action) :
    LawfulTable sfn (insertEntry sfn { tag := freeTag entries, due := due, action := action } entries) := by
  obtain ⟨hone, hmost, hfree, -⟩ := freeTag_spec (hroom.trans (by decide))
  generalize freeTag entries = tag at hone hmost hfree
  obtain ⟨before, after, rfl, hinsert, hbefore, hafter⟩ :=
    insertEntry_split { tag := tag, due := due, action := action } h.order
  rw [hinsert]
  have hperm := List.perm_middle (a := ({ tag, due, action } : ScheduleEntry)) (l₁ := before) (l₂ := after)
  have hmem : ∀ {P : ScheduleEntry → Prop}, P { tag, due, action } → (∀ e ∈ before ++ after, P e) →
      ∀ e ∈ before ++ { tag, due, action } :: after, P e := fun hnew hold e he =>
    List.forall_mem_cons.mpr ⟨hnew, hold⟩ e (hperm.mem_iff.mp he)
  refine ⟨hperm.length_eq.trans_le hroom, ?_, hmem ⟨hone, hmost⟩ h.range, hmem hwindow h.window, ?_⟩
  · rw [(hperm.map _).nodup_iff, List.map_cons, List.nodup_cons]
    refine ⟨fun hheld => ?_, h.tags⟩
    obtain ⟨e, he, htag⟩ := List.mem_map.mp hheld
    exact hfree e he htag
  · obtain ⟨horder, horder', hacross⟩ := List.pairwise_append.mp h.order
    refine List.pairwise_append.mpr ⟨horder, List.pairwise_cons.mpr ⟨fun x hx => (hafter x hx).le, horder'⟩, ?_⟩
    exact fun x hx => List.forall_mem_cons.mpr ⟨hbefore x hx, hacross x hx⟩

end Sys2Proof.Machine
end

section
/-! CERTIFICATE. Add Schedule and Cancel Schedule: AddScheduleInsertsInOrder, CancelScheduleRemovesTheEntry. -/

namespace Sys2Proof.Machine

/-! ### Add Schedule -/

/-- An action that is neither SWAP nor PATTERN is out of range (R119, check 4). -/
theorem parseAction_badCode {code : Byte} (h : 2 ≤ code.toNat) (index : Byte) (value : Word) :
    parseAction code index value = .error 1 := by
  have hswap : code ≠ 0 := by bv_omega
  have hpattern : code ≠ 1 := by bv_omega
  rw [parseAction, if_neg hswap, if_neg hpattern]

/-- A pattern index above 15 is out of range (R119, check 5). -/
theorem parseAction_badIndex {index : Byte} (h : 16 ≤ index.toNat) (value : Word) :
    parseAction 1 index value = .error 2 := by
  simp [parseAction, (patternOf_eq_none_iff index).mpr h]

theorem parseAction_pattern (i : PatternIndex) (value : Word) :
    parseAction 1 (BitVec.ofNat 8 i.val) value = .ok (.pattern i value) := by
  simp [parseAction, patternOf_octet]

/-- The state in which Add Schedule has placed its entry, with the lowest free tag (R116, R117). -/
def State.withEntry (s : State) (due : Word) (action : Action) : State :=
  s.withSchedule (insertEntry s.timing.sfn { tag := freeTag s.schedule, due := due, action := action } s.schedule)

/-- The fields of an accepted Add Schedule's answer: tag, due frame, distance ahead, number of entries (R120). -/
def State.entryReport (s : State) (due : Word) : List Byte :=
  [octet (freeTag s.schedule)] ++ wordOctets due ++ wordOctets (due - s.timing.sfn)
    ++ [octet (s.schedule.length + 1)]

/-- What Add Schedule makes of its action, or of the place of the action's field out of range, where the checks on the due frame and the table pass (R119, R120). -/
def State.placeEntry (s : State) (r : Request) (due : Word) : Except Nat Action → State
  | .error place => s.answer r .badValue [octet place]
  | .ok action => (s.withEntry due action).answer r .ok (s.entryReport due)

/-- What Add Schedule makes of a due frame and an action: its checks in their order (R119, R120). -/
def State.addEntry (s : State) (r : Request) (due : Word) (parsed : Except Nat Action) : State :=
  if distanceAhead due s.timing.sfn ≤ 1 ∨ 2 ^ 31 < distanceAhead due s.timing.sfn then s.answer r .tooLate [0]
  else if 2 ^ 24 < distanceAhead due s.timing.sfn then s.answer r .tooFar [0]
  else if 8 ≤ s.schedule.length then s.answer r .tableFull [8]
  else s.placeEntry r due parsed

/-- Add Schedule reads its fields and makes its checks on them (R119, R204). -/
theorem addSchedule_eq {r : Request} {f0 f1 f2 f3 code index v0 v1 v2 v3 : Byte}
    (hp : r.payload = [f0, f1, f2, f3, code, index, v0, v1, v2, v3]) (s : State) :
    addSchedule r s = s.addEntry r (wordOf f0 f1 f2 f3) (parseAction code index (wordOf v0 v1 v2 v3)) := by
  simp only [addSchedule, hp, State.addEntry, Bool.or_eq_true, decide_eq_true_eq, insertEntry_length]
  cases parseAction code index (wordOf v0 v1 v2 v3) <;> rfl

/-- All that Add Schedule can do: refuse the length, or make its checks on what it reads. -/
theorem addSchedule_cases (r : Request) (s : State) :
    addSchedule r s = s.badLength r ∨ ∃ due parsed, addSchedule r s = s.addEntry r due parsed := by
  generalize hu : addSchedule r s = u
  have hread := hu
  unfold addSchedule at hread
  split at hread
  next hp => exact .inr ⟨_, _, hu ▸ addSchedule_eq hp s⟩
  next => exact .inl hread.symm

section checks
variable {s : State} {r : Request} {due : Word} {parsed : Except Nat Action}

theorem State.addEntry_tooLate
    (h : distanceAhead due s.timing.sfn ≤ 1 ∨ 2 ^ 31 < distanceAhead due s.timing.sfn) :
    s.addEntry r due parsed = s.answer r .tooLate [0] :=
  if_pos h

theorem State.addEntry_tooFar (h : 2 ^ 24 < distanceAhead due s.timing.sfn)
    (hahead : distanceAhead due s.timing.sfn ≤ 2 ^ 31) : s.addEntry r due parsed = s.answer r .tooFar [0] := by
  rw [State.addEntry, if_neg (by omega), if_pos h]

variable (hnear : 2 ≤ distanceAhead due s.timing.sfn) (hfar : distanceAhead due s.timing.sfn ≤ 2 ^ 24)
include hnear hfar

theorem State.addEntry_tableFull (h : 8 ≤ s.schedule.length) :
    s.addEntry r due parsed = s.answer r .tableFull [8] := by
  rw [State.addEntry, if_neg (by omega), if_neg (Nat.not_lt.mpr hfar), if_pos h]

theorem State.addEntry_badValue (hroom : s.schedule.length < 8) (place : Nat) :
    s.addEntry r due (.error place) = s.answer r .badValue [octet place] := by
  rw [State.addEntry, if_neg (by omega), if_neg (Nat.not_lt.mpr hfar), if_neg (Nat.not_le.mpr hroom), State.placeEntry]

theorem State.addEntry_accepted (hroom : s.schedule.length < 8) (action : Action) :
    s.addEntry r due (.ok action) = (s.withEntry due action).answer r .ok (s.entryReport due) := by
  rw [State.addEntry, if_neg (by omega), if_neg (Nat.not_lt.mpr hfar), if_neg (Nat.not_le.mpr hroom), State.placeEntry]

end checks

section request
variable {s : State} {r : Request} {rest : List Request} (ht : s.takes r rest)
include ht

theorem exec_addSchedule (hk : r.kind = 0x28) {due value : Word} {code index : Byte}
    (hp : r.payload = wordOctets due ++ [code, index] ++ wordOctets value) :
    exec .addSchedule s = .next ((s.taken rest).addEntry r due (parseAction code index value)) := by
  refine congrArg Host.Outcome.next ?_
  rw [State.serve_takes ht (ofKind_true hk), addSchedule_eq hp, wordOf_octets, wordOf_octets]

theorem exec_cancelSchedule (hk : r.kind = 0x29) :
    exec .cancelSchedule s = .next (cancelSchedule r (s.taken rest)) :=
  congrArg _ (State.serve_takes ht (ofKind_true hk))

end request

/-- Settles O48: the entry accepted has the lowest free tag (`freeTag_spec`) and its place in the order (`insertEntry_split`); each refusal is that of the first check that fails. -/
theorem addScheduleInsertsInOrder : Obligations.AddScheduleInsertsInOrder := by
  refine ⟨fun s r rest due action index value ht hk hlaw hroom hnear hfar hp => ?_,
    fun s r rest due value code index ht hk hp => ?_⟩
  · obtain ⟨code, i, v, hoctets, hparse⟩ : ∃ code i v,
        r.payload = wordOctets due ++ [code, i] ++ wordOctets v ∧ parseAction code i v = .ok action := by
      cases action with
      | swap => exact ⟨0, index, value, hp, rfl⟩
      | pattern i v => exact ⟨1, BitVec.ofNat 8 i.val, v, hp, parseAction_pattern i v⟩
    obtain ⟨hone, hmost, hfree, hlowest⟩ := freeTag_spec (hroom.trans (by decide))
    obtain ⟨before, after, hsplit, hinsert, hbefore, hafter⟩ :=
      insertEntry_split { tag := freeTag s.schedule, due := due, action := action }
        ((State.scheduleLaw_iff s).mp hlaw).order
    refine ⟨freeTag s.schedule, before, after, hsplit, hone, hmost, hfree, hlowest, hbefore, hafter, ?_⟩
    rw [exec_addSchedule ht hk hoctets, hparse, State.addEntry_accepted (s := s.taken rest) hnear hfar hroom,
      State.answer_after (by rfl), ← hinsert]
    rfl
  · intro d inWindow
    rw [exec_addSchedule ht hk hp]
    refine ⟨fun h => ?_, fun h hahead => ?_, fun ⟨hnear, hfar⟩ h => ?_, fun ⟨hnear, hfar⟩ hroom h => ?_,
      fun ⟨hnear, hfar⟩ hroom hcode h => ?_⟩
    · rw [State.addEntry_tooLate (s := s.taken rest) h, State.taken_answer]
    · rw [State.addEntry_tooFar (s := s.taken rest) h hahead, State.taken_answer]
    · rw [State.addEntry_tableFull (s := s.taken rest) hnear hfar h, State.taken_answer]
    · rw [parseAction_badCode h, State.addEntry_badValue (s := s.taken rest) hnear hfar hroom, State.taken_answer]
      rfl
    · rw [hcode, parseAction_badIndex h, State.addEntry_badValue (s := s.taken rest) hnear hfar hroom,
        State.taken_answer]
      rfl

/-! ### Cancel Schedule -/

section cancel
variable {r : Request} {s : State} {tag : Byte} (hp : r.payload = [tag])
include hp

/-- The first entry that holds the tag leaves the table and is described (R125). -/
theorem cancelSchedule_found {before after : List ScheduleEntry} {e : ScheduleEntry}
    (hs : s.schedule = before ++ e :: after) (he : e.tag = tag.toNat) (hbefore : ∀ x ∈ before, x.tag ≠ tag.toNat) :
    cancelSchedule r s = (s.withSchedule (before ++ after)).answer r .ok e.octets := by
  have hfind : (s.schedule.find? fun x => x.tag = tag.toNat) = some e :=
    List.find?_eq_some_iff_append.mpr ⟨by simpa using he, before, after, hs, by simpa using hbefore⟩
  have herase : (s.schedule.eraseP fun x => x.tag = tag.toNat) = before ++ after := by
    rw [hs, List.eraseP_append_right _ (by simpa using hbefore), List.eraseP_cons_of_pos (by simpa using he)]
  simp only [cancelSchedule, hp, hfind, herase]

theorem cancelSchedule_notFound (h : ∀ e ∈ s.schedule, e.tag ≠ tag.toNat) :
    cancelSchedule r s = s.answer r .notFound [0] := by
  have hfind : (s.schedule.find? fun x => x.tag = tag.toNat) = none :=
    List.find?_eq_none.mpr (by simpa using h)
  simp only [cancelSchedule, hp, hfind]

end cancel

/-- Settles O49: the first entry that holds the tag is the one found and the one removed (`cancelSchedule_found`). -/
theorem cancelScheduleRemovesTheEntry : Obligations.CancelScheduleRemovesTheEntry := by
  refine fun s r rest tag ht hk hp => ⟨fun before after e hs he hbefore => ?_, fun h => ?_⟩
  · have htag : octet e.tag = tag := by rw [he, octet, BitVec.ofNat_toNat, BitVec.setWidth_eq]
    rw [exec_cancelSchedule ht hk, cancelSchedule_found (s := s.taken rest) hp hs he hbefore,
      State.answer_after (by rfl), ScheduleEntry.octets, htag]
    cases e.action <;> rfl
  · rw [exec_cancelSchedule ht hk, cancelSchedule_notFound (s := s.taken rest) hp h, State.taken_answer]

end Sys2Proof.Machine
end

section
/-! CERTIFICATE. Every command keeps the schedule table lawful (R115 to R118): StepsKeepTheScheduleLaw. -/

namespace Sys2Proof.Machine

/-! ### What the law reads -/

/-- All that the law of the schedule table reads of a state: the entries and the frame number (R115 to R118). -/
def State.table (s : State) : List ScheduleEntry × Word :=
  (s.schedule, s.timing.sfn)

/-- An act that leads from `s` to `t` keeps the schedule table lawful. -/
def State.KeepsSchedule (s t : State) : Prop :=
  s.scheduleLaw → t.scheduleLaw

theorem State.KeepsSchedule.refl (s : State) : s.KeepsSchedule s :=
  id

theorem State.KeepsSchedule.ite {s t u : State} {c : Prop} [Decidable c] (ht : s.KeepsSchedule t)
    (hu : s.KeepsSchedule u) : s.KeepsSchedule (if c then t else u) := by
  split
  · exact ht
  · exact hu

/-- An act that changes neither the entries nor the frame number keeps the law. -/
theorem State.KeepsSchedule.of_table {s t : State} (h : t.table = s.table) : s.KeepsSchedule t := by
  obtain ⟨hschedule, hsfn⟩ := Prod.mk.inj h
  rw [State.KeepsSchedule, State.scheduleLaw_iff, State.scheduleLaw_iff, hschedule, hsfn]
  exact id

theorem State.table_of_same {s t : State} (hschedule : t.schedule = s.schedule) (htiming : t.timing = s.timing) :
    t.table = s.table := by
  rw [State.table, hschedule, htiming]
  rfl

/-- A restart leaves the table empty (R128). -/
theorem State.KeepsSchedule.of_empty {s t : State} (h : t.schedule = []) : s.KeepsSchedule t := fun _ => by
  rw [State.scheduleLaw_iff, h]
  exact .nil _

/-- The Timing Unit takes the boundary: the entries due leave the table and the frame number grows by one (R99, R121). -/
theorem State.KeepsSchedule.of_fired {s t : State} (hsfn : t.timing.sfn = s.timing.sfn + 1)
    (hschedule : t.schedule = s.schedule.filter fun e => e.due ≠ s.timing.sfn + 1) : s.KeepsSchedule t := by
  rw [State.KeepsSchedule, State.scheduleLaw_iff, State.scheduleLaw_iff, hsfn, hschedule]
  exact LawfulTable.fire

/-! ### Bit periods and boundaries -/

@[simp] theorem State.rxPeriod_sfn (s : State) (line : Line) (x : RxSample) :
    (s.rxPeriod line x).timing.sfn = s.timing.sfn := by
  obtain ⟨n, seen, reached, off, h⟩ := s.rxPeriod_timing_eq line x
  rw [h]

@[simp] theorem State.rxPeriod_table (s : State) (line : Line) (x : RxSample) :
    (s.rxPeriod line x).table = s.table := by
  simp [State.table]

theorem State.rxPeriods_table (s : State) (line : Line) (xs : List RxSample) :
    (s.rxPeriods line xs).table = s.table := by
  unfold State.rxPeriods
  split
  · rfl
  · exact foldl_keeps State.table _ (fun t x => t.rxPeriod_table line x) xs s

@[simp] theorem State.meet_sfn (before s : State) (shares : List Taker) (c : Coincidence) :
    (State.meet before shares s c).timing.sfn = s.timing.sfn := by
  rw [State.meet_timing]
  split
  · rfl
  · exact s.rxPeriod_sfn _ _

/-- The Timing Unit counts the boundary where it has not done so ahead of it (R99). -/
theorem State.timingAfter_sfn (s : State) : s.timingAfter.sfn = s.comingFrame := by
  unfold State.timingAfter State.comingFrame
  split <;> rfl

/-- The number of the boundary to come is the same for every taker, whatever framer events come before its share. -/
theorem State.foundBy_comingFrame (s : State) (shares : List Taker) (events : List Coincidence) (t : Taker) :
    (s.foundBy shares events t).comingFrame = s.comingFrame :=
  foldl_keeps State.comingFrame _ (fun u (c : Coincidence) => by simp [State.comingFrame]) _ s

/-- A numbered boundary brings its own number, whatever framer events fall together with it (R99). -/
theorem State.numberedBoundary_sfn (s : State) (order : BoundaryOrder) :
    (s.numberedBoundary order).timing.sfn = s.comingFrame := by
  unfold State.numberedBoundary
  extract_lets shares events found shared
  have hshared : shared.timing.sfn = (s.numberedEffects found).timing.sfn :=
    takeInTurn_keeps (fun u => u.timing.sfn) _ _ (fun u c => s.meet_sfn u shares c)
      (fun u t => by rw [State.takeShare_timing]) shares events _
  have hafter : ∀ (late : List Coincidence) (u : State),
      (late.foldl (fun u c => u.rxPeriod c.line c.sample) u).timing.sfn = u.timing.sfn :=
    foldl_keeps (fun u : State => u.timing.sfn) _ fun u (c : Coincidence) => u.rxPeriod_sfn c.line c.sample
  rw [hafter, State.withOpening_timing, State.beginFrames_timing, hshared, State.numberedEffects_timing,
    State.timingAfter_sfn, s.foundBy_comingFrame]

/-- At a numbered boundary the table fires with the Timing Unit, or both have taken the boundary ahead of it (R121, log 6). -/
theorem State.numberedBoundary_keepsSchedule (s : State) (order : BoundaryOrder) :
    s.KeepsSchedule (s.numberedBoundary order) := by
  have hsfn := s.numberedBoundary_sfn order
  have hschedule := s.numberedBoundary_schedule order
  cases hdone : s.opening.timingDone with
  | true =>
    rw [State.comingFrame, hdone, if_pos rfl] at hsfn
    rw [hdone, if_pos rfl] at hschedule
    exact .of_table (Prod.ext hschedule hsfn)
  | false =>
    rw [State.comingFrame, hdone, if_neg Bool.false_ne_true] at hsfn hschedule
    rw [if_neg Bool.false_ne_true] at hschedule
    exact .of_fired hsfn hschedule

theorem State.takeBoundary_keepsSchedule (s : State) (order : BoundaryOrder) :
    s.KeepsSchedule (s.takeBoundary order) :=
  .ite (.of_empty rfl) (s.numberedBoundary_keepsSchedule order)

/-- The Timing Unit takes its share ahead of the boundary once (R121, log 6). -/
theorem State.timingShare_keepsSchedule {s : State} (h : s.opening.timingDone = false) :
    s.KeepsSchedule s.timingShare := by
  have hcoming : s.comingFrame = s.timing.sfn + 1 := by simp [State.comingFrame, h]
  refine .of_fired (by rw [State.timingShare_timing]; rfl) ?_
  rw [State.timingShare_schedule, hcoming]

theorem State.mcShare_table (s : State) : s.mcShare.table = s.table :=
  State.table_of_same s.mcShare_schedule s.mcShare_timing

theorem State.readShare_table (s : State) : (s.linkShare State.readFrame).table = s.table :=
  State.table_of_same (s.linkShare_schedule _ State.readFrame_schedule) (s.linkShare_timing _ State.readFrame_timing)

theorem State.deliveringShare_table (s : State) (seq kind : Byte) (payload : List Byte) :
    (s.linkShare (State.delivering seq kind payload)).table = s.table :=
  State.table_of_same (s.linkShare_schedule _ fun u => u.delivering_schedule _ _ _)
    (s.linkShare_timing _ fun u => u.delivering_timing _ _ _)

/-! ### Requests that leave the table alone -/

/-- A line's receive side that goes off may leave the next boundary to REFCLK; the frame number stays (R104). -/
@[simp] theorem State.applyLine_sfn (s : State) (line : Line) (record : LineRecord) :
    (s.applyLine line record).timing.sfn = s.timing.sfn := by
  rw [State.applyLine_timing, Timing.stopped_eq]
  (repeat' split) <;> rfl

section requests
variable (r : Request) (s : State)

@[simp] theorem echo_table : (echo r s).table = s.table := by
  unfold echo; split <;> rfl
@[simp] theorem identify_table : (identify r s).table = s.table := by
  unfold identify; split <;> rfl
@[simp] theorem restartFull_table : (restartFull r s).table = s.table := by
  unfold restartFull; (repeat' split) <;> rfl
@[simp] theorem setLine_table : (setLine r s).table = s.table := by
  unfold setLine; (repeat' split) <;> simp [State.table]
@[simp] theorem getLine_table : (getLine r s).table = s.table := by
  unfold getLine; (repeat' split) <;> rfl
@[simp] theorem readStats_table : (readStats r s).table = s.table := by
  unfold readStats; (repeat' split) <;> rfl
@[simp] theorem setReference_table : (setReference r s).table = s.table := by
  unfold setReference; (repeat' split) <;> rfl
@[simp] theorem getTiming_table : (getTiming r s).table = s.table := by
  unfold getTiming; split <;> rfl
@[simp] theorem writeEntries_table : (writeEntries r s).table = s.table := by
  unfold writeEntries; (repeat' split) <;> rfl
@[simp] theorem readEntries_table : (readEntries r s).table = s.table := by
  unfold readEntries; (repeat' split) <;> rfl
@[simp] theorem setPattern_table : (setPattern r s).table = s.table := by
  unfold setPattern; (repeat' split) <;> rfl
@[simp] theorem getPattern_table : (getPattern r s).table = s.table := by
  unfold getPattern; (repeat' split) <;> rfl
theorem pageRequest_table {accept : State → State} (h : (accept s).table = s.table) :
    (pageRequest accept r s).table = s.table := by
  unfold pageRequest
  split
  · split
    · exact h
    all_goals rfl
  · rfl
@[simp] theorem getPages_table : (getPages r s).table = s.table := by
  unfold getPages; split <;> rfl
@[simp] theorem listSchedule_table : (listSchedule r s).table = s.table := by
  unfold listSchedule; split <;> rfl
@[simp] theorem setProbe_table : (setProbe r s).table = s.table := by
  unfold setProbe; (repeat' split) <;> rfl
@[simp] theorem readProbe_table : (readProbe r s).table = s.table := by
  unfold readProbe; (repeat' split) <;> rfl
@[simp] theorem moveChannel_table : (moveChannel r s).table = s.table := by
  unfold moveChannel; (repeat' split) <;> rfl
@[simp] theorem getLink_table : (getLink r s).table = s.table := by
  unfold getLink; (repeat' split) <;> rfl
@[simp] theorem setNotices_table : (setNotices r s).table = s.table := by
  simp only [setNotices]; (repeat' split) <;> rfl
@[simp] theorem getNotices_table : (getNotices r s).table = s.table := by
  unfold getNotices; split <;> rfl

end requests

/-! ### Requests that change the table -/

/-- A row keeps the law where carrying out the request it takes does (R149). -/
theorem State.serve_keepsSchedule (s : State) (test : Request → Bool) {carry : Request → State → State}
    (h : ∀ r t, State.KeepsSchedule t (carry r t)) : s.KeepsSchedule (s.serve test carry) := by
  obtain hs | ⟨r, rest, -, -, hs⟩ := s.serve_cases test carry
  · rw [hs]; exact .refl s
  · rw [hs]; exact h r (s.taken rest)

/-- A row whose request leaves the table alone keeps the law. -/
theorem State.serve_keepsSchedule_of_table (s : State) (test : Request → Bool) {carry : Request → State → State}
    (h : ∀ r t, (carry r t).table = t.table) : s.KeepsSchedule (s.serve test carry) :=
  s.serve_keepsSchedule test fun r t => .of_table (h r t)

/-- Add Schedule adds an entry where the table has room and its due frame lies in the window (R115 to R119). -/
theorem State.addEntry_keepsSchedule (s : State) (r : Request) (due : Word) (parsed : Except Nat Action) :
    s.KeepsSchedule (s.addEntry r due parsed) := by
  unfold State.addEntry
  split
  · exact .of_table rfl
  next hahead =>
    split
    · exact .of_table rfl
    next hnear =>
      split
      · exact .of_table rfl
      next hroom =>
        cases parsed with
        | error place => exact .of_table rfl
        | ok action =>
          have hwindow : 1 ≤ distanceAhead due s.timing.sfn ∧ distanceAhead due s.timing.sfn ≤ 2 ^ 24 := by omega
          exact fun hlaw => (State.scheduleLaw_iff _).mpr
            (((State.scheduleLaw_iff s).mp hlaw).insert (Nat.lt_of_not_le hroom) hwindow action)

theorem addSchedule_keepsSchedule (r : Request) (s : State) : s.KeepsSchedule (addSchedule r s) := by
  obtain h | ⟨due, parsed, h⟩ := addSchedule_cases r s
  · rw [h]; exact .of_table rfl
  · rw [h]; exact s.addEntry_keepsSchedule r due parsed

/-- Cancel Schedule takes at most one entry out of the table (R125). -/
theorem cancelSchedule_keepsSchedule (r : Request) (s : State) : s.KeepsSchedule (cancelSchedule r s) := by
  unfold cancelSchedule
  split
  · split
    · exact .of_table rfl
    · exact fun hlaw => (State.scheduleLaw_iff _).mpr
        (((State.scheduleLaw_iff s).mp hlaw).sublist List.eraseP_sublist)
  · exact .of_table rfl

/-- A Restart of scope SWITCH empties the table (R128, R160). -/
theorem restartSwitch_keepsSchedule (r : Request) (s : State) : s.KeepsSchedule (restartSwitch r s) := by
  unfold restartSwitch
  split
  · split
    · exact .of_empty rfl
    · exact .of_table rfl
  · exact .of_table rfl

/-! ### Every command -/

/-- Every command keeps the schedule table lawful. -/
theorem exec_keepsSchedule {c : Instr} {s t : State} (h : exec c s = .next t) : s.KeepsSchedule t := by
  cases c <;> cases h
  case powerUp => exact .of_empty rfl
  case restartN => exact .of_empty rfl
  case restartNRelease => exact .ite (.of_empty rfl) (.refl s)
  case fullRestartBoundary => exact .ite (.of_empty rfl) (.refl s)
  case boundary order =>
    exact .ite (s.takeBoundary_keepsSchedule order)
      (.ite (s.pointTaken.takeBoundary_keepsSchedule order) (.refl s))
  case txFrameEnd => exact .of_table rfl
  case stall => exact .ite (.of_table rfl) (.refl s)
  case copyComplete =>
    split
    · exact .ite (.of_table s.mcShare_table) (.refl s)
    · exact .refl s
  case clearComplete =>
    split
    · exact .ite (.of_table s.mcShare_table) (.refl s)
    · exact .refl s
  case takePendingSwap =>
    split
    · exact .ite (.of_table s.mcShare_table) (.refl s)
    · exact .refl s
  case scheduleFiring =>
    split
    next hfires =>
      simp only [Bool.and_eq_true, Bool.not_eq_true'] at hfires
      obtain ⟨⟨-, hopen⟩, -⟩ := hfires
      exact State.timingShare_keepsSchedule hopen
    next => exact .refl s
  case requestIntake => exact .ite (.of_table (s.deliveringShare_table _ _ _)) (.refl s)
  case noticeAck => exact .ite (.of_table (s.deliveringShare_table _ _ _)) (.refl s)
  case foreignKind => exact .ite (.of_table (s.deliveringShare_table _ _ _)) (.refl s)
  case messageEnd => exact .ite (.of_table s.readShare_table) (.refl s)
  case channelSwitch => exact .ite (.of_table s.readShare_table) (.refl s)
  case trialTimeout => exact .ite (.of_table s.readShare_table) (.refl s)
  case lineLostRevert => exact .ite (.of_table s.readShare_table) (.refl s)
  case retransmitTimeout => exact .ite (.of_table rfl) (.refl s)
  case pulse => exact .of_table (s.rxPeriods_table _ _)
  case flywheelFrameEnd => exact .of_table (s.rxPeriods_table _ _)
  case restartSwitch => exact s.serve_keepsSchedule _ restartSwitch_keepsSchedule
  case addSchedule => exact s.serve_keepsSchedule _ addSchedule_keepsSchedule
  case cancelSchedule => exact s.serve_keepsSchedule _ cancelSchedule_keepsSchedule
  case copyPage => exact s.serve_keepsSchedule_of_table _ fun r t => pageRequest_table r t rfl
  case clearPage => exact s.serve_keepsSchedule_of_table _ fun r t => pageRequest_table r t rfl
  case swapPages => exact s.serve_keepsSchedule_of_table _ fun r t => pageRequest_table r t rfl
  case unknownKind => exact s.serve_keepsSchedule_of_table _ fun _ _ => rfl
  -- the other rows report, or set what the law does not read
  all_goals exact s.serve_keepsSchedule_of_table _ fun r t => by simp

/-- Settles O56: the command at the front of the queue keeps the table lawful (`exec_keepsSchedule`), and a REFCLK period leaves it alone (R101). -/
theorem stepsKeepTheScheduleLaw : Obligations.StepsKeepTheScheduleLaw := by
  intro s t hlaw hstep
  unfold step at hstep
  split at hstep
  next rest _ => exact exec_keepsSchedule (s := s.withPending rest) hstep hlaw
  next =>
    cases hstep
    exact State.KeepsSchedule.ite (.refl s) (.of_table rfl) hlaw

end Sys2Proof.Machine
end

section
/-! SUPPORT. One probe at a boundary: when an observation is a hit, what it leaves of the probe, and the event it raises (R130, R132, R135 to R137). -/

namespace Sys2Proof.Machine

/-! ### An observation -/

theorem State.setProbeAt_probe (s : State) (i j : ProbeIndex) (v : Probe) :
    (s.setProbeAt j v).probe i = if j = i then v else s.probe i := by
  by_cases h : j = i
  · subst h; simp [State.probe, State.setProbeAt]
  · have hv : j.val ≠ i.val := fun hv => h (Fin.ext hv)
    simp [State.probe, State.setProbeAt, h, hv]

theorem State.probe_congr {s t : State} (h : t.probes = s.probes) (i : ProbeIndex) : t.probe i = s.probe i := by
  rw [State.probe, h, State.probe]

/-- A hit, by the probe's mode: the masked bits agree, or the last sample is present and differs (R135, R136). -/
theorem Probe.hitBy_iff (p : Probe) (seen : SlotValue) :
    p.hitBy seen = true ↔
      (p.mode = .matching ∧ ∃ w, seen = .word w ∧ (w ^^^ p.value) &&& p.mask = 0)
        ∨ (p.mode = .change ∧ p.last.isSome = true ∧ p.last ≠ some seen) := by
  cases hmode : p.mode with
  | off => simp [Probe.hitBy, hmode]
  | change => cases hlast : p.last <;> simp [Probe.hitBy, hmode, Probe.changes, hlast]
  | matching => cases seen <;> simp [Probe.hitBy, hmode, Probe.matches]

section observe
variable {p : Probe} {n : Word} {seen : SlotValue} {record : Capture}

/-- A hit is counted, and the first is captured (R137). -/
theorem Probe.observe_hit (h : p.hitBy seen = true) (n : Word) :
    p.observe n seen =
      { p with
        last := some seen, hits := if p.hits = 0xFFFFFFFF then p.hits else p.hits + 1
        capture := some (p.capture.getD { frame := n, seen := seen }) } := by
  rw [Probe.observe, if_pos h]
  rfl

/-- An observation that is no hit is remembered as the last sample (R136). -/
theorem Probe.observe_miss (h : ¬ p.hitBy seen = true) (n : Word) :
    p.observe n seen = { p with last := some seen } := by
  rw [Probe.observe, if_neg h]

/-- A capture record, once present, is not written again (R137). -/
theorem Probe.observe_capture_some (h : p.capture = some record) (n : Word) (seen : SlotValue) :
    (p.observe n seen).capture = some record := by
  by_cases hhit : p.hitBy seen = true
  · rw [Probe.observe_hit hhit, h]
    rfl
  · rw [Probe.observe_miss hhit]
    exact h

/-- The observation that sets the capture record is the one recorded (R137). -/
theorem Probe.observe_sets_capture (h : p.capture = none) (hset : (p.observe n seen).capture = some record) :
    p.captures seen = true ∧ record = { frame := n, seen := seen } := by
  by_cases hhit : p.hitBy seen = true
  · rw [Probe.observe_hit hhit, h] at hset
    exact ⟨by simp [Probe.captures, hhit, h], (Option.some.inj hset).symm⟩
  · rw [Probe.observe_miss hhit] at hset
    rw [h] at hset
    cases hset

end observe

/-! ### A probe's share of a boundary -/

/-- A probe that is off or observes nothing takes nothing from a boundary (R132, R133). -/
theorem State.probeBoundary_idle {s : State} {i : ProbeIndex}
    (h : (s.probe i).mode = .off ∨ s.observation (s.probe i) = none) : s.probeBoundary i = s := by
  unfold State.probeBoundary
  obtain h | h := h <;> simp [h]

/-- A probe that observes: the probe after the observation, and PROBE_MATCH where it sets the capture record (R135 to R137). -/
theorem State.probeBoundary_observed {s : State} {i : ProbeIndex} {seen : SlotValue}
    (hmode : (s.probe i).mode ≠ .off) (hseen : s.observation (s.probe i) = some seen) :
    s.probeBoundary i =
      if (s.probe i).captures seen then
        (s.setProbeAt i ((s.probe i).observe s.timing.sfn seen)).raise (.probeMatch i s.timing.sfn seen)
      else s.setProbeAt i ((s.probe i).observe s.timing.sfn seen) := by
  simp [State.probeBoundary, hmode, hseen]

/-- All that a probe's share can do: nothing, or an observation. -/
theorem State.probeBoundary_cases (s : State) (i : ProbeIndex) :
    s.probeBoundary i = s ∨
      ∃ seen, (s.probe i).mode ≠ .off ∧ s.observation (s.probe i) = some seen := by
  by_cases hmode : (s.probe i).mode = .off
  · exact .inl (State.probeBoundary_idle (.inl hmode))
  · cases hseen : s.observation (s.probe i) with
    | none => exact .inl (State.probeBoundary_idle (.inr hseen))
    | some seen => exact .inr ⟨seen, hmode, rfl⟩

/-- The probe after its share (R135 to R137). -/
theorem State.probeBoundary_probe {s : State} {i : ProbeIndex} {seen : SlotValue}
    (hmode : (s.probe i).mode ≠ .off) (hseen : s.observation (s.probe i) = some seen) (j : ProbeIndex) :
    (s.probeBoundary i).probe j = if i = j then (s.probe i).observe s.timing.sfn seen else s.probe j := by
  rw [State.probeBoundary_observed hmode hseen, ← State.setProbeAt_probe]
  split
  · exact State.probe_congr (State.raise_probes _ _) j
  · rfl

/-- The other probes are no part of it. -/
theorem State.probeBoundary_other (s : State) {i j : ProbeIndex} (h : i ≠ j) :
    (s.probeBoundary i).probe j = s.probe j := by
  obtain hidle | ⟨seen, hmode, hseen⟩ := s.probeBoundary_cases i
  · rw [hidle]
  · rw [State.probeBoundary_probe hmode hseen, if_neg h]

/-- The observation that sets the capture record raises PROBE_MATCH with the probe, the frame and what was seen (R137). -/
theorem State.probeBoundary_raises {s : State} {i : ProbeIndex} {record : Capture}
    (hnone : (s.probe i).capture = none) (hset : ((s.probeBoundary i).probe i).capture = some record) :
    (s.probeBoundary i).notices = s.notices.raise (.probeMatch i s.timing.sfn record.seen) := by
  obtain hidle | ⟨seen, hmode, hseen⟩ := s.probeBoundary_cases i
  · rw [hidle, hnone] at hset
    cases hset
  · rw [State.probeBoundary_probe hmode hseen, if_pos rfl] at hset
    obtain ⟨hcaptures, rfl⟩ := Probe.observe_sets_capture hnone hset
    rw [State.probeBoundary_observed hmode hseen, if_pos hcaptures]
    rfl

/-! ### What a probe observes -/

section observation
variable {s : State} {p : Probe}

/-- An RX probe observes the word of its slot where a frame has been newly taken (R132). -/
theorem State.observation_rx (hside : p.side = .rx) (hslot : p.slot.val < (s.port p.line).record.slots)
    (hnewly : (s.store p.line).newly = true) (hcurrent : (s.store p.line).current.isSome = true) :
    s.observation p = some (.word (((s.store p.line).current.getD []).getD p.slot.val 0)) := by
  obtain ⟨frame, hframe⟩ := Option.isSome_iff_exists.mp hcurrent
  simp [State.observation, hside, Nat.not_le.mpr hslot, hnewly, hframe]

/-- Without a newly taken frame, or off its frame, an RX probe observes nothing (R132). -/
theorem State.observation_rx_none (hside : p.side = .rx)
    (h : ¬ (p.slot.val < (s.port p.line).record.slots ∧ (s.store p.line).newly = true
      ∧ (s.store p.line).current.isSome = true)) : s.observation p = none := by
  by_cases hslot : p.slot.val < (s.port p.line).record.slots
  · by_cases hnewly : (s.store p.line).newly = true
    · have hcurrent : (s.store p.line).current = none :=
        Option.not_isSome_iff_eq_none.mp fun hsome => h ⟨hslot, hnewly, hsome⟩
      simp [State.observation, hside, hcurrent]
    · simp [State.observation, hside, hnewly]
  · simp [State.observation, Nat.not_lt.mp hslot]

/-- A TX probe observes its slot's value in the output frame being built (R133). -/
theorem State.observation_tx (hside : p.side = .tx) (hslot : p.slot.val < (s.port p.line).record.slots)
    (hon : (s.port p.line).record.txOn = true) : s.observation p = some (s.slotValue p.line p.slot) := by
  simp [State.observation, hside, Nat.not_le.mpr hslot, hon]

/-- With tx off, or off its frame, a TX probe observes nothing (R133). -/
theorem State.observation_tx_none (hside : p.side = .tx)
    (h : (s.port p.line).record.txOn = false ∨ (s.port p.line).record.slots ≤ p.slot.val) :
    s.observation p = none := by
  obtain h | h := h <;> simp [State.observation, hside, h]

end observation

end Sys2Proof.Machine
end

section
/-! SUPPORT. A probe's share among the shares of a boundary: what stands when it observes, and what a slot's value reads of the state (R45, R99, R132, R133, R165). -/

namespace Sys2Proof.Machine

/-! ### The place of a probe's share -/

/-- A taker that waits for the link comes behind it. -/
theorem deferToLink_pairwise (waits : Taker → Bool) (l : List Taker) :
    ∀ waiting, (waiting ++ l).Nodup → .link ∉ waiting →
      (deferToLink waits waiting l).Pairwise fun a b => b = .link → waits a = false := by
  have hfree : ∀ shares : List Taker, .link ∉ shares →
      shares.Pairwise fun a b => b = .link → waits a = false := fun shares h =>
    List.pairwise_of_forall_mem_list fun _ _ b hb heq => absurd (heq ▸ hb) h
  induction l with
  | nil => exact fun waiting _ hlink => hfree waiting hlink
  | cons t rest ih =>
    intro waiting hnodup hlink
    rw [deferToLink]
    split
    next ht =>
      subst ht
      have hout : Taker.link ∉ waiting ++ rest := (List.nodup_cons.mp (List.perm_middle.nodup_iff.mp hnodup)).1
      exact List.pairwise_cons.mpr ⟨fun b hb heq => absurd (heq ▸ hb) hout, hfree _ hout⟩
    next ht =>
      split
      · exact ih _ (by simpa using hnodup) (by simpa [hlink] using Ne.symm ht)
      next hwaits =>
        have hrest : (waiting ++ rest).Nodup := (List.nodup_cons.mp (List.perm_middle.nodup_iff.mp hnodup)).2
        exact List.pairwise_cons.mpr ⟨fun _ _ _ => Bool.eq_false_iff.mpr hwaits, ih _ hrest hlink⟩

/-- A share's place in the order: it is taken once, and where it waits for the link, behind the link's (R99, R133). -/
theorem State.shareOrder_place (s : State) (order : List Taker) (t : Taker) :
    ∃ earlier later, s.shareOrder order = earlier ++ t :: later ∧ t ∉ earlier ∧ t ∉ later ∧ later.Nodup
      ∧ (s.defers t = true → .link ∉ later) := by
  obtain ⟨earlier, later, hsplit⟩ := List.append_of_mem (s.mem_shareOrder order t)
  have hnodup := s.shareOrder_nodup order
  have hpairs : (s.shareOrder order).Pairwise fun a b => b = .link → s.defers a = false :=
    deferToLink_pairwise s.defers _ [] (keepFirst_nodup id _) List.not_mem_nil
  rw [hsplit] at hnodup hpairs
  have hbehind := (List.pairwise_cons.mp (List.pairwise_append.mp hpairs).2.1).1
  have hmid := (List.perm_middle.nodup_iff.mp hnodup).notMem
  refine ⟨earlier, later, hsplit, fun h => hmid (List.mem_append_left _ h), fun h => hmid (List.mem_append_right _ h),
    (List.nodup_cons.mp (List.nodup_append.mp hnodup).2.1).2, fun hdefers hlink => ?_⟩
  rw [hbehind _ hlink rfl] at hdefers
  cases hdefers

/-! ### After some shares of a boundary -/

/-- The state after these shares of a boundary with no bit period falling together with it (R99). -/
def State.sharesTaken (s : State) (shares : List Taker) : State :=
  shares.foldl (State.takeShare s fun _ => s) (s.numberedEffects fun _ => s)

theorem State.numberedBoundary_sharesTaken (s : State) (order : List Taker) :
    s.numberedBoundary ⟨order, []⟩
      = (s.sharesTaken (s.mapEffects.shareOrder order)).beginFrames.withOpening closedOpening :=
  s.numberedBoundary_plain order

theorem State.sharesTaken_append (s : State) (earlier later : List Taker) :
    s.sharesTaken (earlier ++ later) = later.foldl (State.takeShare s fun _ => s) (s.sharesTaken earlier) :=
  List.foldl_append

section sharesTaken
variable (s : State) (shares : List Taker)

@[simp] theorem State.sharesTaken_ports : (s.sharesTaken shares).ports = s.ports :=
  (foldl_keeps State.ports _ (fun _ _ => by simp) _ _).trans (by simp)

@[simp] theorem State.sharesTaken_stores : (s.sharesTaken shares).stores = Vector.ofFn s.storeAfter :=
  (foldl_keeps State.stores _ (fun _ _ => by simp) _ _).trans (by simp)

@[simp] theorem State.sharesTaken_timing : (s.sharesTaken shares).timing = s.timingAfter :=
  (foldl_keeps State.timing _ (fun _ _ => by simp) _ _).trans (by simp)

@[simp] theorem State.sharesTaken_mask : (s.sharesTaken shares).notices.mask = s.notices.mask :=
  (foldl_keeps (fun u : State => u.notices.mask) _ State.takeShare_mask _ _).trans (by simp)

end sharesTaken

/-- No share but a probe's touches a probe (R130). -/
theorem State.takeShare_probes {before s : State} {found : Taker → State} {t : Taker} (h : ∀ i, t ≠ .probe i) :
    (State.takeShare before found s t).probes = s.probes := by
  cases t with
  | probe i => exact absurd rfl (h i)
  | link =>
    simp only [State.takeShare]
    split
    · rfl
    · simp
  | _ => simp [State.takeShare]

/-- A share that is not the probe's own leaves the probe alone. -/
theorem State.takeShare_probe {before s : State} {found : Taker → State} {t : Taker} {i : ProbeIndex}
    (h : t ≠ .probe i) : (State.takeShare before found s t).probe i = s.probe i := by
  cases t with
  | probe j => exact s.probeBoundary_other fun heq => h (heq ▸ rfl)
  | _ => exact State.probe_congr (State.takeShare_probes (by nofun)) i

theorem State.foldl_takeShare_probe {before : State} {found : Taker → State} {shares : List Taker} {i : ProbeIndex}
    (h : .probe i ∉ shares) (s : State) :
    (shares.foldl (State.takeShare before found) s).probe i = s.probe i := by
  induction shares generalizing s with
  | nil => rfl
  | cons t rest ih =>
    exact (ih (fun hm => h (List.mem_cons_of_mem _ hm)) _).trans
      (State.takeShare_probe fun heq => h (heq ▸ List.mem_cons_self))

theorem State.sharesTaken_probe {shares : List Taker} {i : ProbeIndex} (h : .probe i ∉ shares) (s : State) :
    (s.sharesTaken shares).probe i = s.probe i :=
  (State.foldl_takeShare_probe h _).trans (State.probe_congr (State.numberedEffects_probes s _) i)

/-- A probe after a boundary is what its own share leaves, taken behind the shares named before it (R132, R133, R137). -/
theorem State.numberedBoundary_probe {s : State} {order earlier later : List Taker} {i : ProbeIndex}
    (hsplit : s.mapEffects.shareOrder order = earlier ++ .probe i :: later) (hlater : .probe i ∉ later) :
    (s.numberedBoundary ⟨order, []⟩).probe i = ((s.sharesTaken earlier).probeBoundary i).probe i := by
  rw [State.numberedBoundary_sharesTaken, hsplit, State.sharesTaken_append]
  exact State.foldl_takeShare_probe hlater _

/-! ### What a slot's value reads -/

/-- All that a slot's value reads of a state beside the octets placed: formats, current frames, pages and patterns, and the location given up (R45, R48 to R50, R54). -/
def State.slotSources (s : State) : Vector LinePort 8 × Vector Store 8 × Switch × Option Location :=
  (s.ports, s.stores, s.switch, s.opening.givenUp)

theorem State.slotSources_eq_iff (s t : State) :
    t.slotSources = s.slotSources ↔ t.ports = s.ports ∧ t.stores = s.stores ∧ t.switch = s.switch
      ∧ t.opening.givenUp = s.opening.givenUp := by
  simp [State.slotSources]

theorem State.entryFor_congr {s t : State} (hswitch : t.switch = s.switch)
    (hgiven : t.opening.givenUp = s.opening.givenUp) (line : Line) (slot : Slot) :
    t.entryFor line slot = s.entryFor line slot := by
  simp only [State.entryFor, hswitch, hgiven]

/-- Slots have the same value where the sources agree, and at CONTROL slots the octets placed (R45, R54). -/
theorem State.slotValue_congr {s t : State} (h : t.slotSources = s.slotSources) {line : Line} {slot : Slot}
    (hcontrol : s.entryFor line slot = .control → t.managementOctet line slot = s.managementOctet line slot) :
    t.slotValue line slot = s.slotValue line slot := by
  obtain ⟨hports, hstores, hswitch, hgiven⟩ := (State.slotSources_eq_iff s t).mp h
  have hentry := State.entryFor_congr hswitch hgiven line slot
  cases he : s.entryFor line slot with
  | control => simp only [State.slotValue, hentry, he, hcontrol he, State.port, hports]
  | _ =>
    simp only [State.slotValue, hentry, he, State.sourceWord, State.patternWord, State.pattern, State.port,
      State.store, hports, hstores, hswitch]

theorem Link.resting_of_move {k k' : Link} (h : k'.move = k.move) (hk : k.resting) : k'.resting := by
  obtain ⟨-, hstate, hpending, hformer, -, -⟩ := (Link.move_eq_iff _ _).mp h
  exact ⟨hstate.trans hk.1, hpending.trans hk.2.1, hformer.trans hk.2.2⟩

/-- An octet that a settled link reads ends no trial: the move and the record of shares stay (R169, R179). -/
theorem State.receive_settled {s : State} (h : s.link.state = .settled) (b : Byte) :
    (s.receive b).link.move = s.link.move ∧ (s.receive b).opening = s.opening := by
  obtain ⟨k, heq, hk⟩ | ⟨seq, kind, payload, -, heq⟩ := s.receive_cases b
  · rw [heq]
    exact ⟨hk, rfl⟩
  · have hsame : (s.receiving .hunt).confirm = s.receiving .hunt := State.confirm_settled (s := s.receiving .hunt) h
    rw [heq, State.deliverGood_link, State.deliverGood_opening, hsame]
    exact ⟨rfl, rfl⟩

/-- With no move pending or in trial the link's act begins none and gives up no location (R165). -/
theorem State.linkAct_rests {s : State} (h : s.link.resting) :
    (s.linkAct State.readFrame).link.resting
      ∧ (s.linkAct State.readFrame).opening.givenUp = s.opening.givenUp := by
  have hhead : s.headParts = s :=
    State.headParts_settled h.1 ⟨fun _ => .inl h.2.1, fun ht => by rw [h.1] at ht; cases ht⟩
  have hfold : ∀ (octets : List Byte) (u : State), u.link.state = .settled →
      (octets.foldl State.receive u).link.move = u.link.move
        ∧ (octets.foldl State.receive u).opening = u.opening := by
    intro octets
    induction octets with
    | nil => exact fun _ _ => ⟨rfl, rfl⟩
    | cons b rest ih =>
      intro u hu
      obtain ⟨hmove, hopening⟩ := State.receive_settled hu b
      obtain ⟨-, hstate, -⟩ := (Link.move_eq_iff _ _).mp hmove
      obtain ⟨hmoves, hopenings⟩ := ih _ (hstate.trans hu)
      exact ⟨hmoves.trans hmove, hopenings.trans hopening⟩
  have hread : s.readFrame.link.move = s.link.move ∧ s.readFrame.opening = s.opening := by
    unfold State.readFrame
    split
    · exact ⟨rfl, rfl⟩
    · exact hfold _ s h.1
  rw [State.linkAct, hhead]
  refine ⟨Link.resting_of_move ((State.fillFrame_leavesMove _).move.trans hread.1) h, ?_⟩
  rw [← hread.2]
  exact State.fillFrame_givenUp _

/-- With no move pending or in trial no share changes a source of the output frames (R165). -/
theorem State.takeShare_rests {before s : State} {found : Taker → State} (h : s.link.resting) (t : Taker) :
    (State.takeShare before found s t).link.resting
      ∧ (State.takeShare before found s t).slotSources = s.slotSources := by
  by_cases ht : t = .link
  · subst ht
    simp only [State.takeShare]
    split
    · exact ⟨h, rfl⟩
    · obtain ⟨hrests, hgiven⟩ := State.linkAct_rests h
      exact ⟨hrests, (State.slotSources_eq_iff _ _).mpr
        ⟨by simp, by simp, State.linkAct_switch_resting h, hgiven⟩⟩
  · refine ⟨by rw [State.takeShare_link ht]; exact h, (State.slotSources_eq_iff _ _).mpr ⟨by simp, by simp, ?_, ?_⟩⟩
    · exact (State.takeShare_leavesMove before found s ht).switch
    · rw [State.takeShare_opening ht]

theorem State.foldl_takeShare_rests {before : State} {found : Taker → State} (shares : List Taker) {s : State}
    (h : s.link.resting) :
    (shares.foldl (State.takeShare before found) s).link.resting
      ∧ (shares.foldl (State.takeShare before found) s).slotSources = s.slotSources := by
  induction shares generalizing s with
  | nil => exact ⟨h, rfl⟩
  | cons t rest ih =>
    obtain ⟨hrests, hsources⟩ := State.takeShare_rests (before := before) (found := found) h t
    obtain ⟨hlast, hall⟩ := ih hrests
    exact ⟨hlast, hall.trans hsources⟩

theorem State.sharesTaken_slotSources {s : State} (h : s.link.resting) (shares : List Taker) :
    (s.sharesTaken shares).slotSources = (s.numberedEffects fun _ => s).slotSources :=
  (State.foldl_takeShare_rests shares (by simpa using h)).2

/-! ### A TX probe observes what the frame carries -/

theorem State.mcStep_linkDone (s : State) (n : Word) : (s.mcStep n).opening.linkDone = s.opening.linkDone := by
  unfold State.mcStep
  (repeat' split) <;> rfl

theorem fireAll_linkDone (n : Word) (es : List ScheduleEntry) (s : State) :
    (fireAll n es s).1.opening.linkDone = s.opening.linkDone := by
  induction es generalizing s with
  | nil => rfl
  | cons e es ih =>
    refine (ih _).trans ?_
    cases e.action with
    | swap => simp only [State.handOver]; split <;> rfl
    | pattern i v => rfl

theorem State.mapEffects_linkDone (s : State) : s.mapEffects.opening.linkDone = s.opening.linkDone := by
  have hfire : s.switchBoundary.fireOnce.1.opening.linkDone = s.switchBoundary.opening.linkDone := by
    unfold State.fireOnce
    split
    · rfl
    · exact fireAll_linkDone _ _ _
  exact hfire.trans (State.mcStep_linkDone _ _)

/-- Behind the link's share the octets of the management slots stand (R54, R171). -/
theorem State.foldl_takeShare_managementOctet {before : State} {found : Taker → State} {shares : List Taker}
    (h : .link ∉ shares) (s : State) (line : Line) (slot : Slot) :
    (shares.foldl (State.takeShare before found) s).managementOctet line slot = s.managementOctet line slot := by
  simp only [State.managementOctet, State.foldl_takeShare_opening h,
    (State.foldl_takeShare_leavesMove h before found s).2]

/-- With no move pending or in trial, a TX probe's slot has the value at the probe's share that it has when the output frames begin: a probe on a CONTROL slot waits for the link (R133). -/
theorem State.sharesTaken_slotValue {s : State} (hopen : s.opening = closedOpening) (hrest : s.link.resting)
    {i : ProbeIndex} (hside : (s.probe i).side = .tx) (earlier : List Taker) {later : List Taker}
    (hdefers : s.mapEffects.defers (.probe i) = true → .link ∉ later) :
    (s.sharesTaken (earlier ++ .probe i :: later)).slotValue (s.probe i).line (s.probe i).slot
      = (s.sharesTaken earlier).slotValue (s.probe i).line (s.probe i).slot := by
  have hsources := State.sharesTaken_slotSources hrest
  refine State.slotValue_congr ((hsources _).trans (hsources earlier).symm) fun hcontrol => ?_
  obtain ⟨-, -, hswitch, hgiven⟩ := (State.slotSources_eq_iff _ _).mp (hsources earlier)
  rw [State.entryFor_congr hswitch hgiven] at hcontrol
  have hprobe : s.mapEffects.probe i = s.probe i := State.probe_congr (by simp [State.mapEffects]) i
  have hwaits : s.mapEffects.defers (.probe i) = true := by
    simp only [State.defers, State.mapEffects_linkDone, hopen, State.watchesControl, hprobe, hside,
      Bool.and_eq_true, decide_eq_true_eq]
    exact ⟨rfl, trivial, hcontrol⟩
  rw [State.sharesTaken_append, List.foldl_cons]
  refine (State.foldl_takeShare_managementOctet (hdefers hwaits) _ _ _).trans ?_
  simp [State.takeShare, State.managementOctet]

end Sys2Proof.Machine
end

section
/-! CERTIFICATE. The slot probes at a boundary: ProbesObserveOncePerBoundary. -/

namespace Sys2Proof.Machine

/-! ### A probe after the boundary -/

/-- A probe after the boundary, by what it observes at its share (R135 to R137). -/
theorem State.numberedBoundary_probe_observed {s : State} (hopen : s.opening = closedOpening)
    {order earlier later : List Taker} {i : ProbeIndex} {seen : SlotValue}
    (hsplit : s.mapEffects.shareOrder order = earlier ++ .probe i :: later) (hearlier : .probe i ∉ earlier)
    (hlater : .probe i ∉ later) (hmode : (s.probe i).mode ≠ .off)
    (hseen : (s.sharesTaken earlier).observation (s.probe i) = some seen) :
    (s.numberedBoundary ⟨order, []⟩).probe i = (s.probe i).observe (s.timing.sfn + 1) seen := by
  have hsame := s.sharesTaken_probe hearlier
  rw [State.numberedBoundary_probe hsplit hlater,
    State.probeBoundary_probe (by rw [hsame]; exact hmode) (by rw [hsame]; exact hseen), if_pos rfl, hsame,
    State.sharesTaken_timing, State.timingAfter_fresh hopen]
  rfl

/-- A probe that observes nothing at its share stays as it is (R132, R133). -/
theorem State.numberedBoundary_probe_idle {s : State} {order earlier later : List Taker} {i : ProbeIndex}
    (hsplit : s.mapEffects.shareOrder order = earlier ++ .probe i :: later) (hearlier : .probe i ∉ earlier)
    (hlater : .probe i ∉ later) (hnone : (s.sharesTaken earlier).observation (s.probe i) = none) :
    (s.numberedBoundary ⟨order, []⟩).probe i = s.probe i := by
  have hsame := s.sharesTaken_probe hearlier
  rw [State.numberedBoundary_probe hsplit hlater, State.probeBoundary_idle (.inr (by rw [hsame]; exact hnone)), hsame]

/-- A hit in the words of the statement: counted, and captured where no record is present (R137). -/
theorem Probe.observe_hit_match {p : Probe} {seen : SlotValue} (h : p.hitBy seen = true) (n : Word) :
    p.observe n seen =
      { p with
        last := some seen
        hits := if p.hits = 0xFFFFFFFF then p.hits else p.hits + 1
        capture :=
          match p.capture with
          | some c => some c
          | none => some { frame := n, seen := seen } } := by
  rw [Probe.observe_hit h]
  cases p.capture <;> rfl

/-- A MATCH or CHANGE hit on a word (R135, R136). -/
theorem Probe.hitBy_word_iff (p : Probe) (w : Word) :
    p.hitBy (.word w) = true ↔
      (p.mode = .matching ∧ (w ^^^ p.value) &&& p.mask = 0)
        ∨ (p.mode = .change ∧ p.last.isSome = true ∧ p.last ≠ some (.word w)) := by
  simp [Probe.hitBy_iff]

/-! ### RX and TX -/

theorem State.sharesTaken_port (s : State) (shares : List Taker) (line : Line) :
    (s.sharesTaken shares).port line = s.port line := by
  rw [State.port, State.sharesTaken_ports, State.port]

/-- The stores have taken the boundary whenever a probe observes (R89). -/
theorem State.sharesTaken_store (s : State) (shares order : List Taker) (line : Line) :
    (s.sharesTaken shares).store line = (s.numberedBoundary ⟨order, []⟩).store line := by
  rw [State.store, State.sharesTaken_stores, State.store, State.numberedBoundary_stores]

section sides
variable {s : State} (hopen : s.opening = closedOpening) (order : List Taker) {i : ProbeIndex}

/-- Without a frame newly taken, or off its frame, an RX probe stays as it is (R132). -/
theorem State.numberedBoundary_rx_idle (hside : (s.probe i).side = .rx)
    (h : ¬ ((s.probe i).slot.val < (s.port (s.probe i).line).record.slots
      ∧ ((s.numberedBoundary ⟨order, []⟩).store (s.probe i).line).newly = true
      ∧ ((s.numberedBoundary ⟨order, []⟩).store (s.probe i).line).current.isSome = true)) :
    (s.numberedBoundary ⟨order, []⟩).probe i = s.probe i := by
  obtain ⟨earlier, later, hsplit, hearlier, hlater, -, -⟩ := s.mapEffects.shareOrder_place order (.probe i)
  refine State.numberedBoundary_probe_idle hsplit hearlier hlater (State.observation_rx_none hside ?_)
  rwa [State.sharesTaken_port, s.sharesTaken_store earlier order]

/-- With tx off, or off its frame, a TX probe stays as it is (R133). -/
theorem State.numberedBoundary_tx_idle (hside : (s.probe i).side = .tx)
    (h : (s.port (s.probe i).line).record.txOn = false
      ∨ (s.port (s.probe i).line).record.slots ≤ (s.probe i).slot.val) :
    (s.numberedBoundary ⟨order, []⟩).probe i = s.probe i := by
  obtain ⟨earlier, later, hsplit, hearlier, hlater, -, -⟩ := s.mapEffects.shareOrder_place order (.probe i)
  refine State.numberedBoundary_probe_idle hsplit hearlier hlater (State.observation_tx_none hside ?_)
  rwa [State.sharesTaken_port]

include hopen

/-- An RX probe observes the word of its slot in the frame newly taken (R132). -/
theorem State.numberedBoundary_rx_observes (hmode : (s.probe i).mode ≠ .off) (hside : (s.probe i).side = .rx)
    (hslot : (s.probe i).slot.val < (s.port (s.probe i).line).record.slots)
    (hnewly : ((s.numberedBoundary ⟨order, []⟩).store (s.probe i).line).newly = true)
    (hcurrent : ((s.numberedBoundary ⟨order, []⟩).store (s.probe i).line).current.isSome = true) :
    (s.numberedBoundary ⟨order, []⟩).probe i
      = (s.probe i).observe (s.timing.sfn + 1)
        (.word ((((s.numberedBoundary ⟨order, []⟩).store (s.probe i).line).current.getD []).getD
          (s.probe i).slot.val 0)) := by
  obtain ⟨earlier, later, hsplit, hearlier, hlater, -, -⟩ := s.mapEffects.shareOrder_place order (.probe i)
  rw [← s.sharesTaken_port earlier] at hslot
  rw [← s.sharesTaken_store earlier] at hnewly hcurrent ⊢
  exact State.numberedBoundary_probe_observed hopen hsplit hearlier hlater hmode
    (State.observation_rx hside hslot hnewly hcurrent)

/-- A TX probe observes its slot's value in the output frame that begins at the boundary (R133). -/
theorem State.numberedBoundary_tx_observes (hrest : s.link.resting) (hmode : (s.probe i).mode ≠ .off)
    (hside : (s.probe i).side = .tx) (hon : (s.port (s.probe i).line).record.txOn = true)
    (hslot : (s.probe i).slot.val < (s.port (s.probe i).line).record.slots) :
    ∃ frame seen, ((s.numberedBoundary ⟨order, []⟩).port (s.probe i).line).tx = .sending frame 0
      ∧ frame.slots[(s.probe i).slot.val]? = some seen
      ∧ (s.numberedBoundary ⟨order, []⟩).probe i = (s.probe i).observe (s.timing.sfn + 1) seen := by
  obtain ⟨earlier, later, hsplit, hearlier, hlater, -, hdefers⟩ := s.mapEffects.shareOrder_place order (.probe i)
  set f := s.sharesTaken (s.mapEffects.shareOrder order) with hf
  have hvalue : f.slotValue (s.probe i).line (s.probe i).slot
      = (s.sharesTaken earlier).slotValue (s.probe i).line (s.probe i).slot := by
    rw [hf, hsplit]
    exact State.sharesTaken_slotValue hopen hrest hside earlier hdefers
  refine ⟨f.outFrame (s.probe i).line, f.slotValue (s.probe i).line (s.probe i).slot, ?_, ?_, ?_⟩
  · rw [State.numberedBoundary_sharesTaken]
    refine (congrArg LinePort.tx (f.beginFrames_port _)).trans ?_
    rw [State.beginPort_on (by rw [hf, State.sharesTaken_port]; exact hon)]
  · exact f.outFrame_slot _ (by rw [hf, State.sharesTaken_port]; exact hslot)
  · rw [hvalue]
    rw [← s.sharesTaken_port earlier] at hslot hon
    exact State.numberedBoundary_probe_observed hopen hsplit hearlier hlater hmode
      (State.observation_tx hside hslot hon)

end sides

/-! ### PROBE_MATCH -/

/-- A capture record that a boundary sets has its PROBE_MATCH in the notice queue after it (R137, R189). -/
theorem State.numberedBoundary_showsProbeMatch {s : State} (hopen : s.opening = closedOpening) (order : List Taker)
    {i : ProbeIndex} {record : Capture} (hnone : (s.probe i).capture = none)
    (hmask : s.notices.mask.getLsbD 4 = true)
    (hset : ((s.numberedBoundary ⟨order, []⟩).probe i).capture = some record) :
    (s.numberedBoundary ⟨order, []⟩).notices.shows (.probeMatch i (s.timing.sfn + 1) record.seen) := by
  obtain ⟨earlier, later, hsplit, hearlier, hlater, hnodup, -⟩ := s.mapEffects.shareOrder_place order (.probe i)
  rw [State.numberedBoundary_probe hsplit hlater] at hset
  have hraised := State.probeBoundary_raises (by rw [s.sharesTaken_probe hearlier]; exact hnone) hset
  have hsfn : (s.sharesTaken earlier).timing.sfn = s.timing.sfn + 1 := by
    rw [State.sharesTaken_timing, State.timingAfter_fresh hopen]
    rfl
  have hholds : ((s.sharesTaken earlier).probeBoundary i).notices.holds
      (.probeMatch i (s.timing.sfn + 1) record.seen) := by
    rw [hraised, hsfn]
    exact NoticeUnit.raise_holds_of_enabled (by rw [State.sharesTaken_mask]; exact hmask) rfl
  rw [State.numberedBoundary_sharesTaken, hsplit, State.sharesTaken_append]
  exact State.foldl_takeShare_holds hnodup rfl hholds

/-- Settles O14: at its place among the shares an RX probe finds the stores as they have taken the boundary, a TX probe the slot's value in the frame to come (`State.sharesTaken_slotValue`); no other share touches the probe, and the event stands to the end. -/
theorem probesObserveOncePerBoundary : Obligations.ProbesObserveOncePerBoundary := by
  refine ⟨fun s order i ⟨hdue, hopen⟩ hmode hside => ⟨_, exec_boundary_numbered hdue _, ?rx⟩,
    fun s order i ⟨hdue, hopen⟩ hrest _ hmode hside => ⟨_, exec_boundary_numbered hdue _, ?tx⟩,
    fun s order i ⟨hdue, hopen⟩ hnone hmask => ⟨_, exec_boundary_numbered hdue _, fun record hset =>
      State.numberedBoundary_showsProbeMatch hopen order hnone hmask hset⟩⟩
  case rx =>
    extract_lets p e seen observes hit
    have hafter : observes → (s.numberedBoundary ⟨order, []⟩).probe i = p.observe (s.timing.sfn + 1) (.word seen) :=
      fun ⟨hslot, hnewly, hcurrent⟩ =>
        State.numberedBoundary_rx_observes hopen order hmode hside hslot hnewly hcurrent
    refine ⟨State.numberedBoundary_rx_idle order hside, fun hobserves hmiss => ?_, fun hobserves hhit => ?_⟩
    · exact (hafter hobserves).trans (Probe.observe_miss (mt (p.hitBy_word_iff seen).mp hmiss) _)
    · exact (hafter hobserves).trans (Probe.observe_hit_match ((p.hitBy_word_iff seen).mpr hhit) _)
  case tx =>
    refine ⟨State.numberedBoundary_tx_idle order hside, fun hon hslot => ?_⟩
    obtain ⟨frame, seen, htx, hvalue, hafter⟩ :=
      State.numberedBoundary_tx_observes hopen order hrest hmode hside hon hslot
    exact ⟨frame, seen, htx, hvalue,
      fun hmiss => hafter.trans (Probe.observe_miss (mt (Probe.hitBy_iff _ _).mp hmiss) _),
      fun hhit => hafter.trans (Probe.observe_hit_match ((Probe.hitBy_iff _ _).mpr hhit) _)⟩

end Sys2Proof.Machine
end

section
/-! SUPPORT. Which commands leave the probes and the frame number alone (R99, R130, R149). -/

namespace Sys2Proof.Machine

/-- The probes and the frame number. -/
def State.probesAndFrame (s : State) : Vector Probe 4 × Word :=
  (s.probes, s.timing.sfn)

theorem State.probesAndFrame_of_same {s t : State} (hprobes : t.probes = s.probes) (htiming : t.timing = s.timing) :
    t.probesAndFrame = s.probesAndFrame := by
  rw [State.probesAndFrame, hprobes, htiming, State.probesAndFrame]

/-! ### Requests -/

section requests
variable (r : Request) (s : State)

@[simp] theorem echo_probesAndFrame : (echo r s).probesAndFrame = s.probesAndFrame := by
  unfold echo; split <;> rfl
@[simp] theorem identify_probesAndFrame : (identify r s).probesAndFrame = s.probesAndFrame := by
  unfold identify; split <;> rfl
@[simp] theorem restartFull_probesAndFrame : (restartFull r s).probesAndFrame = s.probesAndFrame := by
  unfold restartFull; (repeat' split) <;> rfl
@[simp] theorem setLine_probesAndFrame : (setLine r s).probesAndFrame = s.probesAndFrame := by
  unfold setLine; (repeat' split) <;> simp [State.probesAndFrame]
@[simp] theorem getLine_probesAndFrame : (getLine r s).probesAndFrame = s.probesAndFrame := by
  unfold getLine; (repeat' split) <;> rfl
@[simp] theorem readStats_probesAndFrame : (readStats r s).probesAndFrame = s.probesAndFrame := by
  unfold readStats; (repeat' split) <;> rfl
@[simp] theorem setReference_probesAndFrame : (setReference r s).probesAndFrame = s.probesAndFrame := by
  unfold setReference; (repeat' split) <;> rfl
@[simp] theorem getTiming_probesAndFrame : (getTiming r s).probesAndFrame = s.probesAndFrame := by
  unfold getTiming; split <;> rfl
@[simp] theorem writeEntries_probesAndFrame : (writeEntries r s).probesAndFrame = s.probesAndFrame := by
  unfold writeEntries; (repeat' split) <;> rfl
@[simp] theorem readEntries_probesAndFrame : (readEntries r s).probesAndFrame = s.probesAndFrame := by
  unfold readEntries; (repeat' split) <;> rfl
@[simp] theorem setPattern_probesAndFrame : (setPattern r s).probesAndFrame = s.probesAndFrame := by
  unfold setPattern; (repeat' split) <;> rfl
@[simp] theorem getPattern_probesAndFrame : (getPattern r s).probesAndFrame = s.probesAndFrame := by
  unfold getPattern; (repeat' split) <;> rfl
theorem pageRequest_probesAndFrame {accept : State → State} (h : (accept s).probesAndFrame = s.probesAndFrame) :
    (pageRequest accept r s).probesAndFrame = s.probesAndFrame := by
  unfold pageRequest
  split
  · split
    · exact h
    all_goals rfl
  · rfl
@[simp] theorem copyPage_probesAndFrame : (copyPage r s).probesAndFrame = s.probesAndFrame :=
  pageRequest_probesAndFrame r s rfl
@[simp] theorem clearPage_probesAndFrame : (clearPage r s).probesAndFrame = s.probesAndFrame :=
  pageRequest_probesAndFrame r s rfl
@[simp] theorem swapPages_probesAndFrame : (swapPages r s).probesAndFrame = s.probesAndFrame :=
  pageRequest_probesAndFrame r s rfl
@[simp] theorem getPages_probesAndFrame : (getPages r s).probesAndFrame = s.probesAndFrame := by
  unfold getPages; split <;> rfl
@[simp] theorem addSchedule_probesAndFrame : (addSchedule r s).probesAndFrame = s.probesAndFrame := by
  simp only [addSchedule]; (repeat' split) <;> rfl
@[simp] theorem cancelSchedule_probesAndFrame : (cancelSchedule r s).probesAndFrame = s.probesAndFrame := by
  unfold cancelSchedule; (repeat' split) <;> rfl
@[simp] theorem listSchedule_probesAndFrame : (listSchedule r s).probesAndFrame = s.probesAndFrame := by
  unfold listSchedule; split <;> rfl
@[simp] theorem moveChannel_probesAndFrame : (moveChannel r s).probesAndFrame = s.probesAndFrame := by
  unfold moveChannel; (repeat' split) <;> rfl
@[simp] theorem getLink_probesAndFrame : (getLink r s).probesAndFrame = s.probesAndFrame := by
  unfold getLink; (repeat' split) <;> rfl
@[simp] theorem setNotices_probesAndFrame : (setNotices r s).probesAndFrame = s.probesAndFrame := by
  simp only [setNotices]; (repeat' split) <;> rfl
@[simp] theorem getNotices_probesAndFrame : (getNotices r s).probesAndFrame = s.probesAndFrame := by
  unfold getNotices; split <;> rfl

/-- A Restart of scope SWITCH touches no part of the Timing Unit (R160). -/
theorem restartSwitch_sfn : (restartSwitch r s).timing.sfn = s.timing.sfn := by
  unfold restartSwitch; (repeat' split) <;> simp

end requests

/-- What taking a request off the queue and carrying it out keep, its row keeps (R149). -/
theorem State.serve_keeps {β : Type} (f : State → β) (hengine : ∀ (u : State) q, f (u.withEngine q) = f u)
    (s : State) (test : Request → Bool) {carry : Request → State → State} (h : ∀ r t, f (carry r t) = f t) :
    f (s.serve test carry) = f s := by
  obtain hs | ⟨r, rest, -, -, hs⟩ := s.serve_cases test carry
  · rw [hs]
  · rw [hs, h]
    exact hengine s _

theorem State.serve_probesAndFrame (s : State) (test : Request → Bool) {carry : Request → State → State}
    (h : ∀ r t, (carry r t).probesAndFrame = t.probesAndFrame) :
    (s.serve test carry).probesAndFrame = s.probesAndFrame :=
  s.serve_keeps State.probesAndFrame (fun _ _ => rfl) test h

/-! ### Shares of a boundary, and bit periods -/

theorem State.rxPeriods_probesAndFrame (s : State) (line : Line) (xs : List RxSample) :
    (s.rxPeriods line xs).probesAndFrame = s.probesAndFrame :=
  Prod.ext (s.rxPeriods_probes line xs) (Prod.ext_iff.mp (s.rxPeriods_table line xs)).2

theorem State.mcShare_probesAndFrame (s : State) : s.mcShare.probesAndFrame = s.probesAndFrame :=
  State.probesAndFrame_of_same s.mcShare_probes s.mcShare_timing

theorem State.readShare_probesAndFrame (s : State) :
    (s.linkShare State.readFrame).probesAndFrame = s.probesAndFrame :=
  State.probesAndFrame_of_same (s.linkShare_probes _ State.readFrame_probes)
    (s.linkShare_timing _ State.readFrame_timing)

theorem State.deliveringShare_probesAndFrame (s : State) (seq kind : Byte) (payload : List Byte) :
    (s.linkShare (State.delivering seq kind payload)).probesAndFrame = s.probesAndFrame :=
  State.probesAndFrame_of_same (s.linkShare_probes _ fun u => u.delivering_probes _ _ _)
    (s.linkShare_timing _ fun u => u.delivering_timing _ _ _)

/-! ### Commands -/

/-- The commands that may change a probe or the frame number: the restarts, BOUNDARY, SCHEDULE_FIRING, Set Probe and Read Probe (R80, R99, R121, R139, R140, R160). -/
def reachesProbesOrFrame : Instr → Bool
  | .powerUp _ _ | .restartN _ | .restartNRelease _ | .fullRestartBoundary _ | .boundary _ | .scheduleFiring
  | .setProbe | .readProbe | .restartSwitch => true
  | _ => false

theorem State.probesAndFrame_ite {s t : State} {c : Prop} [Decidable c] (h : t.probesAndFrame = s.probesAndFrame) :
    (if c then t else s).probesAndFrame = s.probesAndFrame := by
  split
  · exact h
  · rfl

/-- Every other command leaves both alone. -/
theorem exec_probesAndFrame {c : Instr} {s t : State} (h : exec c s = .next t)
    (hc : reachesProbesOrFrame c = false) : t.probesAndFrame = s.probesAndFrame := by
  cases c <;> cases h
  case powerUp | restartN | restartNRelease | fullRestartBoundary | boundary | scheduleFiring | setProbe
    | readProbe | restartSwitch => cases hc
  case txFrameEnd => rfl
  case stall | retransmitTimeout => exact State.probesAndFrame_ite rfl
  case copyComplete | clearComplete | takePendingSwap =>
    split
    · exact State.probesAndFrame_ite s.mcShare_probesAndFrame
    · rfl
  case requestIntake | noticeAck | foreignKind =>
    exact State.probesAndFrame_ite (s.deliveringShare_probesAndFrame _ _ _)
  case messageEnd | channelSwitch | trialTimeout | lineLostRevert =>
    exact State.probesAndFrame_ite s.readShare_probesAndFrame
  case pulse | flywheelFrameEnd => exact s.rxPeriods_probesAndFrame _ _
  case unknownKind => exact s.serve_probesAndFrame _ fun _ _ => rfl
  -- the remaining rows each carry out a request of the section above
  all_goals exact s.serve_probesAndFrame _ fun r t => by simp

end Sys2Proof.Machine
end

section
/-! CERTIFICATE. Capture records and the frame number change only where the rules say: WhatOnlySomeCommandsChange. -/

namespace Sys2Proof.Machine

/-! ### Capture records -/

/-- An act that leads from `s` to `t` leaves every capture record that is present as it is. -/
def State.KeepsCaptures (s t : State) : Prop :=
  ∀ (i : ProbeIndex) (record : Capture), (s.probe i).capture = some record → (t.probe i).capture = some record

theorem State.KeepsCaptures.trans {s t u : State} (h : s.KeepsCaptures t) (h' : t.KeepsCaptures u) :
    s.KeepsCaptures u :=
  fun i record hs => h' i record (h i record hs)

theorem State.KeepsCaptures.of_probes {s t : State} (h : t.probes = s.probes) : s.KeepsCaptures t :=
  fun i _ hs => by rwa [State.probe_congr h]

/-- A probe's share sets a capture record at most where none is present (R137). -/
theorem State.probeBoundary_keepsCaptures (s : State) (i : ProbeIndex) : s.KeepsCaptures (s.probeBoundary i) := by
  intro j record hs
  obtain hidle | ⟨seen, hmode, hseen⟩ := s.probeBoundary_cases i
  · rwa [hidle]
  · rw [State.probeBoundary_probe hmode hseen]
    split
    next heq =>
      subst heq
      exact Probe.observe_capture_some hs _ _
    next => exact hs

theorem State.takeShare_keepsCaptures (before : State) (found : Taker → State) (s : State) (t : Taker) :
    s.KeepsCaptures (State.takeShare before found s t) := by
  cases t with
  | probe i => exact s.probeBoundary_keepsCaptures i
  | _ => exact .of_probes (State.takeShare_probes (by nofun))

/-- A numbered boundary keeps them, whatever framer events fall together with it (R137). -/
theorem State.numberedBoundary_keepsCaptures (s : State) (order : BoundaryOrder) :
    s.KeepsCaptures (s.numberedBoundary order) := by
  unfold State.numberedBoundary
  extract_lets shares events found shared
  have hshared : s.KeepsCaptures shared :=
    takeInTurn_induction (P := fun _ u => s.KeepsCaptures u) (fun _ hu => hu)
      (fun hu => hu.trans (.of_probes (State.meet_probes _ _ _ _)))
      (fun t hu => hu.trans (State.takeShare_keepsCaptures s found _ t)) shares events
      (.of_probes (s.numberedEffects_probes found))
  refine hshared.trans (.of_probes ?_)
  exact (foldl_keeps State.probes _ (fun u (c : Coincidence) => u.rxPeriod_probes c.line c.sample) _ _).trans rfl

/-! ### The frame number -/

/-- The boundary that comes is the next one, or the one whose number the Timing Unit has taken ahead (R99, log 6). -/
theorem State.comingFrame_ahead {s : State} (h : s.opening.timingDone = false) : s.comingFrame = s.timing.sfn + 1 := by
  simp [State.comingFrame, h]

theorem State.comingFrame_taken {s : State} (h : s.opening.timingDone = true) : s.comingFrame = s.timing.sfn := by
  simp [State.comingFrame, h]

theorem State.comingFrame_cases (s : State) :
    s.comingFrame = s.timing.sfn ∨ s.comingFrame = s.timing.sfn + 1 := by
  cases hdone : s.opening.timingDone with
  | true => exact .inl (State.comingFrame_taken hdone)
  | false => exact .inr (State.comingFrame_ahead hdone)

/-- All that BOUNDARY can do where it is no restart boundary: take a numbered boundary, its point reached before or at it, or nothing (R99, R102 to R105). -/
theorem exec_boundary_cases {s t : State} {order : BoundaryOrder} (h : exec (.boundary order) s = .next t)
    (hnumbered : s.restartDue = false) :
    ((s.boundaryDue = true ∨ s.placedWithin order.within = true)
        ∧ ∃ u : State, u.probesAndFrame = s.probesAndFrame ∧ u.comingFrame = s.comingFrame ∧ t = u.numberedBoundary order)
      ∨ (s.boundaryDue = false ∧ s.placedWithin order.within = false ∧ t = s) := by
  have htakes : ∀ u : State, u.restartDue = false → u.takeBoundary order = u.numberedBoundary order := fun u hu => by
    rw [State.takeBoundary, hu, if_neg Bool.false_ne_true]
  cases hdue : s.boundaryDue with
  | true =>
    rw [exec_boundary_due hdue, htakes s hnumbered] at h
    cases h
    exact .inl ⟨.inl rfl, s, rfl, rfl, rfl⟩
  | false =>
    cases hwithin : s.placedWithin order.within with
    | true =>
      rw [exec_boundary_within hdue hwithin, htakes s.pointTaken hnumbered] at h
      cases h
      exact .inl ⟨.inr rfl, s.pointTaken, rfl, rfl, rfl⟩
    | false =>
      rw [exec_boundary_notDue hdue hwithin] at h
      cases h
      exact .inr ⟨rfl, rfl, rfl⟩

/-- A BOUNDARY that falls brings its number; else the frame number stays (R99). -/
theorem exec_boundary_sfn {s t : State} {order : BoundaryOrder} (h : exec (.boundary order) s = .next t)
    (hnumbered : s.restartDue = false) :
    t.timing.sfn =
      if s.boundaryDue = true ∨ s.placedWithin order.within = true then s.comingFrame else s.timing.sfn := by
  obtain ⟨hfalls, u, -, hcoming, rfl⟩ | ⟨hdue, hwithin, rfl⟩ := exec_boundary_cases h hnumbered
  · rw [if_pos hfalls, u.numberedBoundary_sfn, hcoming]
  · simp [hdue, hwithin]

/-- SCHEDULE_FIRING takes the Timing Unit's act where some entry is due (R121). -/
theorem exec_scheduleFiring_sfn {s t : State} (h : exec .scheduleFiring s = .next t) :
    t.timing.sfn =
      if s.numberedDue = true ∧ s.opening.timingDone = false ∧ s.due s.comingFrame ≠ [] then s.timing.sfn + 1
      else s.timing.sfn := by
  cases h
  simp only [Bool.and_eq_true, Bool.not_eq_true', List.isEmpty_eq_false_iff, and_assoc]
  split
  · rw [State.timingShare_timing]
    rfl
  · rfl

/-- Among the bit periods given is the locked line's one that places the boundary (R102, R103). -/
theorem State.placedWithin_of_mem {s : State} {line : Line} {within : List Coincidence} {c : Coincidence}
    (hmem : c ∈ within) (hline : c.line = line) (hselected : s.timing.selector.line = some line)
    (hplaces : s.placesBoundary line = true) : s.placedWithin within = true := by
  simp only [State.placedWithin, hselected, Option.any_some, hplaces, Bool.true_and, List.any_eq_true,
    decide_eq_true_eq]
  exact ⟨c, hmem, hline⟩

/-! ### Every command but the restarts -/

section noRestart
variable {c : Instr} {s t : State} (h : exec c s = .next t) (hpower : ∀ straps high, c ≠ .powerUp straps high)
  (hlow : ∀ straps, c ≠ .restartN straps) (hrelease : ∀ straps, c ≠ .restartNRelease straps)
  (hfull : ∀ straps, c ≠ .fullRestartBoundary straps)
include h hpower hlow hrelease hfull

/-- Only BOUNDARY and SCHEDULE_FIRING move the frame number (R99, R121). -/
theorem exec_sfn_same (hboundary : ∀ order, c ≠ .boundary order) (hfiring : c ≠ .scheduleFiring) :
    t.timing.sfn = s.timing.sfn := by
  have hserve := s.serve_keeps (fun u => u.timing.sfn) (fun _ _ => rfl)
  cases c
  case powerUp => exact absurd rfl (hpower _ _)
  case restartN => exact absurd rfl (hlow _)
  case restartNRelease => exact absurd rfl (hrelease _)
  case fullRestartBoundary => exact absurd rfl (hfull _)
  case boundary => exact absurd rfl (hboundary _)
  case scheduleFiring => exact absurd rfl hfiring
  case setProbe => cases h; exact hserve _ fun r u => congrArg Prod.snd (setProbe_table r u)
  case readProbe => cases h; exact hserve _ fun r u => congrArg Prod.snd (readProbe_table r u)
  case restartSwitch => cases h; exact hserve _ restartSwitch_sfn
  all_goals exact congrArg Prod.snd (exec_probesAndFrame h rfl)

/-- The frame number moves by at most 1 (R99). -/
theorem exec_sfn_step (hnumbered : ∀ order, c = .boundary order → s.restartDue = false) :
    t.timing.sfn = s.timing.sfn ∨ t.timing.sfn = s.timing.sfn + 1 := by
  by_cases hboundary : ∃ order, c = .boundary order
  · obtain ⟨order, rfl⟩ := hboundary
    rw [exec_boundary_sfn h (hnumbered order rfl)]
    split
    · exact s.comingFrame_cases
    · exact .inl rfl
  by_cases hfiring : c = .scheduleFiring
  · subst hfiring
    rw [exec_scheduleFiring_sfn h]
    split
    · exact .inr rfl
    · exact .inl rfl
  exact .inl (exec_sfn_same h hpower hlow hrelease hfull (not_exists.mp hboundary) hfiring)

/-- Only Set Probe, Read Probe and a Restart of scope SWITCH may take a capture record away (R137, R139, R140, R142). -/
theorem exec_keepsCaptures (hnumbered : ∀ order, c = .boundary order → s.restartDue = false)
    (hset : c ≠ .setProbe) (hread : c ≠ .readProbe) (hswitch : c ≠ .restartSwitch) : s.KeepsCaptures t := by
  cases c
  case powerUp => exact absurd rfl (hpower _ _)
  case restartN => exact absurd rfl (hlow _)
  case restartNRelease => exact absurd rfl (hrelease _)
  case fullRestartBoundary => exact absurd rfl (hfull _)
  case setProbe => exact absurd rfl hset
  case readProbe => exact absurd rfl hread
  case restartSwitch => exact absurd rfl hswitch
  case boundary order =>
    obtain ⟨-, u, hu, -, rfl⟩ | ⟨-, -, rfl⟩ := exec_boundary_cases h (hnumbered order rfl)
    · exact (State.KeepsCaptures.of_probes (congrArg Prod.fst hu)).trans (u.numberedBoundary_keepsCaptures order)
    · exact .of_probes rfl
  case scheduleFiring =>
    cases h
    refine .of_probes ?_
    split
    · exact s.timingShare_probes
    · rfl
  all_goals exact .of_probes (congrArg Prod.fst (exec_probesAndFrame h rfl))

end noRestart

/-- Settles O60: the commands that reach neither probes nor frame number are `exec_probesAndFrame`; a boundary's probe shares keep a record that is present, and its number is the one to come (`State.numberedBoundary_sfn`). -/
theorem whatOnlySomeCommandsChange : Obligations.WhatOnlySomeCommandsChange := by
  refine ⟨fun s t c i record hrecord h hpower hlow hrelease hfull hnumbered hset hread hswitch =>
      exec_keepsCaptures h hpower hlow hrelease hfull hnumbered hset hread hswitch i record hrecord,
    fun s t c h hpower hlow hrelease hfull hnumbered => ⟨exec_sfn_step h hpower hlow hrelease hfull hnumbered,
      exec_sfn_same h hpower hlow hrelease hfull, ?due, ?within, ?firing⟩⟩
  case due =>
    rintro order rfl hdue
    have hsfn := exec_boundary_sfn h (hnumbered _ rfl)
    rw [if_pos (.inl hdue)] at hsfn
    exact ⟨fun hdone => hsfn.trans (State.comingFrame_ahead hdone),
      fun hdone => hsfn.trans (State.comingFrame_taken hdone)⟩
  case within =>
    rintro order line c' rfl hmem hline hselected hplaces hdone
    have hsfn := exec_boundary_sfn h (hnumbered _ rfl)
    rw [if_pos (.inr (State.placedWithin_of_mem hmem hline hselected hplaces))] at hsfn
    exact hsfn.trans (State.comingFrame_ahead hdone)
  case firing =>
    rintro rfl hdue hdone ⟨e, he, heq⟩
    have hmem : e ∈ s.due s.comingFrame :=
      List.mem_filter.mpr ⟨he, decide_eq_true (heq.trans (State.comingFrame_ahead hdone).symm)⟩
    exact (exec_scheduleFiring_sfn h).trans (if_pos ⟨hdue, hdone, List.ne_nil_of_mem hmem⟩)

end Sys2Proof.Machine
end

section
/-! SUPPORT. What the acts of the part do to the executor's hold and to the mark of the message being sent (R150, R174). -/

namespace Sys2Proof.Machine

/-! ### Acts between two states -/

/-- A message bears the mark of what it is sent for: the head response's, and none for a notice (R173, R174). -/
def OutMessage.Marked (m : OutMessage) (responses : List Response) : Prop :=
  match m.owner with
  | .response => responses.head?.map Response.hold = some m.hold
  | .notice => m.hold = false

/-- The hold law, and what the law of the message being sent says of its mark. Unlike that law it stands between the shares of one boundary too. -/
structure State.HoldSound (s : State) : Prop where
  law : s.holdLaw
  mark : ∀ m next, s.link.transmitter = .sending m next → m.Marked s.engine.responses

theorem State.holdSound_of_laws {s : State} (hsend : s.sendLaw) (hhold : s.holdLaw) : s.HoldSound := by
  refine ⟨hhold, fun m next hm => ?_⟩
  simp only [State.sendLaw, hm] at hsend
  obtain ⟨-, howner⟩ := hsend
  unfold OutMessage.Marked
  cases ho : m.owner <;> simp only [ho] at howner
  case response => exact howner.2
  case notice => exact howner.2.2

/-- Responses that join the queue behind leave the mark of the message being sent its head's. -/
theorem OutMessage.Marked.append {m : OutMessage} {responses : List Response} (h : m.Marked responses)
    (xs : List Response) : m.Marked (responses ++ xs) := by
  unfold OutMessage.Marked at h ⊢
  cases ho : m.owner <;> simp only [ho] at h ⊢
  case response =>
    cases responses with
    | nil => cases h
    | cons x rest => exact h
  case notice => exact h

/-- What an act that leads from `s` to `t` does to the hold. -/
def State.KeepsHold (s t : State) : Prop :=
  s.HoldSound → t.HoldSound

theorem State.KeepsHold.refl (s : State) : s.KeepsHold s :=
  id

theorem State.KeepsHold.trans {s t u : State} (h : s.KeepsHold t) (h' : t.KeepsHold u) : s.KeepsHold u :=
  h' ∘ h

theorem State.KeepsHold.ite {s t u : State} {c : Prop} [Decidable c] (ht : s.KeepsHold t) (hu : s.KeepsHold u) :
    s.KeepsHold (if c then t else u) := by
  split
  · exact ht
  · exact hu

theorem State.foldl_keepsHold {α : Type} {f : State → α → State} (h : ∀ (s : State) a, s.KeepsHold (f s a))
    (l : List α) (s : State) : s.KeepsHold (l.foldl f s) := by
  induction l generalizing s with
  | nil => exact .refl s
  | cons a l ih => exact (h s a).trans (ih _)

theorem Transmitter.again_eq_stopped_iff (x : Transmitter) : x.again = .stopped ↔ x = .stopped := by
  cases x <;> simp [Transmitter.again]

theorem Transmitter.sending_of_again {x y : Transmitter} (h : y.again = x.again) {m : OutMessage} {next : Nat}
    (hy : y = .sending m next) : ∃ next', x = .sending m next' := by
  subst hy
  cases x <;> simp [Transmitter.again] at h ⊢
  exact h.symm

/-- An act that queues unmarked responses behind the others, leaves the executor, and at most begins the message being sent again. -/
theorem State.KeepsHold.of_queued {s t : State} {xs : List Response}
    (hr : t.engine.responses = s.engine.responses ++ xs) (hxs : ∀ x ∈ xs, x.hold = false)
    (he : t.engine.executor = s.engine.executor)
    (hx : t.link.transmitter.again = s.link.transmitter.again) : s.KeepsHold t := by
  refine fun h => ⟨?_, fun m next hm => ?_⟩
  · have hnone : xs.filter Response.hold = [] := List.filter_eq_nil_iff.mpr fun x hx => by simp [hxs x hx]
    have hstop : t.link.transmitter = .stopped ↔ s.link.transmitter = .stopped := by
      rw [← Transmitter.again_eq_stopped_iff, hx, Transmitter.again_eq_stopped_iff]
    simpa only [State.holdLaw, hr, he, List.filter_append, hnone, List.append_nil, hstop] using h.law
  · obtain ⟨next', hs⟩ := Transmitter.sending_of_again hx hm
    rw [hr]
    exact (h.mark m next' hs).append xs

/-- An act that leaves the response queue as it is. -/
theorem State.KeepsHold.of_same {s t : State} (hr : t.engine.responses = s.engine.responses)
    (he : t.engine.executor = s.engine.executor)
    (hx : t.link.transmitter.again = s.link.transmitter.again) : s.KeepsHold t :=
  .of_queued (xs := []) (by rw [hr, List.append_nil]) nofun he hx

/-- With the executor READY no response is marked and the transmitter is not STOPPED (R150, R174). -/
theorem State.HoldSound.ready {s : State} (h : s.HoldSound) (hready : s.engine.executor = .ready) :
    s.engine.responses.filter Response.hold = [] ∧ s.link.transmitter ≠ .stopped := by
  have hlaw := h.law
  simp only [State.holdLaw, hready, reduceCtorEq, if_false, Nat.add_eq_zero_iff, List.length_eq_zero_iff] at hlaw
  refine ⟨hlaw.1, fun hstop => ?_⟩
  simp [hstop] at hlaw

/-- While the transmitter is STOPPED no response is marked (R174). -/
theorem State.HoldSound.stopped {s : State} (h : s.HoldSound) (hstop : s.link.transmitter = .stopped) :
    s.engine.responses.filter Response.hold = [] := by
  have hlaw := h.law
  simp only [State.holdLaw, hstop, if_true] at hlaw
  refine List.length_eq_zero_iff.mp ?_
  split at hlaw <;> omega

/-! ### Requests carried out -/

/-- A request answered from a state with the same engine and transmitter (R149). -/
theorem State.KeepsHold.answer {s u : State} {r : Request} {c : Status} {d : List Byte}
    (hr : u.engine.responses = s.engine.responses) (he : u.engine.executor = s.engine.executor)
    (hx : u.link.transmitter = s.link.transmitter) : s.KeepsHold (u.answer r c d) :=
  .of_queued (xs := [u.engine.response r.kind r.seq c d false]) (by rw [← hr]; rfl)
    (fun x hx => by rw [List.mem_singleton.mp hx]; rfl) he (congrArg Transmitter.again hx)

theorem State.KeepsHold.badLength (r : Request) (s : State) : s.KeepsHold (s.badLength r) :=
  .answer rfl rfl rfl

/-- A reserved place filled with the response of a page operation (R25). -/
theorem State.fillReserved_keepsHold (s : State) (kind owner : Byte) (c : Status) (d : List Byte) :
    s.KeepsHold (s.fillReserved kind owner c d) :=
  .of_queued (xs := [s.engine.response kind owner c d false]) rfl
    (fun x hx => by rw [List.mem_singleton.mp hx]; rfl) rfl rfl

/-- A READY executor that answers with a hold mark is HELD by that one response (R150, R174). -/
theorem State.KeepsHold.answerHeld {s u : State} {r : Request} {d : List Byte}
    (hready : s.engine.executor = .ready) (hr : u.engine = s.engine)
    (hx : u.link.transmitter = s.link.transmitter) : s.KeepsHold (u.answerHeld r d) := by
  intro h
  obtain ⟨hnone, hrun⟩ := h.ready hready
  have hresponses : (u.answerHeld r d).engine.responses
      = s.engine.responses ++ [u.engine.response r.kind r.seq .ok d true] := by rw [← hr]; rfl
  refine ⟨?_, fun m next hm => ?_⟩
  · have hheld : (u.answerHeld r d).engine.executor = .held := rfl
    simp [State.holdLaw, hresponses, hheld, hnone, hx, hrun, RequestEngine.response]
  · rw [hresponses]
    exact (h.mark m next (hx ▸ hm)).append _

/-- A row keeps the hold where carrying out the request that a READY executor takes does. -/
theorem State.serve_keepsHold (s : State) (test : Request → Bool) {carry : Request → State → State}
    (h : ∀ r (t : State), t.engine.executor = .ready → t.KeepsHold (carry r t)) :
    s.KeepsHold (s.serve test carry) := by
  obtain hs | ⟨r, rest, ⟨-, -, hready, -⟩, -, hs⟩ := s.serve_cases test carry
  · rw [hs]
    exact .refl s
  · rw [hs]
    exact State.KeepsHold.trans (t := s.taken rest) (.of_same rfl rfl rfl) (h r _ hready)

section requests
variable (r : Request) (s : State)

theorem echo_keepsHold : s.KeepsHold (echo r s) := by
  unfold echo; split <;> exact .answer rfl rfl rfl
theorem identify_keepsHold : s.KeepsHold (identify r s) := by
  unfold identify; split <;> exact .answer rfl rfl rfl
theorem setLine_keepsHold : s.KeepsHold (setLine r s) := by
  unfold setLine; (repeat' split) <;> exact .answer (by simp) (by simp) (by simp)
theorem getLine_keepsHold : s.KeepsHold (getLine r s) := by
  unfold getLine; (repeat' split) <;> exact .answer rfl rfl rfl
theorem readStats_keepsHold : s.KeepsHold (readStats r s) := by
  unfold readStats; (repeat' split) <;> exact .answer rfl rfl rfl
theorem setReference_keepsHold : s.KeepsHold (setReference r s) := by
  unfold setReference; (repeat' split) <;> exact .answer rfl rfl rfl
theorem getTiming_keepsHold : s.KeepsHold (getTiming r s) := by
  unfold getTiming; split <;> exact .answer rfl rfl rfl
theorem writeEntries_keepsHold : s.KeepsHold (writeEntries r s) := by
  unfold writeEntries; (repeat' split) <;> exact .answer rfl rfl rfl
theorem readEntries_keepsHold : s.KeepsHold (readEntries r s) := by
  unfold readEntries; (repeat' split) <;> exact .answer rfl rfl rfl
theorem setPattern_keepsHold : s.KeepsHold (setPattern r s) := by
  unfold setPattern; (repeat' split) <;> exact .answer rfl rfl rfl
theorem getPattern_keepsHold : s.KeepsHold (getPattern r s) := by
  unfold getPattern; (repeat' split) <;> exact .answer rfl rfl rfl
theorem getPages_keepsHold : s.KeepsHold (getPages r s) := by
  unfold getPages; split <;> exact .answer rfl rfl rfl
theorem addSchedule_keepsHold : s.KeepsHold (addSchedule r s) := by
  simp only [addSchedule]; (repeat' split) <;> exact .answer rfl rfl rfl
theorem cancelSchedule_keepsHold : s.KeepsHold (cancelSchedule r s) := by
  unfold cancelSchedule; (repeat' split) <;> exact .answer rfl rfl rfl
theorem listSchedule_keepsHold : s.KeepsHold (listSchedule r s) := by
  unfold listSchedule; split <;> exact .answer rfl rfl rfl
theorem setProbe_keepsHold : s.KeepsHold (setProbe r s) := by
  unfold setProbe; (repeat' split) <;> exact .answer rfl rfl rfl
theorem readProbe_keepsHold : s.KeepsHold (readProbe r s) := by
  unfold readProbe; (repeat' split) <;> exact .answer rfl rfl rfl
theorem getLink_keepsHold : s.KeepsHold (getLink r s) := by
  unfold getLink; (repeat' split) <;> exact .answer rfl rfl rfl
theorem setNotices_keepsHold : s.KeepsHold (setNotices r s) := by
  simp only [setNotices]; (repeat' split) <;> exact .answer rfl rfl rfl
theorem getNotices_keepsHold : s.KeepsHold (getNotices r s) := by
  unfold getNotices; split <;> exact .answer rfl rfl rfl

/-- A page operation accepted has its place reserved and nothing answered (R25). -/
theorem pageRequest_keepsHold {accept : State → State} {m : McState} {f : Option Word}
    (ha : accept s = s.acceptPage m f) : s.KeepsHold (pageRequest accept r s) := by
  unfold pageRequest
  split
  · split
    · rw [ha]
      exact .of_same rfl rfl rfl
    all_goals exact .answer rfl rfl rfl
  · exact .badLength r s

/-- The operation in flight is aborted, then the Restart is answered; neither response is marked (R39, R160). -/
theorem restartSwitch_keepsHold : s.KeepsHold (restartSwitch r s) := by
  have habort : s.KeepsHold s.abortPage := by
    unfold State.abortPage
    split
    · exact .refl s
    · exact s.fillReserved_keepsHold _ _ _ _
  unfold restartSwitch
  split
  · exact .ite (habort.trans (.answer rfl rfl rfl)) (.answer rfl rfl rfl)
  · exact .badLength r s

variable {s} (hready : s.engine.executor = .ready)
include hready

theorem restartFull_keepsHold : s.KeepsHold (restartFull r s) := by
  unfold restartFull
  split
  · exact .ite (.answerHeld hready rfl rfl) (.answer rfl rfl rfl)
  · exact .badLength r s

theorem moveChannel_keepsHold : s.KeepsHold (moveChannel r s) := by
  unfold moveChannel
  split
  · split
    · exact .answer rfl rfl rfl
    split
    · exact .answer rfl rfl rfl
    · exact .answerHeld hready rfl rfl
  · exact .badLength r s

end requests

end Sys2Proof.Machine
end

section
/-! SUPPORT. What the acts of a boundary do to the executor's hold: the Map Controller, the link, the framer events, and the boundary as a whole (R150, R174, R177). -/

namespace Sys2Proof.Machine

/-! ### The Map Controller -/

theorem State.finishMc_keepsHold (s : State) (final : Option (Byte × Byte × List Byte)) :
    s.KeepsHold (s.finishMc final) := by
  cases final with
  | none => exact .refl s
  | some final =>
    obtain ⟨kind, owner, data⟩ := final
    exact State.KeepsHold.trans (t := s.mcState .idle) (.of_same rfl rfl rfl)
      (State.fillReserved_keepsHold _ kind owner .ok data)

theorem State.mcShare_keepsHold (s : State) : s.KeepsHold s.mcShare := by
  have hstep : s.KeepsHold (s.mcStep s.comingFrame) := .of_same (by simp) (by simp) (by simp)
  exact (hstep.trans (State.finishMc_keepsHold _ _)).trans (.of_same rfl rfl rfl)

/-! ### The link's act -/

/-- A revert that ends a trial begins the message being sent again (R181). -/
theorem State.trialPart_keepsHold (s : State) : s.KeepsHold s.trialPart := by
  have hagain : ∀ x : Transmitter, x.again.again = x.again := fun x => by cases x <;> rfl
  have hrevert : ∀ why, s.KeepsHold (s.revert why) := fun why => by
    unfold State.revert
    split
    · exact .of_same (by simp) (by simp) (by simp [State.revertTrial, State.giveUp, hagain])
    · exact .refl s
  unfold State.trialPart
  split
  · exact .refl s
  · exact .ite (hrevert _) (.ite (hrevert _) (.of_same rfl rfl rfl))

/-- The switch boundary ends the hold: the transmitter was STOPPED after the marked response, and comes FREE as the executor comes READY (R177, R180). -/
theorem State.KeepsHold.of_released {s t : State} (hstop : s.link.transmitter = .stopped)
    (hr : t.engine.responses = s.engine.responses) (he : t.engine.executor = .ready)
    (hx : t.link.transmitter = .free) : s.KeepsHold t := by
  refine fun h => ⟨?_, fun m next hm => by rw [hx] at hm; cases hm⟩
  simp [State.holdLaw, hr, he, hx, h.stopped hstop]

theorem State.switchPart_keepsHold (s : State) : s.KeepsHold s.switchPart := by
  unfold State.switchPart
  split
  · exact .refl s
  next pending hdue =>
    obtain ⟨-, hstop, -⟩ := State.switchDue_eq_some hdue
    exact .ite (.of_released hstop rfl rfl rfl) (.of_released hstop rfl rfl rfl)

/-- Intake answers with a copy of a cached response, its mark cleared, or with QUEUE_FULL, and marks nothing (R144, R145, R150). -/
theorem State.intake_keepsHold (s : State) (r : Request) : s.KeepsHold (s.intake r) := by
  have hqueued : ∀ {t : State} (x : Response), t.engine.responses = s.engine.responses ++ [x] → x.hold = false →
      t.engine.executor = s.engine.executor → t.link = s.link → s.KeepsHold t := fun x hr hx he hl =>
    .of_queued hr (fun y hy => by rw [List.mem_singleton.mp hy]; exact hx) he (by rw [hl])
  unfold State.intake
  split
  · exact .refl s
  split
  next cached _ =>
    unfold RequestEngine.resend
    split
    · exact hqueued _ rfl rfl rfl rfl
    · exact .of_same rfl rfl rfl
  next =>
    unfold RequestEngine.accept
    split
    · exact .of_same rfl rfl rfl
    split
    · exact hqueued _ rfl rfl rfl rfl
    · exact .of_same rfl rfl rfl

theorem State.deliverGood_keepsHold (s : State) (seq kind : Byte) (payload : List Byte) :
    s.KeepsHold (s.deliverGood seq kind payload) := by
  have htold : s.KeepsHold (s.confirm.withNotices (s.confirm.notices.goodMessage kind seq)) :=
    .of_same (by simp) (by simp) (by simp [State.confirm_transmitter])
  exact .ite (htold.trans (State.intake_keepsHold _ _)) htold

theorem State.delivering_keepsHold (s : State) (seq kind : Byte) (payload : List Byte) :
    s.KeepsHold (State.delivering seq kind payload s) := by
  refine State.KeepsHold.trans (t := s.receiving .hunt) (.of_same rfl rfl rfl) ?_
  exact .ite (.of_same rfl rfl rfl) (State.deliverGood_keepsHold _ _ _ _)

theorem State.receive_keepsHold (s : State) (b : Byte) : s.KeepsHold (s.receive b) := by
  unfold State.receive
  split
  case h_1 => exact .ite (.of_same rfl rfl rfl) (.refl s)
  case h_2 => exact .ite (.of_same rfl rfl rfl) (.of_same rfl rfl rfl)
  case h_3 => exact .ite (.of_same rfl rfl rfl) (.of_same rfl rfl rfl)
  case h_4 => exact .of_same rfl rfl rfl
  case h_5 =>
    unfold State.checked
    refine .ite ?_ (.of_same rfl rfl rfl)
    split
    · exact s.delivering_keepsHold _ _ _
    · exact .of_same rfl rfl rfl

theorem State.readFrame_keepsHold (s : State) : s.KeepsHold s.readFrame := by
  unfold State.readFrame
  split
  · exact .refl s
  · exact State.foldl_keepsHold State.receive_keepsHold _ s

/-- A message started bears the mark of what it is sent for (R173, R174). -/
theorem State.readied_keepsHold (s : State) : s.KeepsHold s.readied := by
  unfold State.readied
  split
  case isFalse => exact .refl s
  rename_i hfree
  have hfree : s.link.transmitter = .free := by
    cases hx : s.link.transmitter <;> simp [hx, Transmitter.isFree] at hfree ⊢
  have hstarts : ∀ {t : State} (m : OutMessage) (next : Nat), t.engine = s.engine →
      t.link.transmitter = .sending m next → m.Marked s.engine.responses → s.KeepsHold t := by
    intro t m next he hx hm h
    refine ⟨?_, fun m' next' hm' => ?_⟩
    · have hlaw := h.law
      simp only [State.holdLaw, he, hx, hfree] at hlaw ⊢
      exact hlaw
    · rw [hx] at hm'
      cases hm'
      rwa [he]
  have hnotice : s.KeepsHold s.startNotice := by
    simp only [State.startNotice]
    split
    · exact .refl s
    · exact hstarts _ _ rfl rfl rfl
  unfold State.chooseMessage
  split
  next r rest hq => exact .ite hnotice (hstarts _ _ rfl rfl (by rw [hq]; rfl))
  next => exact .ite hnotice (.refl s)

/-- The last octet of a marked response takes the mark from the queue to the transmitter, which stops (R172, R174). -/
theorem State.placeOctet_keepsHold {s : State} {m : OutMessage} {next : Nat}
    (hsending : s.link.transmitter = .sending m next) : s.KeepsHold (s.placeOctet m next) := by
  simp only [State.placeOctet]
  split
  · exact .of_same rfl rfl (by simp [State.put, hsending, Transmitter.again])
  intro h
  have hmark := h.mark m next hsending
  have hlaw := h.law
  simp only [State.holdLaw, hsending, reduceCtorEq, if_false, Nat.add_zero] at hlaw
  unfold OutMessage.Marked at hmark
  cases howner : m.owner <;> simp only [howner] at hmark
  case notice =>
    refine ⟨?_, fun m' next' hm' => ?_⟩
    · simpa [State.holdLaw, State.endMessage, howner, hmark, State.put] using hlaw
    · simp [State.endMessage, howner, hmark] at hm'
  case response =>
    refine ⟨?_, fun m' next' hm' => ?_⟩
    · cases hq : s.engine.responses with
      | nil => simp [hq] at hmark
      | cons x rest =>
        have hx : x.hold = m.hold := by simpa [hq] using hmark
        cases hm : m.hold <;>
          simpa [State.holdLaw, State.endMessage, howner, State.put, hq, hx, hm] using hlaw
    · simp only [State.endMessage, howner, State.withEngine_link, State.withLink_link] at hm'
      split at hm' <;> cases hm'

theorem State.fillFrame_keepsHold (s : State) : s.KeepsHold s.fillFrame := by
  have hslot : ∀ u : State, u.KeepsHold u.fillSlot := fun u => by
    refine u.readied_keepsHold.trans ?_
    unfold State.fillSlot
    split
    next hsending => exact State.placeOctet_keepsHold hsending
    · exact .of_same rfl rfl rfl
    · exact .of_same rfl rfl rfl
  have hslots : ∀ (n : Nat) (u : State), u.KeepsHold (State.fillSlots n u) := by
    intro n
    induction n with
    | zero => exact State.KeepsHold.refl
    | succ n ih => exact fun u => (hslot u).trans (ih _)
  exact hslots _ s

theorem State.linkAct_keepsHold {inbound : State → State} (h : ∀ u : State, u.KeepsHold (inbound u))
    (s : State) : s.KeepsHold (s.linkAct inbound) := by
  have hhead : s.KeepsHold s.headParts := s.trialPart_keepsHold.trans (State.switchPart_keepsHold _)
  exact ((hhead.trans (h _)).trans (State.fillFrame_keepsHold _)).trans (.of_same rfl rfl rfl)

theorem State.linkShare_keepsHold {inbound : State → State} (h : ∀ u : State, u.KeepsHold (inbound u))
    (s : State) : s.KeepsHold (s.linkShare inbound) :=
  State.KeepsHold.trans (t := s.takeStores) (.of_same (by simp) (by simp) (by simp))
    (State.linkAct_keepsHold h _)

/-! ### Framer events -/

/-- A framer event has nothing to do with the transmitter (R169). -/
theorem State.rxPeriod_transmitter (s : State) (line : Line) (x : RxSample) :
    (s.rxPeriod line x).link.transmitter = s.link.transmitter := by
  rw [State.rxPeriod_link]
  split <;> rfl

theorem State.rxPeriod_keepsHold (s : State) (line : Line) (x : RxSample) : s.KeepsHold (s.rxPeriod line x) :=
  .of_same (by simp) (by simp) (by rw [State.rxPeriod_transmitter])

theorem State.rxPeriods_keepsHold (s : State) (line : Line) (xs : List RxSample) :
    s.KeepsHold (s.rxPeriods line xs) :=
  .ite (.refl s) (State.foldl_keepsHold (fun t x => t.rxPeriod_keepsHold line x) xs s)

theorem State.meet_keepsHold (before : State) (shares : List Taker) (s : State) (c : Coincidence) :
    s.KeepsHold (State.meet before shares s c) := by
  refine .of_same (by simp) (by simp) (congrArg Transmitter.again ?_)
  simp only [State.meet]
  (repeat' split) <;> exact State.rxPeriod_transmitter _ _ _

/-! ### The whole boundary -/

theorem State.takeShare_keepsHold (before : State) (found : Taker → State) (s : State) (t : Taker) :
    s.KeepsHold (State.takeShare before found s t) := by
  cases t with
  | link => exact .ite (.refl s) (State.linkAct_keepsHold State.readFrame_keepsHold s)
  | mapController => exact s.finishMc_keepsHold _
  | _ => exact .of_same (by simp [State.takeShare]) (by simp [State.takeShare]) (by simp [State.takeShare])

theorem takeInTurn_keepsHold {meet : State → Coincidence → State} {share : State → Taker → State}
    (hm : ∀ (s : State) c, s.KeepsHold (meet s c)) (hs : ∀ (s : State) t, s.KeepsHold (share s t))
    (events : List Coincidence) (shares : List Taker) (s : State) :
    s.KeepsHold (takeInTurn meet share events shares s) := by
  induction shares generalizing events s with
  | nil => exact .refl s
  | cons t rest ih => exact ((State.foldl_keepsHold hm _ s).trans (hs _ t)).trans (ih _ _)

theorem State.numberedBoundary_keepsHold (s : State) (order : BoundaryOrder) :
    s.KeepsHold (s.numberedBoundary order) := by
  have hbegin : ∀ u : State, u.KeepsHold (u.beginFrames.withOpening closedOpening) := fun _ => .of_same rfl rfl rfl
  refine State.KeepsHold.trans ?_
    (State.foldl_keepsHold (fun t (c : Coincidence) => t.rxPeriod_keepsHold c.line c.sample) _ _)
  refine State.KeepsHold.trans ?_ (hbegin _)
  exact State.KeepsHold.trans (t := s.numberedEffects _) (.of_same (by simp) (by simp) (by simp))
    (takeInTurn_keepsHold (State.meet_keepsHold s _) (State.takeShare_keepsHold s _) _ _ _)

theorem State.fullRestart_keepsHold (s : State) (straps : Straps) (cause : RestartCause) (held : Bool) :
    s.KeepsHold (s.fullRestart straps cause held) :=
  fun _ => ⟨rfl, nofun⟩

theorem State.takeBoundary_keepsHold (s : State) (order : BoundaryOrder) : s.KeepsHold (s.takeBoundary order) :=
  .ite (s.fullRestart_keepsHold _ _ _) (s.numberedBoundary_keepsHold order)

end Sys2Proof.Machine
end

section
/-! CERTIFICATE. Every step keeps the executor HELD just while a hold-marked response holds it: StepsKeepTheHoldLaw. -/

namespace Sys2Proof.Machine

theorem exec_keepsHold {c : Instr} {s t : State} (h : exec c s = .next t) : s.KeepsHold t := by
  cases c <;> cases h
  case powerUp | restartN => exact s.fullRestart_keepsHold _ _ _
  case restartNRelease | fullRestartBoundary => exact .ite (s.fullRestart_keepsHold _ _ _) (.refl s)
  case boundary order =>
    have hpoint : s.KeepsHold s.pointTaken := .of_same rfl rfl rfl
    exact .ite (s.takeBoundary_keepsHold order)
      (.ite (hpoint.trans (s.pointTaken.takeBoundary_keepsHold order)) (.refl s))
  case txFrameEnd => exact .of_same rfl rfl rfl
  case stall | retransmitTimeout => exact .ite (.of_same rfl rfl rfl) (.refl s)
  case copyComplete | clearComplete | takePendingSwap =>
    split
    · exact .ite s.mcShare_keepsHold (.refl s)
    · exact .refl s
  case scheduleFiring => exact .ite (.of_same (by simp) (by simp) (by simp)) (.refl s)
  case requestIntake | noticeAck | foreignKind =>
    exact .ite (s.linkShare_keepsHold fun u => u.delivering_keepsHold _ _ _) (.refl s)
  case messageEnd | channelSwitch | trialTimeout | lineLostRevert =>
    exact .ite (s.linkShare_keepsHold State.readFrame_keepsHold) (.refl s)
  case pulse | flywheelFrameEnd => exact s.rxPeriods_keepsHold _ _
  case echo => exact s.serve_keepsHold _ fun r t _ => echo_keepsHold r t
  case identify => exact s.serve_keepsHold _ fun r t _ => identify_keepsHold r t
  case restartFull => exact s.serve_keepsHold _ fun r _ => restartFull_keepsHold r
  case restartSwitch => exact s.serve_keepsHold _ fun r t _ => restartSwitch_keepsHold r t
  case setLine => exact s.serve_keepsHold _ fun r t _ => setLine_keepsHold r t
  case getLine => exact s.serve_keepsHold _ fun r t _ => getLine_keepsHold r t
  case readStats => exact s.serve_keepsHold _ fun r t _ => readStats_keepsHold r t
  case setReference => exact s.serve_keepsHold _ fun r t _ => setReference_keepsHold r t
  case getTiming => exact s.serve_keepsHold _ fun r t _ => getTiming_keepsHold r t
  case writeEntries => exact s.serve_keepsHold _ fun r t _ => writeEntries_keepsHold r t
  case readEntries => exact s.serve_keepsHold _ fun r t _ => readEntries_keepsHold r t
  case setPattern => exact s.serve_keepsHold _ fun r t _ => setPattern_keepsHold r t
  case getPattern => exact s.serve_keepsHold _ fun r t _ => getPattern_keepsHold r t
  case copyPage | clearPage | swapPages => exact s.serve_keepsHold _ fun r t _ => pageRequest_keepsHold r t rfl
  case getPages => exact s.serve_keepsHold _ fun r t _ => getPages_keepsHold r t
  case addSchedule => exact s.serve_keepsHold _ fun r t _ => addSchedule_keepsHold r t
  case cancelSchedule => exact s.serve_keepsHold _ fun r t _ => cancelSchedule_keepsHold r t
  case listSchedule => exact s.serve_keepsHold _ fun r t _ => listSchedule_keepsHold r t
  case setProbe => exact s.serve_keepsHold _ fun r t _ => setProbe_keepsHold r t
  case readProbe => exact s.serve_keepsHold _ fun r t _ => readProbe_keepsHold r t
  case moveChannel => exact s.serve_keepsHold _ fun r _ => moveChannel_keepsHold r
  case getLink => exact s.serve_keepsHold _ fun r t _ => getLink_keepsHold r t
  case setNotices => exact s.serve_keepsHold _ fun r t _ => setNotices_keepsHold r t
  case getNotices => exact s.serve_keepsHold _ fun r t _ => getNotices_keepsHold r t
  case unknownKind => exact s.serve_keepsHold _ fun _ _ _ => .answer rfl rfl rfl

theorem step_keepsHold {s t : State} (h : step s = .next t) : s.KeepsHold t := by
  unfold step at h
  split at h
  · have hpop : ∀ cs, s.KeepsHold (s.withPending cs) := fun _ => .of_same rfl rfl rfl
    exact (hpop _).trans (exec_keepsHold h)
  · cases h
    exact .of_same (by simp) (by simp) (by simp)

/-- Settles O59: every command keeps the hold law together with the mark of the message being sent (`exec_keepsHold`), and the law of the message being sent gives that mark before the step. -/
theorem stepsKeepTheHoldLaw : Obligations.StepsKeepTheHoldLaw := by
  rintro s t ⟨hsend, hhold, -⟩ h
  exact (step_keepsHold h (State.holdSound_of_laws hsend hhold)).law

end Sys2Proof.Machine
end

section
/-! CERTIFICATE. REQUEST_INTAKE: IntakeClassifiesBySeq. -/

namespace Sys2Proof.Machine

/-! ### Intake -/

theorem RequestEngine.hasPlace_iff (q : RequestEngine) :
    q.hasPlace = true ↔ q.responses.length + (if q.reserved then 1 else 0) < 6 :=
  decide_eq_true_iff

section engine
variable {q : RequestEngine} {c : Response} {r : Request}

/-- Step 3 with a free place: a copy of the cached response, with the credit of this moment and no mark (R144). -/
theorem RequestEngine.resend_place (hplace : q.responses.length + (if q.reserved then 1 else 0) < 6) :
    q.resend c =
      { q with
        responses := q.responses ++ [{ c with credit := BitVec.ofNat 8 (4 - q.requests.length), hold := false }] } :=
  if_pos (q.hasPlace_iff.mpr hplace)

theorem RequestEngine.resend_dropped (hplace : ¬ q.responses.length + (if q.reserved then 1 else 0) < 6) :
    q.resend c =
      { q with droppedResends := BitVec.ofNat 16 (min 65535 (q.droppedResends.toNat + 1)) } := by
  rw [← satInc_eq]
  exact if_neg (mt q.hasPlace_iff.mp hplace)

/-- A new request finds a free place in the request queue (R145). -/
theorem RequestEngine.accept_room (hroom : q.requests.length < 4) :
    q.accept r = { q with requests := q.requests ++ [r] } :=
  if_pos hroom

variable (hfull : 4 ≤ q.requests.length)
include hfull

theorem RequestEngine.accept_queueFull (hplace : q.responses.length + (if q.reserved then 1 else 0) < 6) :
    q.accept r =
      { q with
        responses := q.responses ++
          [{ kind := r.kind + 0x80, seq := r.seq, status := .queueFull, credit := 0, data := [0], hold := false }] } :=
  (if_neg (Nat.not_lt.mpr hfull)).trans (if_pos (q.hasPlace_iff.mpr hplace))

theorem RequestEngine.accept_dropped (hplace : ¬ q.responses.length + (if q.reserved then 1 else 0) < 6) :
    q.accept r =
      { q with droppedRequests := BitVec.ofNat 16 (min 65535 (q.droppedRequests.toNat + 1)) } := by
  rw [← satInc_eq]
  exact (if_neg (Nat.not_lt.mpr hfull)).trans (if_neg (mt q.hasPlace_iff.mp hplace))

end engine

/-- The SEQ belongs to work that is not finished: a waiting response, a waiting request or the page operation in flight (R144). -/
theorem State.unfinished_iff (s : State) (seq : Byte) :
    (s.engine.answering seq || s.working seq) = true ↔ seq ∈ s.engine.responses.map Response.seq
      ∨ (seq ∈ s.engine.requests.map Request.seq ∨ s.mc.state.owner = some seq) := by
  simp [RequestEngine.answering, State.working]

/-- Intake reads and changes the Request Engine, and reads the page operation's owner (R144). -/
theorem State.intake_engine_congr {s t : State} (he : s.engine = t.engine) (hm : s.mc = t.mc) (r : Request) :
    (s.intake r).engine = (t.intake r).engine := by
  have hworking : s.working r.seq = t.working r.seq := by simp only [State.working, he, hm]
  unfold State.intake
  rw [he, hworking]
  by_cases h : (t.engine.answering r.seq || t.working r.seq) = true
  · rw [if_pos h, if_pos h, he]
  · rw [if_neg h, if_neg h]
    split <;> rfl

section intake
variable {s : State} {r : Request}

/-- Steps 1 and 2: a message of unfinished work is discarded (R144). -/
theorem State.intake_unfinished (h : r.seq ∈ s.engine.responses.map Response.seq
      ∨ (r.seq ∈ s.engine.requests.map Request.seq ∨ s.mc.state.owner = some r.seq)) : s.intake r = s :=
  if_pos ((s.unfinished_iff r.seq).mpr h)

variable (hresponses : r.seq ∉ s.engine.responses.map Response.seq)
  (hworking : ¬ (r.seq ∈ s.engine.requests.map Request.seq ∨ s.mc.state.owner = some r.seq))
include hresponses hworking

/-- Step 3: a finished request is answered from the cache, where a place is free (R144). -/
theorem State.intake_cached {c : Response} (hcache : s.engine.cache.find? (fun x => x.seq = r.seq) = some c) :
    s.intake r = s.withEngine (s.engine.resend c) := by
  have hfinished := mt (s.unfinished_iff r.seq).mp (not_or.mpr ⟨hresponses, hworking⟩)
  simp only [State.intake, if_neg hfinished, hcache]

/-- Step 4: a SEQ that is nowhere is a new request's (R144, R145). -/
theorem State.intake_new (hcache : r.seq ∉ s.engine.cache.map Response.seq) :
    s.intake r = s.withEngine (s.engine.accept r) := by
  have hfinished := mt (s.unfinished_iff r.seq).mp (not_or.mpr ⟨hresponses, hworking⟩)
  have hnone : s.engine.cache.find? (fun x => x.seq = r.seq) = none := by
    simpa [List.find?_eq_none] using hcache
  simp only [State.intake, if_neg hfinished, hnone]

end intake

/-! ### The boundary at which a message can end -/

/-- Neither switch nor revert comes at the boundary (R177, R178). -/
theorem State.steady_iff (s : State) :
    (s.switchDue.isNone && !s.trialRunsOut && !s.trialLosesLine) = true ↔ s.link.steady := by
  cases hst : s.link.state with
  | settled =>
    have hdue : s.switchDue.isNone = true ↔ s.link.pendingMove = none ∨ s.link.transmitter ≠ .stopped := by
      unfold State.switchDue
      rw [hst]
      cases hx : s.link.transmitter <;> simp
    simp [Link.steady, hst, State.trialRunsOut, State.trialLosesLine, hdue]
  | trial =>
    have hdue : s.switchDue = none := by simp [State.switchDue, hst]
    cases hlost : s.link.lineLost <;>
      simp [Link.steady, hst, State.trialRunsOut, State.trialLosesLine, hdue, hlost]

/-- Where a boundary falls with no share of it taken, a message can end at it just when the link reads a frame and neither switches nor reverts (R166, R169, R179). -/
theorem State.inboundDue_iff {s : State} (h : s.freshBoundary) :
    s.inboundDue = true ↔ s.link.steady ∧ (s.takenFrame s.link.current.line).isSome = true := by
  obtain ⟨hdue, hopen⟩ := h
  have hlink : s.linkDue = true := by simp [State.linkDue, hdue, hopen, closedOpening]
  rw [← s.steady_iff, State.inboundDue, hlink, Bool.true_and, Bool.and_eq_true]

/-- Parts 1 and 2 of the link's act at such a boundary at most count the trial down (R165, R178). -/
theorem State.headParts_steady {s : State} (h : s.link.steady) :
    ∃ timer, s.headParts = s.withLink { s.link with trialTimer := timer } := by
  cases hst : s.link.state with
  | settled => exact ⟨s.link.trialTimer, State.headParts_settled hst h⟩
  | trial => exact ⟨_, State.headParts_trial hst h⟩

section delivered
variable {s : State} (hsteady : s.link.steady) {kind : Byte} (hkind : requestKind kind = true) (seq : Byte)
  (payload : List Byte)
include hsteady hkind

/-- A request delivered goes to intake as the engine stands: neither a trial nor a hold makes a difference (R144, R150). -/
theorem State.delivering_engine :
    (State.delivering seq kind payload s.takeStores.headParts).engine
      = (s.intake { seq := seq, kind := kind, payload := payload }).engine := by
  obtain ⟨timer, hhead⟩ := State.headParts_steady (s := s.takeStores) (by simpa using hsteady)
  rw [hhead, State.delivering, State.deliver_good (foreign_of_requestKind hkind), State.deliverGood, if_pos hkind]
  exact State.intake_engine_congr (by simp) (by simp) _

/-- With no trial a delivered request ends a stall, and beside the engine leaves all but the receiver as it is (R169, R197). -/
theorem State.delivering_settled (hst : s.link.state = .settled) :
    let u := State.delivering seq kind payload s.takeStores.headParts
    u.notices = s.takeStores.notices.released ∧ u.link = { s.link with receiver := .hunt }
      ∧ u.switch = s.switch ∧ u.opening = s.takeStores.opening := by
  have hhead : s.takeStores.headParts = s.takeStores :=
    State.headParts_settled (by simpa using hst) (by simpa using hsteady)
  have hconfirm : (s.takeStores.receiving .hunt).confirm = s.takeStores.receiving .hunt :=
    State.confirm_settled (by simpa [State.receiving] using hst)
  have hnoack : kind ≠ Config.ackKind := by
    rintro rfl
    exact absurd hkind (by decide)
  simp only [hhead, State.delivering, State.deliver_good (foreign_of_requestKind hkind), State.deliverGood_notices,
    State.deliverGood_link, State.deliverGood_switch, State.deliverGood_opening, hconfirm]
  rw [NoticeUnit.goodMessage_released fun h => hnoack h.1]
  simp [State.receiving]

end delivered

/-- Settles O21: where a message can end (`State.inboundDue_iff`) the request goes to intake (`State.delivering_engine`), which classifies it step by step; elsewhere nothing is delivered. -/
theorem intakeClassifiesBySeq : Obligations.IntakeClassifiesBySeq := by
  refine ⟨fun s seq kind payload hfresh hsteady hframe hk1 hk2 hlen => ?_,
    fun s seq kind payload hfresh hnone => ?_⟩
  · obtain ⟨hrequest, -⟩ := requestKind_of_range hk1 hk2
    have hdue := (State.inboundDue_iff hfresh).mpr ⟨hsteady, hframe⟩
    have hengine := State.delivering_engine hsteady hrequest seq payload
    refine ⟨_, execRequestIntake_due hdue hrequest hlen, fun h => ?_, fun c hr hw hc hplace => ?_,
      fun c hr hw hc hplace => ?_,
      fun hr hw hc => ⟨fun hroom => ?_, fun hfull hplace => ?_, fun hfull hplace => ?_⟩, State.delivering_settled hsteady hrequest seq payload, by simp, by simp, by simp, by simp, by simp, by simp⟩
    · rw [hengine, State.intake_unfinished h]
    · rw [hengine, State.intake_cached hr hw hc]
      exact RequestEngine.resend_place hplace
    · rw [hengine, State.intake_cached hr hw hc]
      exact RequestEngine.resend_dropped hplace
    · rw [hengine, State.intake_new hr hw hc]
      exact RequestEngine.accept_room hroom
    · rw [hengine, State.intake_new hr hw hc]
      exact RequestEngine.accept_queueFull hfull hplace
    · rw [hengine, State.intake_new hr hw hc]
      exact RequestEngine.accept_dropped hfull hplace
  · refine execInbound_notDue (Bool.eq_false_iff.mpr fun hdue => ?_) seq kind payload
    obtain ⟨hsteady, hframe⟩ := (State.inboundDue_iff hfresh).mp hdue
    obtain hmoves | hnone := hnone
    · exact hmoves hsteady
    · simp [hnone] at hframe

end Sys2Proof.Machine
end

section
/-! SUPPORT. What each row does with a payload of a length its kind does not accept (R149, R204). -/

namespace Sys2Proof.Machine

section lengths
variable {r : Request} (s : State)

theorem identify_unfit (h : r.payload.length ≠ 0) : identify r s = s.badLength r := by
  unfold identify; split
  · next hp => exact absurd (congrArg List.length hp) h
  · rfl
theorem restartFull_unfit (h : r.payload.length ≠ 1) : restartFull r s = s.badLength r := by
  unfold restartFull; split
  · next hp => exact absurd (congrArg List.length hp) h
  · rfl
theorem restartSwitch_unfit (h : r.payload.length ≠ 1) : restartSwitch r s = s.badLength r := by
  unfold restartSwitch; split
  · next hp => exact absurd (congrArg List.length hp) h
  · rfl
theorem setLine_unfit (h : r.payload.length ≠ 7) : setLine r s = s.badLength r := by
  unfold setLine; split
  · next hp => exact absurd (congrArg List.length hp) h
  · rfl
theorem getLine_unfit (h : r.payload.length ≠ 1) : getLine r s = s.badLength r := by
  unfold getLine; split
  · next hp => exact absurd (congrArg List.length hp) h
  · rfl
theorem readStats_unfit (h : r.payload.length ≠ 2) : readStats r s = s.badLength r := by
  unfold readStats; split
  · next hp => exact absurd (congrArg List.length hp) h
  · rfl
theorem setReference_unfit (h : r.payload.length ≠ 5) : setReference r s = s.badLength r := by
  unfold setReference; split
  · next hp => exact absurd (congrArg List.length hp) h
  · rfl
theorem getTiming_unfit (h : r.payload.length ≠ 0) : getTiming r s = s.badLength r := by
  unfold getTiming; split
  · next hp => exact absurd (congrArg List.length hp) h
  · rfl
theorem readEntries_unfit (h : r.payload.length ≠ 4) : readEntries r s = s.badLength r := by
  unfold readEntries; split
  · next hp => exact absurd (congrArg List.length hp) h
  · rfl
theorem setPattern_unfit (h : r.payload.length ≠ 5) : setPattern r s = s.badLength r := by
  unfold setPattern; split
  · next hp => exact absurd (congrArg List.length hp) h
  · rfl
theorem getPattern_unfit (h : r.payload.length ≠ 1) : getPattern r s = s.badLength r := by
  unfold getPattern; split
  · next hp => exact absurd (congrArg List.length hp) h
  · rfl
theorem getPages_unfit (h : r.payload.length ≠ 0) : getPages r s = s.badLength r := by
  unfold getPages; split
  · next hp => exact absurd (congrArg List.length hp) h
  · rfl
theorem addSchedule_unfit (h : r.payload.length ≠ 10) : addSchedule r s = s.badLength r := by
  unfold addSchedule; split
  · next hp => exact absurd (congrArg List.length hp) h
  · rfl
theorem cancelSchedule_unfit (h : r.payload.length ≠ 1) : cancelSchedule r s = s.badLength r := by
  unfold cancelSchedule; split
  · next hp => exact absurd (congrArg List.length hp) h
  · rfl
theorem listSchedule_unfit (h : r.payload.length ≠ 0) : listSchedule r s = s.badLength r := by
  unfold listSchedule; split
  · next hp => exact absurd (congrArg List.length hp) h
  · rfl
theorem setProbe_unfit (h : r.payload.length ≠ 13) : setProbe r s = s.badLength r := by
  unfold setProbe; split
  · next hp => exact absurd (congrArg List.length hp) h
  · rfl
theorem readProbe_unfit (h : r.payload.length ≠ 2) : readProbe r s = s.badLength r := by
  unfold readProbe; split
  · next hp => exact absurd (congrArg List.length hp) h
  · rfl
theorem moveChannel_unfit (h : r.payload.length ≠ 3) : moveChannel r s = s.badLength r := by
  unfold moveChannel; split
  · next hp => exact absurd (congrArg List.length hp) h
  · rfl
theorem getLink_unfit (h : r.payload.length ≠ 1) : getLink r s = s.badLength r := by
  unfold getLink; split
  · next hp => exact absurd (congrArg List.length hp) h
  · rfl
theorem setNotices_unfit (h : r.payload.length ≠ 3) : setNotices r s = s.badLength r := by
  unfold setNotices; split
  · next hp => exact absurd (congrArg List.length hp) h
  · rfl
theorem getNotices_unfit (h : r.payload.length ≠ 0) : getNotices r s = s.badLength r := by
  unfold getNotices; split
  · next hp => exact absurd (congrArg List.length hp) h
  · rfl
theorem pageRequest_unfit (h : r.payload.length ≠ 0) (accept : State → State) :
    pageRequest accept r s = s.badLength r := by
  unfold pageRequest; split
  · next hp => exact absurd (congrArg List.length hp) h
  · rfl

end lengths

end Sys2Proof.Machine
end

section
/-! CERTIFICATE. Echo, Identify and Restart of scope FULL: EchoReturnsItsPayload, IdentifyNamesThePart, RestartFullOnlyAnswersAndHolds. -/

namespace Sys2Proof.Machine

/-- A kind's row whose request is answered in every state with the same status and data leaves only that answer (R149). -/
theorem State.row_answers {s : State} {r : Request} {rest : List Request} (ht : s.takes r rest) {kind : Byte}
    (hk : r.kind = kind) {carry : Request → State → State} {c : Status} {d : List Byte}
    (h : ∀ u : State, carry r u = u.answer r c d) :
    (Host.Outcome.next (s.serve (ofKind kind) carry) : Host.Outcome State Fault Refusal)
      = .next (s.answered r rest c d) :=
  congrArg _ (State.serve_answers ht (ofKind_true hk) (h _))

/-- Settles O38: a payload of at most 58 octets fits the answer with its status and credit. -/
theorem echoReturnsItsPayload : Obligations.EchoReturnsItsPayload := by
  refine fun s r rest ht hk => ⟨fun hfits => ?_, fun hlong => ?_⟩
  · exact State.row_answers ht hk fun _ => if_pos hfits
  · exact State.row_answers ht hk fun _ => if_neg (Nat.not_le.mpr hlong)

/-- The values of R158 as the octets of the answer. -/
theorem identity_octets : identity = [0x80, 0x64, 0x01, 8, 64, 16, 4, 8, 4, 6, 16] := by
  decide

/-- Settles O39. -/
theorem identifyNamesThePart : Obligations.IdentifyNamesThePart := by
  refine fun s r rest ht hk => ⟨fun hp => ?_, fun hp => ?_⟩
  · exact State.row_answers ht hk fun u => by simp only [identify, hp, identity_octets]
  · exact State.row_answers ht hk fun u => identify_unfit u (mt List.length_eq_zero_iff.mp hp)

/-- A Restart request that does not name the other row's scope is the row's (log 9). -/
theorem restartRow_true {other : Byte} {r : Request} (hk : r.kind = 0x03) (hp : r.payload ≠ [other]) :
    restartRow other r = true := by
  simp [restartRow, hk, hp]

/-- Settles O51: scope FULL is answered with a hold mark and no more; each row refuses a scope that is neither. -/
theorem restartFullOnlyAnswersAndHolds : Obligations.RestartFullOnlyAnswersAndHolds := by
  refine ⟨fun s r rest ht hk hp => ?_, fun s r rest scope ht hk hp hfull hswitch => ⟨?_, ?_⟩⟩
  · refine congrArg Host.Outcome.next ?_
    rw [State.serve_takes ht (restartRow_true hk (by simp [hp]))]
    simp only [restartFull, hp, if_true]
    exact State.taken_answerHeld ..
  · refine congrArg _ (State.serve_answers ht (restartRow_true hk (by simpa [hp] using hswitch)) ?_)
    simp only [restartFull, hp, if_neg hfull]
  · refine congrArg _ (State.serve_answers ht (restartRow_true hk (by simpa [hp] using hfull)) ?_)
    simp only [restartSwitch, hp, if_neg hswitch]

end Sys2Proof.Machine
end

section
/-! CERTIFICATE. Requests that are unfit for their kind: UnfitRequestsAreRefused. -/

namespace Sys2Proof.Machine

/-! ### Fields out of range -/

theorem lineOf_eq_none_iff (b : Byte) : lineOf b = none ↔ 8 ≤ b.toNat := by
  rw [lineOf_eq]
  split <;> simp <;> omega

theorem flagOf_eq_none_iff (b : Byte) : flagOf b = none ↔ 2 ≤ b.toNat := by
  revert b; decide

theorem probeOf_eq_none_iff (b : Byte) : probeOf b = none ↔ 4 ≤ b.toNat := by
  unfold probeOf
  split <;> simp <;> omega

section fields
variable {r : Request} (s : State)

theorem getLine_refused {line : Byte} (hp : r.payload = [line]) (h : 8 ≤ line.toNat) :
    getLine r s = s.answer r .badValue [0] := by
  simp only [getLine, hp, (lineOf_eq_none_iff line).mpr h]

/-- The line is checked first (R96; log 24). -/
theorem readStats_refused {line clear : Byte} (hp : r.payload = [line, clear])
    (h : 8 ≤ line.toNat ∨ 2 ≤ clear.toNat) :
    readStats r s = s.answer r .badValue [if 8 ≤ line.toNat then 0 else 1] := by
  by_cases hline : 8 ≤ line.toNat
  · simp only [readStats, hp, (lineOf_eq_none_iff line).mpr hline, if_pos hline]
  · have hclear := (flagOf_eq_none_iff clear).mpr (h.resolve_left hline)
    simp only [readStats, hp, lineOf_eq, if_neg hline, hclear]

theorem readEntries_refused {page line start count : Byte} (hp : r.payload = [page, line, start, count])
    (h : 2 ≤ page.toNat ∨ 8 ≤ line.toNat ∨ count.toNat < 1 ∨ 13 < count.toNat ∨ 64 ≤ start.toNat
      ∨ 64 < start.toNat + count.toNat) : readEntries r s = s.answer r .badValue [0] := by
  simp only [readEntries, hp]
  split
  · rfl
  · rfl
  next hpage hline =>
    have hpage := mt (flagOf_eq_none_iff page).mpr (by simp [hpage])
    have hline := mt (lineOf_eq_none_iff line).mpr (by simp [hline])
    exact if_pos (by simp; omega)

theorem getPattern_refused {index : Byte} (hp : r.payload = [index]) (h : 16 ≤ index.toNat) :
    getPattern r s = s.answer r .badValue [0] := by
  simp only [getPattern, hp, (patternOf_eq_none_iff index).mpr h]

/-- The probe number is checked first (R140; log 24). -/
theorem readProbe_refused {probe rearm : Byte} (hp : r.payload = [probe, rearm])
    (h : 4 ≤ probe.toNat ∨ 2 ≤ rearm.toNat) :
    readProbe r s = s.answer r .badValue [if 4 ≤ probe.toNat then 0 else 1] := by
  by_cases hprobe : 4 ≤ probe.toNat
  · simp only [readProbe, hp, (probeOf_eq_none_iff probe).mpr hprobe, if_pos hprobe]
  · obtain ⟨index, hindex⟩ := Option.ne_none_iff_exists'.mp (mt (probeOf_eq_none_iff probe).mp hprobe)
    have hrearm := (flagOf_eq_none_iff rearm).mpr (h.resolve_left hprobe)
    simp only [readProbe, hp, hindex, hrearm, if_neg hprobe]

theorem getLink_refused {clear : Byte} (hp : r.payload = [clear]) (h : 2 ≤ clear.toNat) :
    getLink r s = s.answer r .badValue [0] := by
  simp only [getLink, hp, (flagOf_eq_none_iff clear).mpr h]

end fields

/-! ### Lengths -/

/-- Each kind of fixed length with its row and that length (R204). -/
def fixedLengths : List (Instr × Byte × Nat) :=
  [(.identify, 0x02, 0), (.restartFull, 0x03, 1), (.restartSwitch, 0x03, 1), (.setLine, 0x08, 7),
    (.getLine, 0x09, 1), (.readStats, 0x0A, 2), (.setReference, 0x10, 5), (.getTiming, 0x11, 0),
    (.readEntries, 0x19, 4), (.setPattern, 0x1A, 5), (.getPattern, 0x1B, 1), (.copyPage, 0x20, 0),
    (.clearPage, 0x21, 0), (.swapPages, 0x22, 0), (.getPages, 0x23, 0), (.addSchedule, 0x28, 10),
    (.cancelSchedule, 0x29, 1), (.listSchedule, 0x2A, 0), (.setProbe, 0x30, 13), (.readProbe, 0x31, 2),
    (.moveChannel, 0x38, 3), (.getLink, 0x39, 1), (.setNotices, 0x3C, 3), (.getNotices, 0x3D, 0)]

/-- A row that carries out a request of another length by refusing it leaves only that answer (R149). -/
theorem exec_unfit {s : State} {r : Request} {rest : List Request} (ht : s.takes r rest) {row : Instr × Byte × Nat}
    (hrow : row ∈ fixedLengths) (hk : r.kind = row.2.1) (hl : r.payload.length ≠ row.2.2) :
    exec row.1 s = .next (s.answered r rest .badLength [BitVec.ofNat 8 r.payload.length]) := by
  have hscope : r.payload.length ≠ 1 → ∀ scope, r.payload ≠ [scope] := fun h scope hp => h (by rw [hp]; rfl)
  simp only [fixedLengths, List.mem_cons, List.not_mem_nil, or_false] at hrow
  obtain rfl | rfl | rfl | rfl | rfl | rfl | rfl | rfl | rfl | rfl | rfl | rfl | rfl | rfl | rfl | rfl | rfl | rfl
    | rfl | rfl | rfl | rfl | rfl | rfl := hrow
  · exact State.row_answers ht hk fun u => identify_unfit u hl
  · exact congrArg _ (State.serve_answers ht (restartRow_true hk (hscope hl 2)) (restartFull_unfit _ hl))
  · exact congrArg _ (State.serve_answers ht (restartRow_true hk (hscope hl 1)) (restartSwitch_unfit _ hl))
  · exact State.row_answers ht hk fun u => setLine_unfit u hl
  · exact State.row_answers ht hk fun u => getLine_unfit u hl
  · exact State.row_answers ht hk fun u => readStats_unfit u hl
  · exact State.row_answers ht hk fun u => setReference_unfit u hl
  · exact State.row_answers ht hk fun u => getTiming_unfit u hl
  · exact State.row_answers ht hk fun u => readEntries_unfit u hl
  · exact State.row_answers ht hk fun u => setPattern_unfit u hl
  · exact State.row_answers ht hk fun u => getPattern_unfit u hl
  · exact State.row_answers ht hk fun u => pageRequest_unfit u hl _
  · exact State.row_answers ht hk fun u => pageRequest_unfit u hl _
  · exact State.row_answers ht hk fun u => pageRequest_unfit u hl _
  · exact State.row_answers ht hk fun u => getPages_unfit u hl
  · exact State.row_answers ht hk fun u => addSchedule_unfit u hl
  · exact State.row_answers ht hk fun u => cancelSchedule_unfit u hl
  · exact State.row_answers ht hk fun u => listSchedule_unfit u hl
  · exact State.row_answers ht hk fun u => setProbe_unfit u hl
  · exact State.row_answers ht hk fun u => readProbe_unfit u hl
  · exact State.row_answers ht hk fun u => moveChannel_unfit u hl
  · exact State.row_answers ht hk fun u => getLink_unfit u hl
  · exact State.row_answers ht hk fun u => setNotices_unfit u hl
  · exact State.row_answers ht hk fun u => getNotices_unfit u hl

/-- A request whose kind is none of the request kinds (R149). -/
theorem exec_unknownKind {s : State} {r : Request} {rest : List Request} (ht : s.takes r rest)
    (hk : r.kind ∉ requestKinds) : exec .unknownKind s = .next (s.answered r rest .unknownKind [0]) := by
  have htest : ofUnknownKind r = true := by simpa [ofUnknownKind] using hk
  exact congrArg _ (State.serve_answers ht htest rfl)

/-- Settles O37: row by row for the lengths (`exec_unfit`), field by field for the values. -/
theorem unfitRequestsAreRefused : Obligations.UnfitRequestsAreRefused := by
  refine ⟨fun s r rest ht row hrow hk hl => exec_unfit ht hrow hk hl,
    fun s r rest ht hk => exec_unknownKind ht hk, fun s r rest ht => ?_⟩
  refine ⟨fun line hk hp h => ?_, fun line clear hk hp => ⟨fun h => ?_, fun hline h => ?_⟩,
    fun page line start count hk hp h => ?_, fun index hk hp h => ?_,
    fun probe rearm hk hp => ⟨fun h => ?_, fun hprobe h => ?_⟩, fun clear hk hp h => ?_⟩
  · exact State.row_answers ht hk fun u => getLine_refused u hp h
  · exact State.row_answers ht hk fun u => (readStats_refused u hp (.inl h)).trans (by rw [if_pos h])
  · exact State.row_answers ht hk fun u => (readStats_refused u hp (.inr h)).trans
      (by rw [if_neg (Nat.not_le.mpr hline)])
  · exact State.row_answers ht hk fun u => readEntries_refused u hp h
  · exact State.row_answers ht hk fun u => getPattern_refused u hp h
  · exact State.row_answers ht hk fun u => (readProbe_refused u hp (.inl h)).trans (by rw [if_pos h])
  · exact State.row_answers ht hk fun u => (readProbe_refused u hp (.inr h)).trans
      (by rw [if_neg (Nat.not_le.mpr hprobe)])
  · exact State.row_answers ht hk fun u => getLink_refused u hp h

end Sys2Proof.Machine
end

section
/-! SUPPORT. The checks of Move Channel and what an accepted one writes (R175, R176). -/

namespace Sys2Proof.Machine

/-! ### Check 1 -/

section fields
variable {s : State}

/-- A location in range is read back from its octets (R175, check 1). -/
theorem State.parseMove_octets {loc : Location} (hone : 1 ≤ loc.width) (hfour : loc.width ≤ 4)
    (hfit : loc.first.val + loc.width ≤ (s.port loc.line).record.slots) :
    s.parseMove (BitVec.ofNat 8 loc.line.val) (BitVec.ofNat 8 loc.first.val) (BitVec.ofNat 8 loc.width) = .ok loc := by
  have hfirst : (BitVec.ofNat 8 loc.first.val).toNat = loc.first.val := by simp; omega
  have hwidth : (BitVec.ofNat 8 loc.width).toNat = loc.width := by simp; omega
  have hrange : (loc.width < 1 || 4 < loc.width) = false := by simp; omega
  simp only [State.parseMove, lineOf_octet, slotOf_octet, hfirst, hwidth, hrange, Bool.false_eq_true, if_false,
    if_neg (Nat.not_lt.mpr hfit)]

/-- The place reported is that of the first check that fails: line, first slot, width, fit in S (R175, check 1). -/
theorem State.parseMove_error {line first width : Byte} {check : Nat}
    (h : [decide (line.toNat ≤ 7), decide (first.toNat ≤ 63), decide (1 ≤ width.toNat ∧ width.toNat ≤ 4),
      decide (first.toNat + width.toNat ≤ (s.port (Fin.ofNat 8 line.toNat)).record.slots)].idxOf? false
        = some check) :
    ∃ place, s.parseMove line first width = .error place ∧ octet place = ([0, 1, 2, 1] : List Byte).getD check 0 := by
  by_cases hline : 8 ≤ line.toNat
  · obtain rfl : 0 = check := by simpa [List.idxOf?_cons, Nat.not_le.mpr (show 7 < line.toNat from hline)] using h
    exact ⟨0, by simp only [State.parseMove, lineOf_eq, if_pos hline], rfl⟩
  generalize hl : Fin.ofNat 8 line.toNat = l at h
  have hline' : lineOf line = some l := by rw [lineOf_eq, if_neg hline, hl]
  have hline7 : line.toNat ≤ 7 := by omega
  by_cases hfirst : 64 ≤ first.toNat
  · obtain rfl : 1 = check := by
      simpa [List.idxOf?_cons, hline7, Nat.not_le.mpr (show 63 < first.toNat from hfirst)] using h
    exact ⟨1, by simp only [State.parseMove, hline', slotOf_eq, if_pos hfirst], rfl⟩
  have hfirst' : slotOf first = some (Fin.ofNat 64 first.toNat) := by rw [slotOf_eq, if_neg hfirst]
  have hfirst63 : first.toNat ≤ 63 := by omega
  simp only [State.parseMove, hline', hfirst', Bool.or_eq_true, decide_eq_true_eq]
  by_cases hwidth : 1 ≤ width.toNat ∧ width.toNat ≤ 4
  · rw [if_neg (by omega)]
    by_cases hfit : first.toNat + width.toNat ≤ (s.port l).record.slots
    · simp [List.idxOf?_cons, hline7, hfirst63, hwidth, hfit] at h
    · obtain rfl : 3 = check := by
        simpa [List.idxOf?_cons, hline7, hfirst63, hwidth, hfit] using h
      exact ⟨1, if_pos (Nat.lt_of_not_le hfit), rfl⟩
  · obtain rfl : 2 = check := by
      simpa [List.idxOf?_cons, hline7, hfirst63, hwidth] using h
    exact ⟨2, if_pos (by omega), rfl⟩

end fields

/-! ### Checks 2 to 5 -/

theorem Location.meets_iff (a b : Location) :
    a.meets b = true
      ↔ a.line = b.line ∧ a.first.val < b.first.val + b.width ∧ b.first.val < a.first.val + a.width := by
  simp [Location.meets, and_assoc]

theorem Location.covers_iff (loc : Location) (line : Line) (slot : Slot) :
    loc.covers line slot = true
      ↔ loc.line = line ∧ loc.first.val ≤ slot.val ∧ slot.val < loc.first.val + loc.width := by
  simp [Location.covers, and_assoc]

/-- Two locations that meet share a position (R175, check 3). -/
theorem Location.exists_shared {a b : Location} (h : a.meets b = true) (ha : 1 ≤ a.width) (hb : 1 ≤ b.width)
    (hfit : a.first.val + a.width ≤ 64) :
    ∃ slot : Slot, a.covers a.line slot = true ∧ b.covers a.line slot = true := by
  obtain ⟨hline, hab, hba⟩ := (Location.meets_iff a b).mp h
  have hmax : max a.first.val b.first.val < a.first.val + a.width := by omega
  refine ⟨⟨max a.first.val b.first.val, Nat.lt_of_lt_of_le hmax hfit⟩, ?_, ?_⟩
  · rw [Location.covers_iff]; exact ⟨rfl, Nat.le_max_left _ _, hmax⟩
  · rw [Location.covers_iff]; exact ⟨hline.symm, Nat.le_max_right _ _, by simp only; omega⟩

theorem pageFree_iff (p : Page) (loc : Location) :
    pageFree p loc = true ↔ ∀ slot, loc.covers loc.line slot = true → entryAt p loc.line slot = .release := by
  have hrelease : ∀ e : Entry, e.isRelease = true ↔ e = .release := fun e => by cases e <;> simp [Entry.isRelease]
  simp [pageFree, hrelease, ← Bool.not_eq_true, imp_iff_not_or]

theorem Switch.lowestLine_isSome_iff (w : Switch) (test : Entry → Bool) :
    (w.lowestLine test).isSome = true
      ↔ ∃ (name : PageName) (l : Line) (t : Slot), test (entryAt (w.page name) l t) = true := by
  constructor
  · intro h
    obtain ⟨l, hl⟩ := Option.isSome_iff_exists.mp h
    have hl := List.find?_some hl
    simp only [Switch.lineHas, Bool.or_eq_true, List.any_eq_true, Vector.mem_toList_iff, Vector.mem_iff_getElem] at hl
    obtain ⟨_, ⟨i, hi, rfl⟩, he⟩ | ⟨_, ⟨i, hi, rfl⟩, he⟩ := hl
    · exact ⟨.a, l, ⟨i, hi⟩, he⟩
    · exact ⟨.b, l, ⟨i, hi⟩, he⟩
  · rintro ⟨name, l, t, he⟩
    by_contra hnone
    have hfalse := Switch.lowestLine_eq_none (Option.not_isSome_iff_eq_none.mp hnone) name l t
    rw [he] at hfalse
    cases hfalse

theorem Entry.namesSource_iff (loc : Location) (e : Entry) :
    e.namesSource loc = true
      ↔ ∃ (source : Line) (u : Slot) (justify : Justify), e = .slot source u justify ∧ loc.covers source u = true := by
  cases e <;> simp [Entry.namesSource]

/-- Some page has an entry other than RELEASE at a transmit position of the location (R175, check 5). -/
def State.moveTaken (s : State) (loc : Location) : Prop :=
  ∃ (name : PageName) (slot : Slot), loc.covers loc.line slot = true
    ∧ entryAt (s.switch.page name) loc.line slot ≠ .release

/-- Some page has an entry whose source is a receive position of the location (R175, check 5). -/
def State.moveNamed (s : State) (loc : Location) : Prop :=
  ∃ (name : PageName) (l : Line) (t u : Slot) (source : Line) (justify : Justify),
    entryAt (s.switch.page name) l t = .slot source u justify ∧ loc.covers source u = true

section refusal
variable {s : State} {loc : Location}

theorem State.pagesFree_iff (s : State) {loc : Location} :
    (pageFree s.switch.pageA loc && pageFree s.switch.pageB loc) = true ↔ ¬ s.moveTaken loc := by
  rw [Bool.and_eq_true, pageFree_iff, pageFree_iff]
  constructor
  · rintro ⟨ha, hb⟩ ⟨name, slot, hcovers, hne⟩
    cases name with
    | a => exact hne (ha slot hcovers)
    | b => exact hne (hb slot hcovers)
  · intro h
    exact ⟨fun slot hcovers => by_contra fun hne => h ⟨.a, slot, hcovers, hne⟩,
      fun slot hcovers => by_contra fun hne => h ⟨.b, slot, hcovers, hne⟩⟩

theorem State.moveNamed_iff (s : State) {loc : Location} :
    (s.switch.lowestLine (Entry.namesSource loc)).isSome = true ↔ s.moveNamed loc := by
  rw [Switch.lowestLine_isSome_iff]
  constructor
  · rintro ⟨name, l, t, he⟩
    obtain ⟨source, u, justify, he, hcovers⟩ := (Entry.namesSource_iff loc _).mp he
    exact ⟨name, l, t, u, source, justify, he, hcovers⟩
  · rintro ⟨name, l, t, u, source, justify, he, hcovers⟩
    exact ⟨name, l, t, (Entry.namesSource_iff loc _).mpr ⟨source, u, justify, he, hcovers⟩⟩

/-- Check 2 refuses (R175). -/
theorem State.moveRefusal_trial (h : s.link.state = .trial) : s.moveRefusal loc = some (.moveBusy, 0) :=
  if_pos h

variable (hst : s.link.state = .settled)
include hst

/-- Check 3 refuses (R175). -/
theorem State.moveRefusal_overlap (h : loc.meets s.link.current = true) : s.moveRefusal loc = some (.overlap, 0) := by
  simp [State.moveRefusal, hst, h]

variable (hapart : ¬ loc.meets s.link.current = true)
include hapart

/-- Check 4 refuses for a side that is off (R175). -/
theorem State.moveRefusal_sidesOff
    (h : (s.port loc.line).record.rxOn = false ∨ (s.port loc.line).record.txOn = false) :
    s.moveRefusal loc = some (.notReady,
      if (s.port loc.line).record.rxOn = false ∧ (s.port loc.line).record.txOn = false then 3
      else if (s.port loc.line).record.rxOn = false then 1 else 2) := by
  cases hrx : (s.port loc.line).record.rxOn <;> cases htx : (s.port loc.line).record.txOn
  case true.true => simp [hrx, htx] at h
  all_goals simp [State.moveRefusal, hst, hapart, hrx, htx]

variable (hrx : (s.port loc.line).record.rxOn = true) (htx : (s.port loc.line).record.txOn = true)
include hrx htx

/-- Check 4 refuses for a framer that is not ALIGNED (R175). -/
theorem State.moveRefusal_notAligned (h : (s.port loc.line).rx.state ≠ .aligned) :
    s.moveRefusal loc = some (.notReady, 4) := by
  simp [State.moveRefusal, hst, hapart, hrx, htx, h]

variable (haligned : (s.port loc.line).rx.state = .aligned)
include haligned

/-- Check 5 refuses for a transmit position that is not RELEASE (R175). -/
theorem State.moveRefusal_taken (h : s.moveTaken loc) : s.moveRefusal loc = some (.inUse, 0) := by
  have hfree := mt s.pagesFree_iff.mp (not_not.mpr h)
  simp [State.moveRefusal, hst, hapart, hrx, htx, haligned, hfree]

variable (hfree : ¬ s.moveTaken loc)
include hfree

/-- Check 5 refuses for a receive position that some entry has as source (R175). -/
theorem State.moveRefusal_named (h : s.moveNamed loc) : s.moveRefusal loc = some (.inUse, 1) := by
  have hfree := s.pagesFree_iff.mpr hfree
  have hnamed := s.moveNamed_iff.mpr h
  simp [State.moveRefusal, hst, hapart, hrx, htx, haligned, hfree, hnamed]

theorem State.moveRefusal_passed (h : ¬ s.moveNamed loc) : s.moveRefusal loc = none := by
  have hfree := s.pagesFree_iff.mpr hfree
  have hnamed := mt s.moveNamed_iff.mp h
  simp [State.moveRefusal, hst, hapart, hrx, htx, haligned, hfree, hnamed]

end refusal

end Sys2Proof.Machine
end

section
/-! CERTIFICATE. Move Channel: MoveChannelIsAccepted. -/

namespace Sys2Proof.Machine

section request
variable {s : State} {r : Request} {rest : List Request} (ht : s.takes r rest) (hk : r.kind = 0x38)
include ht hk

theorem exec_moveChannel : exec .moveChannel s = .next (moveChannel r (s.taken rest)) :=
  congrArg _ (State.serve_takes ht (ofKind_true hk))

/-- What check 1 refuses changes nothing but the engine (R175). -/
theorem exec_moveChannel_badValue {line first width : Byte} (hp : r.payload = [line, first, width]) {place : Nat}
    (h : s.parseMove line first width = .error place) :
    exec .moveChannel s = .next (s.answered r rest .badValue [octet place]) := by
  have hparse : (s.taken rest).parseMove line first width = .error place := h
  rw [exec_moveChannel ht hk]
  simp only [moveChannel, hp, hparse]
  rw [State.taken_answer]

variable {loc : Location}
  (hp : r.payload = [BitVec.ofNat 8 loc.line.val, BitVec.ofNat 8 loc.first.val, BitVec.ofNat 8 loc.width])
  (hone : 1 ≤ loc.width) (hfour : loc.width ≤ 4)
  (hfit : loc.first.val + loc.width ≤ (s.port loc.line).record.slots)
include hp hone hfour hfit

/-- A refusal by checks 2 to 5 changes nothing but the engine (R175). -/
theorem exec_moveChannel_refused {status : Status} {detail : Byte} (h : s.moveRefusal loc = some (status, detail)) :
    exec .moveChannel s = .next (s.answered r rest status [detail]) := by
  have hrefusal : (s.taken rest).moveRefusal loc = some (status, detail) := h
  rw [exec_moveChannel ht hk]
  simp only [moveChannel, hp, State.parseMove_octets (s := s.taken rest) hone hfour hfit, hrefusal]
  rw [State.taken_answer]

/-- An accepted Move Channel is the pending location with its CONTROL entries, answered with a hold mark (R174, R176). -/
theorem exec_moveChannel_accepted (h : s.moveRefusal loc = none) :
    exec .moveChannel s = .next ((s.acceptMove loc).withEngine
      { s.engine.answered rest (finalResponse r rest .ok r.payload true) with executor := .held }) := by
  have hrefusal : (s.taken rest).moveRefusal loc = none := h
  have htaken : (s.taken rest).acceptMove loc = (s.acceptMove loc).taken rest := rfl
  rw [exec_moveChannel ht hk]
  simp only [moveChannel, hp, State.parseMove_octets (s := s.taken rest) hone hfour hfit, hrefusal]
  rw [htaken, State.taken_answerHeld]
  rfl

end request

/-- Settles O50: check 1 by the place of the first field out of range (`State.parseMove_error`), checks 2 to 5 one by one, and with all passed `exec_moveChannel_accepted`. -/
theorem moveChannelIsAccepted : Obligations.MoveChannelIsAccepted := by
  refine ⟨?accepted, ?refused, ?badValue⟩
  case accepted =>
    intro s r rest loc ht hk hp p hone hfour hfit hst hclear hfit64 hrx htx haligned hrelease hsources hcur64 hcur1
    have hapart : ¬ loc.meets s.link.current = true := fun hmeets => by
      obtain ⟨slot, hcovers, hcur⟩ := Location.exists_shared hmeets hone hcur1 hfit64
      rw [hclear slot hcovers] at hcur
      cases hcur
    have hfree : ¬ s.moveTaken loc := fun ⟨name, slot, hcovers, hne⟩ => hne (hrelease name slot hcovers)
    have hnamed : ¬ s.moveNamed loc := fun ⟨name, l, t, u, source, justify, he, hcovers⟩ => by
      rw [hsources name l t u source justify he] at hcovers
      cases hcovers
    have hpassed := State.moveRefusal_passed hst hapart hrx htx haligned hfree hnamed
    refine ⟨_, exec_moveChannel_accepted ht hk hp hone hfour hfit hpassed, rfl, rfl, fun name l u => ?_, rfl, rfl, rfl,
      rfl, rfl, rfl, rfl, rfl, rfl, rfl⟩
    simp [State.acceptMove, Switch.joinLocation]
  case refused =>
    intro s r rest loc ht hk hp p k hone hfour hfit overlap
    have hmeets : loc.meets k = true ↔ overlap := by rw [Location.meets_iff, eq_comm]
    refine ⟨fun h => ?_, fun hst h => ?_, fun hst hapart h => ?_, fun hst hapart hrx htx h => ?_,
      fun hst hapart hrx htx haligned _ => ⟨fun h => ?_, fun hfree h => ?_⟩⟩
    all_goals refine exec_moveChannel_refused ht hk hp hone hfour hfit ?_
    · exact State.moveRefusal_trial h
    · exact State.moveRefusal_overlap hst (hmeets.mpr h)
    · exact State.moveRefusal_sidesOff hst (mt hmeets.mp hapart) h
    · exact State.moveRefusal_notAligned hst (mt hmeets.mp hapart) hrx htx h
    · exact State.moveRefusal_taken hst (mt hmeets.mp hapart) hrx htx haligned h
    · exact State.moveRefusal_named hst (mt hmeets.mp hapart) hrx htx haligned hfree h
  case badValue =>
    intro s r rest line first width check ht hk hp hcheck
    obtain ⟨place, hparse, hdetail⟩ := State.parseMove_error hcheck
    rw [← hdetail]
    exact exec_moveChannel_badValue ht hk hp hparse

end Sys2Proof.Machine
end

section
/-! SUPPORT. The link's receiver octet by octet, over the octets of a whole message, and over the few octets of one frame (R166 to R169). -/

namespace Sys2Proof.Machine

theorem State.receiving_self {s : State} {r : Receiver} (h : s.link.receiver = r) : s.receiving r = s := by
  subst h
  rfl

/-- The last of the states that the receiver is put in stands. -/
theorem State.receiving_receiving (s : State) (r r' : Receiver) : (s.receiving r).receiving r' = s.receiving r' := rfl

/-! ### The end of a message -/

section checked
variable {s : State} {len seq kind : Byte} {octets payload : List Byte} {check : Half}

/-- A message whose CHECK agrees is delivered (R169). -/
theorem State.checked_agrees (h : crc (len :: seq :: kind :: payload) = check) :
    s.checked len (seq :: kind :: payload) check = (s.receiving .hunt).deliver seq kind payload :=
  if_pos h

/-- A message whose CHECK disagrees is counted and delivered nowhere (R169, R183). -/
theorem State.checked_disagrees (h : crc (len :: octets) ≠ check) :
    s.checked len octets check
      = s.withLink { s.link with receiver := .hunt, checkErrors := satInc s.link.checkErrors } :=
  if_neg h

/-- Too few octets for SEQ and KIND are delivered nowhere. -/
theorem State.checked_short (h : octets.length < 2) :
    ∃ k : Link, s.checked len octets check = s.withLink k ∧ k.move = s.link.move ∧ k.receiver = .hunt := by
  by_cases hcrc : crc (len :: octets) = check
  · match octets, h with
    | [], _ => exact ⟨_, if_pos hcrc, rfl, rfl⟩
    | [_], _ => exact ⟨_, if_pos hcrc, rfl, rfl⟩
  · exact ⟨_, State.checked_disagrees hcrc, rfl, rfl⟩

/-- What the receiver was in before makes no difference to the end of a message. -/
theorem State.checked_receiving (s : State) (r : Receiver) (len : Byte) (octets : List Byte) (check : Half) :
    (s.receiving r).checked len octets check = s.checked len octets check := rfl

end checked

/-! ### One octet -/

section octet
variable {s : State} {b len high : Byte} {octets : List Byte}

/-- HUNT waits for the lead-in and drops every other octet (R168). -/
theorem State.receive_hunt (h : s.link.receiver = .hunt) :
    s.receive b = if b = Config.leadIn then s.receiving .length else s := by
  simp only [State.receive, h]

theorem State.receive_length (h : s.link.receiver = .length) :
    s.receive b =
      if 2 ≤ b.toNat ∧ b.toNat ≤ 62 then s.receiving (.body b [])
      else s.withLink { s.link with receiver := .hunt, lengthErrors := satInc s.link.lengthErrors } := by
  simp only [State.receive, h, Bool.and_eq_true, decide_eq_true_eq]

theorem State.receive_body (h : s.link.receiver = .body len octets) :
    s.receive b = s.receiving
      (if octets.length + 1 < len.toNat then .body len (octets ++ [b]) else .check len (octets ++ [b]) none) := by
  simp only [State.receive, h]
  split <;> rfl

theorem State.receive_checkHigh (h : s.link.receiver = .check len octets none) :
    s.receive b = s.receiving (.check len octets (some b)) := by
  simp only [State.receive, h]

theorem State.receive_checkLow (h : s.link.receiver = .check len octets (some high)) :
    s.receive b = s.checked len octets (halfOf high b) := by
  simp only [State.receive, h]

end octet

/-! ### A whole message -/

/-- In BODY, octets that do not fill it are collected (R168). -/
theorem State.foldl_receive_within {s : State} {len : Byte} {come octets : List Byte}
    (h : s.link.receiver = .body len come) (hlt : come.length + octets.length < len.toNat) :
    octets.foldl State.receive s = s.receiving (.body len (come ++ octets)) := by
  induction octets generalizing s come with
  | nil => simpa using (State.receiving_self h).symm
  | cons b rest ih =>
    simp only [List.length_cons] at hlt
    have hmore : come.length + 1 < len.toNat := by omega
    rw [List.foldl_cons, State.receive_body h, if_pos hmore, ih (come := come ++ [b]) rfl (by simp; omega),
      State.receiving_receiving, List.append_assoc]
    rfl

/-- In BODY, the octets that fill it bring the receiver to CHECK (R168). -/
theorem State.foldl_receive_fills {s : State} {len : Byte} {octets : List Byte}
    (h : s.link.receiver = .body len []) (hlen : octets.length = len.toNat) (hne : octets ≠ []) :
    octets.foldl State.receive s = s.receiving (.check len octets none) := by
  obtain ⟨front, b, rfl⟩ := List.eq_nil_or_concat octets |>.resolve_left hne
  simp only [List.concat_eq_append, List.length_append, List.length_singleton] at hlen ⊢
  have hlast : ¬ front.length + 1 < len.toNat := by omega
  rw [List.foldl_append, State.foldl_receive_within h (by simp; omega), List.foldl_cons, List.foldl_nil,
    State.receive_body rfl, List.nil_append, if_neg hlast, State.receiving_receiving]

/-- A hunting receiver takes lead-in, LEN, the octets it covers and CHECK, and compares (R168, R169). -/
theorem State.foldl_receive_message {s : State} {body : List Byte} (high low : Byte)
    (h : s.link.receiver = .hunt) (h2 : 2 ≤ body.length) (h62 : body.length ≤ 62) :
    (Config.leadIn :: BitVec.ofNat 8 body.length :: body ++ [high, low]).foldl State.receive s
      = s.checked (BitVec.ofNat 8 body.length) body (halfOf high low) := by
  have hlen : (BitVec.ofNat 8 body.length).toNat = body.length := by
    rw [BitVec.toNat_ofNat, Nat.mod_eq_of_lt (by omega)]
  have hne : body ≠ [] := by
    rintro rfl
    simp at h2
  have hfits : 2 ≤ (BitVec.ofNat 8 body.length).toNat ∧ (BitVec.ofNat 8 body.length).toNat ≤ 62 := by
    rw [hlen]
    exact ⟨h2, h62⟩
  rw [List.cons_append, List.cons_append, List.foldl_cons, State.receive_hunt h, if_pos rfl, List.foldl_cons,
    State.receive_length rfl, if_pos hfits, List.foldl_append, State.foldl_receive_fills rfl hlen.symm hne,
    List.foldl_cons, State.receive_checkHigh rfl, List.foldl_cons, State.receive_checkLow rfl, List.foldl_nil]
  simp only [State.checked_receiving]

/-! ### The octets of one frame -/

/-- The octets of the message in progress that have come, lead-in first (R167, R168). -/
def Receiver.come : Receiver → Nat
  | .hunt => 0
  | .length => 1
  | .body _ octets => 2 + octets.length
  | .check _ octets none => 2 + octets.length
  | .check _ octets (some _) => 3 + octets.length

/-- No message ends before its sixth octet: till then an octet changes the link's receiver and counters alone (R167, R169). -/
theorem State.receive_early {s : State} (h : s.link.receiver.come < 5) (b : Byte) :
    ∃ k : Link, s.receive b = s.withLink k ∧ k.move = s.link.move
      ∧ k.receiver.come ≤ s.link.receiver.come + 1 := by
  cases hr : s.link.receiver with
  | hunt =>
    rw [State.receive_hunt hr]
    split
    · exact ⟨_, rfl, rfl, Nat.le_refl _⟩
    · exact ⟨s.link, rfl, rfl, by simp [hr, Receiver.come]⟩
  | length =>
    rw [State.receive_length hr]
    split
    · exact ⟨_, rfl, rfl, Nat.le_refl _⟩
    · exact ⟨_, rfl, rfl, Nat.zero_le _⟩
  | body len octets =>
    rw [State.receive_body hr]
    refine ⟨_, rfl, rfl, ?_⟩
    split <;> simp [Receiver.come, Nat.add_assoc]
  | check len octets high =>
    cases high with
    | none =>
      rw [State.receive_checkHigh hr]
      exact ⟨_, rfl, rfl, by simp [Receiver.come]; omega⟩
    | some high =>
      have hshort : octets.length < 2 := by
        rw [hr] at h
        simp only [Receiver.come] at h
        omega
      obtain ⟨k, heq, hk, hhunt⟩ := State.checked_short (s := s) (len := len) (check := halfOf high b) hshort
      exact ⟨k, (State.receive_checkLow hr).trans heq, hk, by rw [hhunt]; exact Nat.zero_le _⟩

/-- A frame of at most five octets, read by a hunting receiver, ends no message (R164, R167). -/
theorem State.foldl_receive_early {s : State} {octets : List Byte}
    (h : s.link.receiver.come + octets.length ≤ 5) :
    ∃ k : Link, octets.foldl State.receive s = s.withLink k ∧ k.move = s.link.move := by
  induction octets generalizing s with
  | nil => exact ⟨s.link, rfl, rfl⟩
  | cons b rest ih =>
    simp only [List.length_cons] at h
    obtain ⟨k, heq, hk, hcome⟩ := State.receive_early (s := s) (by omega) b
    obtain ⟨k', heq', hk'⟩ := ih (s := s.withLink k) (by simp only [State.withLink_link]; omega)
    exact ⟨k', by rw [List.foldl_cons, heq, heq']; rfl, hk'.trans hk⟩

theorem State.readFrame_early {s : State} (h : s.link.receiver = .hunt) (hwidth : s.link.current.width ≤ 5) :
    ∃ k : Link, s.readFrame = s.withLink k ∧ k.move = s.link.move := by
  unfold State.readFrame
  split
  · exact ⟨s.link, rfl, rfl⟩
  next frame _ =>
    refine State.foldl_receive_early ?_
    have hshort : (s.managementOctets frame).length ≤ s.link.current.width := by
      rw [State.managementOctets, List.length_map]
      exact List.length_take_le _ _
    rw [h]
    exact (Nat.zero_add _).trans_le (hshort.trans hwidth)

/-- The octets of a location within the frame are the upper 8 bits of its slots' words, in slot order (R166). -/
theorem State.managementOctets_range {s : State} {frame : InputFrame}
    (h : s.link.current.first.val + s.link.current.width ≤ frame.length) :
    s.managementOctets frame = (List.range s.link.current.width).map fun k =>
      ((frame.getD (s.link.current.first.val + k) 0)
        >>> ((s.port s.link.current.line).record.width.bits - 8)).setWidth 8 := by
  refine List.ext_getElem ?_ fun k hk hk' => ?_
  · simp [State.managementOctets]
    omega
  · simp only [List.length_map, List.length_range] at hk'
    have hin : s.link.current.first.val + k < frame.length := by omega
    simp [State.managementOctets, upperOctet, hin]

end Sys2Proof.Machine
end

section
/-! CERTIFICATE. The message frame: MessagesCarryTheirCheck, ReceiverReadsEveryMessage, ReceiverCountsDamage. -/

namespace Sys2Proof.Machine

/-- Settles O26: the CRC register run over the nine octets, and the two octets that CHECK is cut into. -/
theorem messagesCarryTheirCheck : Obligations.MessagesCarryTheirCheck :=
  ⟨by decide +kernel, fun _ _ _ => ⟨_, _, halfOf_octets _, rfl⟩⟩

/-- A message that the part can send is delivered as it was sent (R167 to R170). -/
theorem State.foldl_receive_messageOctets {s : State} {payload : List Byte} (seq kind : Byte)
    (h : s.link.receiver = .hunt) (hlen : payload.length ≤ 60) :
    (messageOctets seq kind payload).foldl State.receive s = s.deliver seq kind payload := by
  have hmessage := State.foldl_receive_message (s := s) (body := seq :: kind :: payload)
    ((crc (BitVec.ofNat 8 (payload.length + 2) :: seq :: kind :: payload)).extractLsb' 8 8)
    ((crc (BitVec.ofNat 8 (payload.length + 2) :: seq :: kind :: payload)).extractLsb' 0 8) h
    (by simp) (by simp only [List.length_cons]; omega)
  rw [halfOf_octets] at hmessage
  exact hmessage.trans ((State.checked_agrees rfl).trans (by rw [State.receiving_self h]))

/-- Settles O27: a whole message octet by octet (`State.foldl_receive_messageOctets`), the octets of a location (`State.managementOctets_range`), and the receiver after BOUNDARY (`State.numberedBoundary_inbound`). -/
theorem receiverReadsEveryMessage : Obligations.ReceiverReadsEveryMessage := by
  refine ⟨fun s seq kind payload h hlen => State.foldl_receive_messageOctets seq kind h hlen,
    fun s => ⟨fun hnone => ?_, fun frame hnew hcur hfit => ?_⟩,
    fun s order frame len octets hfresh hrest => ?_⟩
  · refine State.readFrame_of_none ?_
    obtain hold | hempty := hnone
    · simp [State.newFrame, hold]
    · simp [State.newFrame, hempty]
  · have hframe : s.newFrame s.link.current.line = some frame := by simp [State.newFrame, hnew, hcur]
    rw [State.readFrame_of_some hframe, State.managementOctets_range hfit]
  · intro loc hframe hfit hbody hlt
    obtain ⟨v, hlink, hports, hstores, hinbound⟩ := State.numberedBoundary_inbound hfresh.2 hrest order
    refine ⟨_, exec_boundary_numbered hfresh.1 _, (congrArg Prod.fst hinbound).trans ?_⟩
    have hnew : v.newFrame v.link.current.line = some frame := by
      rw [hlink, ← hframe]
      simp [State.newFrame, State.takenFrame, State.store, hstores, loc]
    have hport : v.port v.link.current.line = s.port loc.line := by simp only [State.port, hlink, hports, loc]
    rw [State.readFrame_of_some hnew, State.managementOctets_range (by rw [hlink]; exact hfit), hport, hlink,
      State.foldl_receive_within (by rw [hlink]; exact hbody) (by simpa using hlt)]
    rfl

/-- Settles O28: octet by octet in HUNT and LENGTH, and over a whole message whose CHECK disagrees (`State.foldl_receive_message`). -/
theorem receiverCountsDamage : Obligations.ReceiverCountsDamage := by
  refine ⟨fun s body high low h h2 h62 hbad => ?_, fun s b => ⟨fun h hb => ?_, fun h hb => ?_, fun h h2 h62 => ?_,
    fun h hb => ?_⟩⟩
  · refine ((State.foldl_receive_message high low h h2 h62).trans (State.checked_disagrees (Ne.symm hbad))).trans ?_
    rw [satInc_eq, ← h]
    rfl
  · exact (State.receive_hunt h).trans (if_neg hb)
  · exact (State.receive_hunt h).trans (if_pos hb)
  · rw [State.receive_length h, if_pos ⟨h2, h62⟩]
    rfl
  · rw [State.receive_length h, if_neg (by omega), satInc_eq]
    rfl

end Sys2Proof.Machine
end

section
/-! SUPPORT. Where the link takes the boundary ahead, what a delivered message makes of a settled link, and a message's last octets (R165, R169 to R172). -/

namespace Sys2Proof.Machine

/-! ### The boundary the link takes ahead -/

theorem State.linkDue_fresh {s : State} (h : s.freshBoundary) : s.linkDue = true := by
  obtain ⟨hdue, hopen⟩ := h
  simp [State.linkDue, hdue, hopen, closedOpening]

/-- The stores' share opens the boundary (log 6). -/
theorem State.takeStores_opening (s : State) :
    s.takeStores.opening = { s.opening with isOpen := true, storesDone := true } := by
  simp [State.takeStores]

/-- Parts 1 and 2 where the link neither switches nor reverts (R165, R178). -/
theorem State.headParts_counts {s : State} (h : s.link.steady) :
    s.headParts = s.withLink { s.link with
      trialTimer := if s.link.state = .trial then s.link.trialTimer - 1 else s.link.trialTimer } := by
  cases hst : s.link.state with
  | settled => exact State.headParts_settled hst h
  | trial => exact State.headParts_trial hst h

/-! ### A message delivered to a settled link -/

section settled
variable {s : State} (hst : s.link.state = .settled) (hsteady : s.link.steady)
include hst hsteady

theorem State.takeStores_headParts_settled : s.takeStores.headParts = s.takeStores :=
  State.headParts_settled (by simpa using hst) (by simpa using hsteady)

/-- A Notice Ack reaches the Notice Unit, and the receiver hunts (R169, R195, R197). -/
theorem State.delivering_ack_settled (seq : Byte) :
    State.delivering seq Config.ackKind [] s.takeStores.headParts = { s.takeStores with
      notices := s.takeStores.notices.goodMessage Config.ackKind seq
      link := { s.link with receiver := .hunt } } := by
  have hack : requestKind Config.ackKind = false := by decide
  have hconfirm : (s.takeStores.receiving .hunt).confirm = s.takeStores.receiving .hunt :=
    State.confirm_settled (by simpa [State.receiving] using hst)
  rw [State.takeStores_headParts_settled hst hsteady, State.delivering, State.deliver_good (by decide),
    State.deliverGood, hconfirm, hack, ← State.takeStores_link s]
  rfl

/-- A foreign message is counted, and the receiver hunts (R169, R170). -/
theorem State.delivering_foreign_settled {kind : Byte} (h : foreign kind = true) (seq : Byte) :
    State.delivering seq kind [] s.takeStores.headParts = { s.takeStores with
      link := { s.link with receiver := .hunt, foreignKinds := satInc s.link.foreignKinds } } := by
  rw [State.takeStores_headParts_settled hst hsteady, State.delivering, State.deliver_foreign h,
    ← State.takeStores_link s]
  rfl

end settled

/-! ### The last octets of a message -/

theorem State.fillSlots_add (n k : Nat) (s : State) :
    State.fillSlots (n + k) s = State.fillSlots k (State.fillSlots n s) := by
  induction n generalizing s with
  | zero => rw [Nat.zero_add]; rfl
  | succ n ih => rw [Nat.succ_add]; exact ih _

/-- How far the message has been sent makes no difference to its end (R172). -/
theorem State.endMessage_sending (s : State) (x : Transmitter) (m : OutMessage) :
    (s.withLink { s.link with transmitter := x }).endMessage m = s.endMessage m := by
  unfold State.endMessage
  cases m.owner <;> rfl

section sending
variable {s : State} {m : OutMessage} {next : Nat} (h : s.link.transmitter = .sending m next)
include h

/-- The last octet ends the message in the same act (R172). -/
theorem State.fillSlot_last {octet : Byte} (hoctet : m.octets[next]? = some octet) (hlast : next + 1 = m.octets.length) :
    s.fillSlot = (s.put octet).endMessage m := by
  have hget : m.octets.getD next Config.idleFill = octet := by simp [hoctet]
  rw [State.fillSlot_sending h, State.placeOctet, hget, if_neg (by omega)]

/-- A message that goes on is at its next octet after the slot (R171). -/
theorem State.fillSlot_next {octet : Byte} (hoctet : m.octets[next]? = some octet) (hmore : next + 1 < m.octets.length) :
    s.fillSlot = (s.put octet).withLink { s.link with transmitter := .sending m (next + 1) } := by
  have hget : m.octets.getD next Config.idleFill = octet := by simp [hoctet]
  rw [State.fillSlot_sending h, State.placeOctet, hget, if_pos hmore]
  rfl

end sending

/-- The slots of the frame take the octets left of a message, and with the last one the message ends (R171, R172). -/
theorem State.fillSlots_rest {s : State} {m : OutMessage} {next left : Nat}
    (h : s.link.transmitter = .sending m next) (hleft : next + (left + 1) = m.octets.length) :
    State.fillSlots (left + 1) s
      = (s.withOpening { s.opening with placed := s.opening.placed ++ m.octets.drop next }).endMessage m := by
  have hlt : next < m.octets.length := by omega
  have hoctet : m.octets[next]? = some m.octets[next] := List.getElem?_eq_getElem hlt
  rw [List.drop_eq_getElem_cons hlt]
  induction left generalizing s next with
  | zero =>
    rw [State.fillSlots, State.fillSlot_last h hoctet hleft, List.drop_eq_nil_of_le (by omega)]
    rfl
  | succ left ih =>
    have hmore : next + 1 < m.octets.length := by omega
    have hrest := ih (s := (s.put m.octets[next]).withLink { s.link with transmitter := .sending m (next + 1) })
      rfl (by omega) hmore (List.getElem?_eq_getElem hmore)
    rw [← List.drop_eq_getElem_cons hmore] at hrest
    rw [State.fillSlots, State.fillSlot_next h hoctet hmore, hrest, ← List.singleton_append, ← List.append_assoc]
    exact State.endMessage_sending (s.withOpening { s.opening with
      placed := s.opening.placed ++ [m.octets[next]] ++ m.octets.drop (next + 1) }) _ m

/-! ### What part 3 leaves as it is -/

/-- An octet read moves no channel, and of the record of shares it changes the location given up alone (R169, R179). -/
theorem State.receive_current (s : State) (b : Byte) : (s.receive b).link.current = s.link.current
    ∧ (s.receive b).opening.noticeEnded = s.opening.noticeEnded
    ∧ (s.receive b).opening.placed = s.opening.placed := by
  obtain ⟨k, heq, hk⟩ | ⟨seq, kind, payload, -, heq⟩ := s.receive_cases b
  · rw [heq]
    exact ⟨((Link.move_eq_iff _ _).1 hk).1, rfl, rfl⟩
  · rw [heq, State.deliverGood_link, State.deliverGood_opening, State.confirm]
    split <;> exact ⟨rfl, rfl, rfl⟩

theorem State.readFrame_current (s : State) : s.readFrame.link.current = s.link.current
    ∧ s.readFrame.opening.noticeEnded = s.opening.noticeEnded
    ∧ s.readFrame.opening.placed = s.opening.placed := by
  unfold State.readFrame
  split
  · exact ⟨rfl, rfl, rfl⟩
  · have hone := State.receive_current
    exact ⟨foldl_keeps (fun u : State => u.link.current) _ (fun u b => (hone u b).1) _ s,
      foldl_keeps (fun u : State => u.opening.noticeEnded) _ (fun u b => (hone u b).2.1) _ s,
      foldl_keeps (fun u : State => u.opening.placed) _ (fun u b => (hone u b).2.2) _ s⟩

end Sys2Proof.Machine
end

section
/-! CERTIFICATE. NOTICE_ACK and FOREIGN_KIND in SETTLED: AcksAndForeignKinds. -/

namespace Sys2Proof.Machine

/-- Settles O23: the message delivered in part 3 is the Notice Unit's (`State.delivering_ack_settled`), which removes the head, ends a stall or does nothing, or is counted (`State.delivering_foreign_settled`). -/
theorem acksAndForeignKinds : Obligations.AcksAndForeignKinds := by
  refine ⟨fun s seq hfresh hst hsteady hframe => ?_, fun s kind hfresh hst hsteady hframe hkind hnoack => ?_⟩
  · intro b n rest after
    have hdue := (State.inboundDue_iff hfresh).mpr ⟨hsteady, hframe⟩
    have hafter : ∀ n', n.goodMessage Config.ackKind seq = n' → after n' := by
      rintro n' rfl
      exact (execNoticeAck_due hdue).trans
        (congrArg (fun u : State => Host.Outcome.next u.fillFrame.linkTaken) (State.delivering_ack_settled hst hsteady seq))
    refine ⟨fun hstate hnum => ?_, fun hstate hnum => hafter _ ?_, fun hstate hnum => hafter _ ?_,
      fun hstate => hafter _ ?_⟩
    · have hremoved := (NoticeUnit.goodMessage_acks ⟨rfl, hstate, hnum⟩).trans n.removeHead_eq
      refine ⟨fun hlost => hafter _ (hremoved.trans ?_), fun hlost => hafter _ (hremoved.trans ?_)⟩
      · simp [hlost, rest]
      · rw [if_neg hlost, if_neg fun h => hlost h.1]
    · rw [NoticeUnit.goodMessage_released fun h => hnum h.2.2, NoticeUnit.released, if_pos hstate]
    · rw [NoticeUnit.goodMessage_released fun h => hnum h.2.2, NoticeUnit.released, if_neg (by simp [hstate])]
    · have hnone : ¬ n.acks Config.ackKind seq := fun ⟨_, h, _⟩ => by
        obtain h' | h' := hstate <;> simp [h'] at h
      rw [NoticeUnit.goodMessage_released hnone, NoticeUnit.released,
        if_neg (by obtain h' | h' := hstate <;> simp [h'])]
  · have hforeign := foreign_of_range hkind hnoack
    have hdue := (State.inboundDue_iff hfresh).mpr ⟨hsteady, hframe⟩
    simp only [exec, execForeignKind, hdue, hforeign, Bool.and_self, if_true, State.linkShare, State.linkAct,
      State.delivering_foreign_settled hst hsteady hforeign, satInc_eq]

end Sys2Proof.Machine
end

section
/-! CERTIFICATE. MESSAGE_END and the filling of slots: LastOctetEndsTheMessage. -/

namespace Sys2Proof.Machine

section slot
variable {s : State}

/-- A transmitter that sends nothing and starts nothing leaves idle fill (R171). -/
theorem State.fillSlot_idle (hr : s.readied = s) (hx : s.link.transmitter = .stopped ∨ s.link.transmitter = .free) :
    s.fillSlot = s.put Config.idleFill := by
  unfold State.fillSlot
  rw [hr]
  obtain hx | hx := hx <;> rw [hx]

theorem NoticeUnit.offers_iff (n : NoticeUnit) : n.offers = true ↔ n.state = .waiting ∧ n.queue ≠ [] := by
  simp [NoticeUnit.offers]

/-- The head response comes first, unless a notice waits too and four responses were started in a row (R173). -/
theorem State.chooseMessage_response {r : Response} {rest : List Response} (hq : s.engine.responses = r :: rest)
    (h : ¬ s.notices.offers = true ∨ s.link.inARow < 4) : s.chooseMessage = s.startResponse r := by
  have hturn : ¬ (s.notices.offers && decide (Config.responsesInARow ≤ s.link.inARow)) = true := by
    rw [Bool.and_eq_true, decide_eq_true_eq]
    exact fun ⟨hoffers, hrow⟩ => h.elim (absurd hoffers) (Nat.not_lt.mpr hrow)
  simp only [State.chooseMessage, hq, if_neg hturn]

theorem State.chooseMessage_notice (hoffers : s.notices.offers = true)
    (h : s.engine.responses = [] ∨ 4 ≤ s.link.inARow) : s.chooseMessage = s.startNotice := by
  unfold State.chooseMessage
  split
  next r rest hq =>
    have hturn : 4 ≤ s.link.inARow := h.resolve_left (by simp [hq])
    rw [if_pos (by simp [hoffers, Config.responsesInARow, hturn])]
  next => rw [if_pos hoffers]

theorem State.chooseMessage_nothing (hq : s.engine.responses = []) (h : ¬ s.notices.offers = true) :
    s.chooseMessage = s := by
  simp only [State.chooseMessage, hq, if_neg h]

variable (hfree : s.link.transmitter = .free)
include hfree

theorem State.readied_free : s.readied = s.chooseMessage := by
  rw [State.readied, hfree]
  rfl

/-- What a FREE transmitter starts, it places the first octet of (R171, R173). -/
theorem State.fillSlot_starts {t : State} {m : OutMessage} (hchoose : s.chooseMessage = t)
    (hm : t.link.transmitter = .sending m 0) : s.fillSlot = t.fillSlot := by
  have hready : t.readied = t := State.readied_of_notFree (by rw [hm]; rfl)
  simp only [State.fillSlot, hready, State.readied_free hfree, hchoose]

end slot

/-- MESSAGE_END is the link's act with the rest of the message in its first slots, behind its first three parts (R165, R171, R172). -/
theorem exec_messageEnd {s b : State} {m : OutMessage} {next : Nat} (hfresh : s.freshBoundary)
    (hread : s.takeStores.headParts.readFrame = b) (hm : b.link.transmitter = .sending m next)
    (hlt : next < m.octets.length) (hfit : m.octets.length - next ≤ b.link.current.width) :
    exec .messageEnd s = .next (State.fillSlots (b.link.current.width - (m.octets.length - next))
      (State.fillSlots (m.octets.length - next) b)).linkTaken := by
  have hends : s.messageEnds = true := by
    simp only [State.messageEnds, hread, hm, Transmitter.octetsLeft, Bool.and_eq_true, decide_eq_true_eq]
    omega
  have hdue : (s.linkDue && s.messageEnds) = true := by rw [State.linkDue_fresh hfresh, hends]; rfl
  have hexec : exec .messageEnd s = .next (s.linkShare State.readFrame) := congrArg _ (if_pos hdue)
  rw [hexec, State.linkShare, State.linkAct, hread, State.fillFrame, ← State.fillSlots_add, Nat.add_sub_cancel' hfit]

/-- Settles O24: MESSAGE_END fills the rest of the message first (`State.fillSlots_rest`); slot by slot the transmitter goes on, ends, starts or idles. -/
theorem lastOctetEndsTheMessage : Obligations.LastOctetEndsTheMessage := by
  refine ⟨fun s m next hfresh hsteady hm hlt hfit => ?_, fun s => ?_, fun s hfree => ⟨?_, ?_⟩,
    fun s => ⟨rfl, rfl, fun _ => rfl⟩⟩
  · intro timer b u
    have hhead : s.takeStores.headParts = { s.takeStores with link := { s.link with trialTimer := timer } } := by
      have h := State.headParts_counts (s := s.takeStores) (by simpa using hsteady)
      rw [State.takeStores_link] at h
      exact h
    have hread : s.takeStores.headParts.readFrame = b := congrArg State.readFrame hhead
    obtain ⟨hcur, hnoticed, hplaced⟩ :=
      State.readFrame_current { s.takeStores with link := { s.link with trialTimer := timer } }
    have hbm : b.link.transmitter = .sending m next := (State.readFrame_transmitter _).trans hm
    have hbcur : b.link.current = s.link.current := hcur
    have hopening := s.takeStores_opening
    rw [hfresh.2] at hopening
    have hbnoticed : b.opening.noticeEnded = false := hnoticed.trans (by rw [hopening]; rfl)
    have hbplaced : b.opening.placed = [] := hplaced.trans (by rw [hopening]; rfl)
    have hended : State.fillSlots (m.octets.length - next) b = u := by
      obtain ⟨left, hleft⟩ : ∃ left, m.octets.length - next = left + 1 := ⟨m.octets.length - next - 1, by omega⟩
      rw [hleft, State.fillSlots_rest hbm (by omega), hbplaced]
      unfold State.endMessage
      cases howner : m.owner with
      | response => simp [u, howner, ← hbnoticed, State.withOpening, State.withLink, State.withEngine]
      | notice => simp [u, howner, NoticeUnit.sent, State.withOpening, State.withLink, State.withNotices]
    rw [exec_messageEnd hfresh hread hbm hlt (by rw [hbcur]; exact hfit), hbcur, hended]
  · intro idle
    refine ⟨fun m next octet hm hoctet => ⟨fun hmore => ?_, fun hlast => ⟨fun howner => ?_, fun howner => ?_⟩⟩,
      fun hstop => ?_, fun hfree hq hnone => ?_⟩
    · rw [State.fillSlot_next hm hoctet hmore]
      rfl
    · rw [State.fillSlot_last hm hoctet hlast, State.endMessage, howner]
      rfl
    · rw [State.fillSlot_last hm hoctet hlast, State.endMessage, howner]
      rfl
    · exact State.fillSlot_idle (State.readied_of_notFree (by rw [hstop]; rfl)) (.inl hstop)
    · refine State.fillSlot_idle ?_ (.inr hfree)
      rw [State.readied_free hfree, State.chooseMessage_nothing hq (mt s.notices.offers_iff.mp hnone)]
  · intro r rest hq hturn
    have hchoose := State.chooseMessage_response hq (hturn.imp_left (mt s.notices.offers_iff.mp))
    exact State.fillSlot_starts hfree hchoose rfl
  · intro r rest hq hwaiting hturn started
    have hoffers : s.notices.offers = true := s.notices.offers_iff.mpr ⟨hwaiting, by simp [hq]⟩
    have hchoose := State.chooseMessage_notice hoffers hturn
    refine ⟨fun number hnumber => ?_, fun hnumber => ?_⟩
    · refine State.fillSlot_starts hfree (hchoose.trans ?_) rfl
      have hstart : s.notices.start = s.notices := by simp only [NoticeUnit.start, hq, hnumber]
      simp only [State.startNotice, hstart, hq, NoticeRecord.octets, hnumber]
      rfl
    · refine State.fillSlot_starts hfree (hchoose.trans ?_) rfl
      simp only [State.startNotice, NoticeUnit.start, hq, hnumber]
      rfl

end Sys2Proof.Machine
end

section
/-! SUPPORT. The switch and the reverts of a channel move: parts 1 and 2 of the link's act, and BOUNDARY at such a boundary (R165, R177, R178, R180, R181). -/

namespace Sys2Proof.Machine

/-! ### Parts 1 and 2 -/

section switch
variable {s : State} {pending : Location} (hst : s.link.state = .settled) (hp : s.link.pendingMove = some pending)
  (hx : s.link.transmitter = .stopped)
include hst hp hx

theorem State.switchDue_some : s.switchDue = some pending := by
  simp [State.switchDue, hst, hx, hp]

/-- At the switch boundary the trial begins, or with the mark set the pending location is given up (R177, R180). -/
theorem State.headParts_switch :
    s.headParts = if s.link.lineLost then s.revertSwitch pending else s.switchTo pending := by
  have htrial : s.trialPart = s := by simp [State.trialPart, hst]
  simp only [State.headParts, htrial, State.switchPart, State.switchDue_some hst hp hx]

end switch

/-- A trial that loses its line or runs out ends by revert, and no switch follows (R178, R180). -/
theorem State.headParts_revert {s : State} {former : Location} (hst : s.link.state = .trial)
    (hf : s.link.former = some former) (h : s.link.lineLost = true ∨ s.link.trialTimer = 1) :
    s.headParts = s.revertTrial former (if s.link.lineLost = true then .lineLost else .timeout) := by
  have htrial : s.trialPart = s.revertTrial former (if s.link.lineLost = true then .lineLost else .timeout) := by
    by_cases hlost : s.link.lineLost = true
    · simp [State.trialPart, hst, hlost, State.revert, hf]
    · simp [State.trialPart, hst, hlost, State.revert, hf, h.resolve_left hlost]
  have hdue : (s.revertTrial former (if s.link.lineLost = true then .lineLost else .timeout)).switchDue = none := by
    simp only [State.switchDue, State.revertTrial, State.raise_link, State.giveUp, State.withOpening_link,
      State.withSwitch_link, State.withLink_link, Link.settleOn]
    split <;> rfl
  rw [State.headParts, htrial, State.switchPart, hdue]

theorem State.revertSwitch_link (s : State) (pending : Location) : (s.revertSwitch pending).link =
    { s.link.settleOn s.link.current with receiver := .hunt, transmitter := .free } := rfl

theorem State.revertTrial_link (s : State) (former : Location) (why : MoveReason) : (s.revertTrial former why).link =
    { s.link.settleOn former with receiver := .hunt, transmitter := s.link.transmitter.again } := rfl

theorem State.revertSwitch_notices (s : State) (pending : Location) : (s.revertSwitch pending).notices
    = s.notices.raise (.channel true .lineLost s.link.current) := by
  simp only [State.revertSwitch, State.raise_notices, State.withEngine_notices, State.giveUp_notices]

theorem State.revertTrial_notices (s : State) (former : Location) (why : MoveReason) :
    (s.revertTrial former why).notices = s.notices.raise (.channel true why former) := by
  simp only [State.revertTrial, State.raise_notices, State.giveUp_notices]

/-- Parts 1 and 2 give one location up and settle the link on another, for this reason (R180). -/
structure State.Reverts (s : State) (gone kept : Location) (why : MoveReason) : Prop where
  rests : s.headParts.link.restsOn kept
  pages : s.headParts.switch = s.switch.leaveLocation gone [kept]
  notice : s.headParts.notices = s.notices.raise (.channel true why kept)

theorem State.reverts_switch {s : State} {pending : Location} (hst : s.link.state = .settled)
    (hp : s.link.pendingMove = some pending) (hx : s.link.transmitter = .stopped) (hlost : s.link.lineLost = true) :
    s.Reverts pending s.link.current .lineLost := by
  have hhead : s.headParts = s.revertSwitch pending := by rw [State.headParts_switch hst hp hx, if_pos hlost]
  constructor <;> rw [hhead]
  · exact ⟨rfl, rfl, rfl, rfl, rfl, rfl⟩
  · rfl
  · exact s.revertSwitch_notices pending

theorem State.reverts_trial {s : State} {former : Location} (hst : s.link.state = .trial)
    (hf : s.link.former = some former) (h : s.link.lineLost = true ∨ s.link.trialTimer = 1) :
    s.Reverts s.link.current former (if s.link.lineLost = true then .lineLost else .timeout) := by
  have hhead := State.headParts_revert hst hf h
  constructor <;> rw [hhead]
  · exact ⟨rfl, rfl, rfl, rfl, rfl, rfl⟩
  · rfl
  · exact s.revertTrial_notices former _

/-! ### BOUNDARY -/

/-- What BOUNDARY makes of a move is what parts 1 to 3 of the link's act make of it; the other blocks' shares come before and after (R165). -/
theorem State.numberedBoundary_head {s : State} (hopen : s.opening = closedOpening) (order : List Taker) :
    ∃ u : State, u.link = s.link ∧ u.switch = s.mapEffects.switch ∧ u.engine.executor = s.engine.executor
      ∧ u.notices.mask = s.notices.mask
      ∧ u.headParts.readFrame.LeavesMove (s.numberedBoundary ⟨order, []⟩) := by
  obtain ⟨u, hu, hlink, -, -, hafter⟩ := State.numberedBoundary_linkAct (s := s) (by rw [hopen]; rfl) order
  refine ⟨u, hlink, hu.switch, hu.executor.trans (by simp), hu.mask.trans (by simp), State.LeavesMove.trans ?_ hafter⟩
  exact (State.fillFrame_leavesMove _).trans (.of_eq rfl rfl rfl rfl)

/-- The link after a boundary is that after the link's act (R165). -/
theorem State.numberedBoundary_link {s : State} (hopen : s.opening = closedOpening) (order : List Taker) :
    ∃ u : State, u.link = s.link ∧ (s.numberedBoundary ⟨order, []⟩).link = (u.linkAct State.readFrame).link := by
  obtain ⟨u, f, hu, -, -, hf, -, hshares⟩ := State.numberedBoundary_split hopen order
  refine ⟨u, hu, ?_⟩
  rw [State.numberedBoundary_plain, ← hshares, ← hf]
  rfl

/-- Octets that a settled link reads change neither its move nor a page (R169, R179). -/
theorem State.readFrame_settled {s : State} (h : s.link.state = .settled) :
    s.readFrame.link.move = s.link.move ∧ s.readFrame.switch = s.switch := by
  have hfold : ∀ (octets : List Byte) (u : State), u.link.move = s.link.move ∧ u.switch = s.switch →
      (octets.foldl State.receive u).link.move = s.link.move ∧ (octets.foldl State.receive u).switch = s.switch := by
    intro octets
    induction octets with
    | nil => exact fun _ hu => hu
    | cons b rest ih =>
      intro u ⟨hmove, hswitch⟩
      have hu : u.link.state = .settled := ((Link.move_eq_iff _ _).1 hmove).2.1.trans h
      refine ih _ ⟨(State.receive_settled hu b).1.trans hmove, ?_⟩
      obtain ⟨k, heq, -⟩ | ⟨seq, kind, payload, -, heq⟩ := u.receive_cases b
      · rw [heq]
        exact hswitch
      · rw [heq, State.deliverGood_switch, State.confirm_settled (s := u.receiving .hunt) hu]
        exact hswitch
  unfold State.readFrame
  split
  · exact ⟨rfl, rfl⟩
  · exact hfold _ s ⟨rfl, rfl⟩

/-- The entries after a location is given up where one other is left (R5). -/
theorem Switch.leaveLocation_entry (w : Switch) (gone kept : Location) (name : PageName) (line : Line) (slot : Slot) :
    entryAt ((w.leaveLocation gone [kept]).page name) line slot =
      if gone.covers line slot = true ∧ kept.covers line slot = false then .release
      else entryAt (w.page name) line slot := by
  simp [Switch.leaveLocation, coveredBy]

/-- The pages after a boundary at which a location is given up and another kept (R5). -/
theorem State.givesUp_of_leave {s t : State} {gone kept : Location}
    (h : t.switch = s.mapEffects.switch.leaveLocation gone [kept]) : s.givesUp t gone kept := by
  intro name line slot
  rw [h, Switch.leaveLocation_entry]
  split
  · rfl
  · exact fun hmc => by rw [State.mapEffects_page hmc]

/-- After a boundary at which the link reverts it rests on the location kept, the other is given up, and the CHANNEL notice stands in the queue (R180). -/
theorem State.Reverts.boundary {s u t : State} {gone kept : Location} {why : MoveReason} (h : u.Reverts gone kept why)
    (hpages : u.switch = s.mapEffects.switch) (hmask : u.notices.mask = s.notices.mask)
    (hafter : u.headParts.readFrame.LeavesMove t) :
    t.link.restsOn kept ∧ s.givesUp t gone kept
      ∧ (s.notices.mask.getLsbD 5 = true → t.notices.shows (.channel true why kept)) := by
  have hsettled : u.headParts.link.state = .settled := h.rests.2.1
  obtain ⟨hmove, hswitch⟩ := State.readFrame_settled hsettled
  refine ⟨Link.restsOn_of_move (hafter.move.trans hmove) h.rests, ?_, fun hbit => hafter.shows _ _ _ ?_⟩
  · refine State.givesUp_of_leave ?_
    rw [hafter.switch, hswitch, h.pages, hpages]
  · refine NoticeUnit.shows_of_holds (State.readFrame_holds rfl ?_)
    rw [h.notice]
    exact NoticeUnit.raise_holds (by rw [hmask]; exact hbit)

/-! ### The transmitter after the switch boundary -/

/-- The few slots of a frame that a FREE transmitter fills end no message, so it is not STOPPED after them (R164, R167, R174). -/
theorem State.fillSlots_notStopped {s : State} {n : Nat} (hn : n ≤ 5) (hfree : s.link.transmitter = .free) :
    (State.fillSlots n s).link.transmitter ≠ .stopped := by
  have hsilent : ∀ m next, s.link.transmitter ≠ .sending m next := by simp [hfree]
  obtain hr | ⟨m, hm, hlen⟩ := s.chooseMessage_cases
  · rw [(State.fillSlots_silent n ((State.readied_free hfree).trans hr) hsilent).2, hfree]
    nofun
  · cases n with
    | zero => rw [State.fillSlots, hfree]; nofun
    | succ n =>
      have hstarts : s.fillSlot = s.chooseMessage.fillSlot := State.fillSlot_starts hfree rfl hm
      rw [State.fillSlots, hstarts, ← State.fillSlots, (State.fillSlots_within (n + 1) hm (by omega)).2]
      nofun

/-- At the switch boundary the hold of the transmitter ends (R177, R180). -/
theorem State.linkAct_switch_notStopped {s : State} {pending : Location} (hst : s.link.state = .settled)
    (hp : s.link.pendingMove = some pending) (hx : s.link.transmitter = .stopped)
    (hcurrent : s.link.current.width ≤ 4) (hpending : pending.width ≤ 4) :
    (s.linkAct State.readFrame).link.transmitter ≠ .stopped := by
  have hhead : s.headParts.link.transmitter = .free ∧ s.headParts.link.current.width ≤ 4 := by
    rw [State.headParts_switch hst hp hx]
    split
    · exact ⟨rfl, hcurrent⟩
    · exact ⟨rfl, hpending⟩
  refine State.fillSlots_notStopped ?_ ((State.readFrame_transmitter _).trans hhead.1)
  rw [(State.readFrame_current _).1]
  omega

end Sys2Proof.Machine
end

section
/-! CERTIFICATE. The switch boundary, and the end of a trial by revert: ChannelSwitches, TrialEndsByRevert. -/

namespace Sys2Proof.Machine

/-- CHANNEL_SWITCH is the link's act at the switch boundary (R165, R177). -/
theorem exec_channelSwitch {s : State} {pending : Location} (hfresh : s.freshBoundary)
    (hst : s.link.state = .settled) (hp : s.link.pendingMove = some pending) (hx : s.link.transmitter = .stopped) :
    exec .channelSwitch s = .next
      (if s.link.lineLost then s.takeStores.revertSwitch pending
        else s.takeStores.switchTo pending).readFrame.fillFrame.linkTaken := by
  have hdue : (s.linkDue && s.switchDue.isSome) = true := by
    rw [State.linkDue_fresh hfresh, State.switchDue_some hst hp hx]
    rfl
  have hhead := State.headParts_switch (s := s.takeStores) (by simpa using hst) (by simpa using hp) (by simpa using hx)
  rw [State.takeStores_link] at hhead
  rw [← hhead]
  exact congrArg _ (if_pos hdue)

/-- Settles O19: CHANNEL_SWITCH is the act that begins the trial or reverts (`exec_channelSwitch`); at BOUNDARY the few octets read leave the trial begun (`State.readFrame_early`), and any leave a revert (`State.Reverts.boundary`). -/
theorem channelSwitches : Obligations.ChannelSwitches := by
  refine ⟨fun s pending hfresh hst hp hx hlost => ?_, fun s pending hfresh hst hp hx hlost => ?_,
    fun s order pending hfresh hst hp hx hcurrent hpending => ?_⟩
  · intro u
    have hu : s.takeStores.switchTo pending = u := by
      simp only [State.switchTo, State.takeStores_link, State.takeStores_engine]
      rfl
    rw [exec_channelSwitch hfresh hst hp hx, hlost, ← hu]
    rfl
  · intro b
    have hu : (b.revertSwitch pending).switch = s.switch.leaveLocation pending [s.link.current] := by
      rw [← State.takeStores_switch s, ← State.takeStores_link s]
      rfl
    refine ⟨b.revertSwitch pending, ?_, ?_, ?_, ?_, fun name line slot => ?_, ?_, ?_, by simp [b],
      b.revertSwitch_stores pending, by simp [b], by simp [b], by simp [b], by simp [b], rfl⟩
    · rw [exec_channelSwitch hfresh hst hp hx, hlost]
      rfl
    · simp [b, State.revertSwitch_link, Link.settleOn, hst]
    · rw [← State.takeStores_engine s]
      rfl
    · rw [State.revertSwitch_notices, State.takeStores_link]
    · rw [hu, Switch.leaveLocation_entry]
    · rw [hu]
      rfl
    · rw [hu]
      rfl
  · have hopen := hfresh.2
    obtain ⟨w, hwlink, hlink⟩ := State.numberedBoundary_link hopen order
    obtain ⟨u, hulink, hpages, hexec, hmask, hafter⟩ := State.numberedBoundary_head hopen order
    have hust : u.link.state = .settled := by rw [hulink]; exact hst
    have hup : u.link.pendingMove = some pending := by rw [hulink]; exact hp
    have hux : u.link.transmitter = .stopped := by rw [hulink]; exact hx
    have hhead := State.headParts_switch hust hup hux
    refine ⟨_, exec_boundary_numbered hfresh.1 _, ?_, ?_, fun hlost => ?_, fun hlost => ?_⟩
    · rw [hafter.executor, State.readFrame_executor, hhead]
      split <;> rfl
    · rw [hlink]
      exact State.linkAct_switch_notStopped (by rw [hwlink]; exact hst) (by rw [hwlink]; exact hp)
        (by rw [hwlink]; exact hx) (by rw [hwlink]; exact hcurrent) hpending
    · have hulost : ¬ u.link.lineLost = true := by simp [hulink, hlost]
      rw [hhead, if_neg hulost] at hafter
      obtain ⟨k, hread, hk⟩ := State.readFrame_early (s := u.switchTo pending) rfl (hpending.trans (by decide))
      rw [hread] at hafter
      obtain ⟨h1, h2, h3, h4, h5, h6⟩ := (Link.move_eq_iff _ _).1 (hafter.move.trans hk)
      have hswitch : (s.numberedBoundary ⟨order, []⟩).switch = s.mapEffects.switch := hafter.switch.trans hpages
      refine ⟨h1, h4.trans (by rw [← hulink]; rfl), h3, h2, h6, ?_, fun hmc => ⟨?_, ?_⟩⟩
      · rw [← hlost, ← hulink]
        exact h5
      · rw [hswitch]
        exact State.mapEffects_page hmc .a
      · rw [hswitch]
        exact State.mapEffects_page hmc .b
    · have hulost : u.link.lineLost = true := by rw [hulink]; exact hlost
      have hreverts := State.reverts_switch hust hup hux hulost
      rw [hulink] at hreverts
      exact hreverts.boundary hpages hmask hafter

section revert
variable {s : State} {former : Location} (hfresh : s.freshBoundary) (hst : s.link.state = .trial)
  (hf : s.link.former = some former)
include hst hf

/-- The link's act with the stores' share before it, where the trial ends by revert (R165, R178). -/
theorem State.linkShare_revert (h : s.link.lineLost = true ∨ s.link.trialTimer = 1) :
    s.linkShare State.readFrame = (s.takeStores.revertTrial former
      (if s.link.lineLost = true then .lineLost else .timeout)).readFrame.fillFrame.linkTaken := by
  have hhead := State.headParts_revert (s := s.takeStores) (by simpa using hst) (by simpa using hf) (by simpa using h)
  rw [State.takeStores_link] at hhead
  rw [State.linkShare, State.linkAct, hhead]

include hfresh

theorem exec_trialTimeout (hlost : s.link.lineLost = false) (htimer : s.link.trialTimer = 1) :
    exec .trialTimeout s
      = .next (s.takeStores.revertTrial former .timeout).readFrame.fillFrame.linkTaken := by
  have hdue : (s.linkDue && s.trialRunsOut) = true := by
    simp [State.linkDue_fresh hfresh, State.trialRunsOut, hst, hlost, htimer]
  have hshare := State.linkShare_revert hst hf (.inr htimer)
  rw [hlost] at hshare
  exact congrArg _ ((if_pos hdue).trans hshare)

theorem exec_lineLostRevert (hlost : s.link.lineLost = true) :
    exec .lineLostRevert s
      = .next (s.takeStores.revertTrial former .lineLost).readFrame.fillFrame.linkTaken := by
  have hdue : (s.linkDue && s.trialLosesLine) = true := by
    simp [State.linkDue_fresh hfresh, State.trialLosesLine, hst, hlost]
  have hshare := State.linkShare_revert hst hf (.inl hlost)
  rw [hlost] at hshare
  exact congrArg _ ((if_pos hdue).trans hshare)

end revert

/-- Settles O20: both rows are the act that reverts (`State.linkShare_revert`), and BOUNDARY keeps what the revert leaves (`State.Reverts.boundary`). -/
theorem trialEndsByRevert : Obligations.TrialEndsByRevert := by
  refine ⟨fun s former hfresh hst hp hf => ?_, fun s order former hfresh hst hf hends => ?_⟩
  · intro b reverted
    have hreverted : ∀ reason, reverted reason (b.revertTrial former reason) := fun reason => by
      have hswitch : (b.revertTrial former reason).switch = s.switch.leaveLocation s.link.current [former] := by
        rw [← State.takeStores_switch s, ← State.takeStores_link s]
        rfl
      refine ⟨?_, b.revertTrial_notices former reason, fun name line slot => ?_, ?_, ?_, by simp [b],
        b.revertTrial_stores former reason, by simp [b], by simp [b], by simp [b], by simp [b], by simp [b], ?_⟩
      · cases hx : s.link.transmitter <;>
          simp [b, State.revertTrial_link, Link.settleOn, hp, hx, Transmitter.again]
      · rw [hswitch, Switch.leaveLocation_entry]
      · rw [hswitch]
        rfl
      · rw [hswitch]
        rfl
      · rw [← State.takeStores_link s]
        rfl
    exact ⟨fun hlost htimer => ⟨_, exec_trialTimeout hfresh hst hf hlost htimer, hreverted _⟩,
      fun hlost => ⟨_, exec_lineLostRevert hfresh hst hf hlost, hreverted _⟩⟩
  · intro reason
    obtain ⟨u, hulink, hpages, hexec, hmask, hafter⟩ := State.numberedBoundary_head hfresh.2 order
    have hust : u.link.state = .trial := by rw [hulink]; exact hst
    have huf : u.link.former = some former := by rw [hulink]; exact hf
    have huends : u.link.lineLost = true ∨ u.link.trialTimer = 1 := by rw [hulink]; exact hends
    have hreverts := State.reverts_trial hust huf huends
    rw [hulink] at hreverts
    obtain ⟨hrests, hgives, hshows⟩ := hreverts.boundary hpages hmask hafter
    refine ⟨_, exec_boundary_numbered hfresh.1 _, hrests, ?_, hgives, hshows⟩
    rw [hafter.executor, State.readFrame_executor, State.headParts_revert hust huf huends]
    exact hexec

end Sys2Proof.Machine
end

section
/-! SUPPORT. The law of the Notice Unit, read of its queue and of its sending state, and what each of the unit's acts does to it (R188 to R197). -/

namespace Sys2Proof.Machine

/-! ### The notice queue -/

/-- What the law reads of a record: its number, and of which line it is a never-sent SLIP. -/
def NoticeRecord.shape (r : NoticeRecord) : Option Byte × (Line → Bool) :=
  (r.number, fun line => r.openSlip line)

/-- A queue of at most 16 records, of which only the head was ever sent, with one never-sent SLIP a line (R188, R190, R193). -/
structure LawfulQueue (q : List NoticeRecord) : Prop where
  room : q.length ≤ 16
  unsent : ∀ r ∈ q.drop 1, r.number = none
  slips : ∀ line : Line, (q.filter (NoticeRecord.openSlip line)).length ≤ 1

theorem LawfulQueue.of_shape {q q' : List NoticeRecord} (h : LawfulQueue q)
    (hs : q'.map NoticeRecord.shape = q.map NoticeRecord.shape) : LawfulQueue q' := by
  have hnumbers : q'.map NoticeRecord.number = q.map NoticeRecord.number := by
    simpa [Function.comp_def, NoticeRecord.shape] using congrArg (List.map Prod.fst) hs
  refine ⟨?_, fun r hr => ?_, fun line => ?_⟩
  · rw [← List.length_map NoticeRecord.shape, hs, List.length_map]
    exact h.room
  · have hmem : r.number ∈ (q.drop 1).map NoticeRecord.number := by
      rw [List.map_drop, ← hnumbers, ← List.map_drop]
      exact List.mem_map_of_mem hr
    obtain ⟨r', hr', heq⟩ := List.mem_map.mp hmem
    rw [← heq]
    exact h.unsent r' hr'
  · have hopen : q'.map (NoticeRecord.openSlip line) = q.map (NoticeRecord.openSlip line) := by
      simpa [Function.comp_def, NoticeRecord.shape] using congrArg (List.map fun x => x.2 line) hs
    have hcount : ∀ l : List NoticeRecord, (l.filter (NoticeRecord.openSlip line)).length
        = (l.map (NoticeRecord.openSlip line)).countP id := fun l => by
      rw [List.countP_map, List.countP_eq_length_filter]; rfl
    rw [hcount, hopen, ← hcount]
    exact h.slips line

theorem LawfulQueue.sublist {q q' : List NoticeRecord} (h : LawfulQueue q) (hs : q'.Sublist q)
    (hunsent : ∀ r ∈ q'.drop 1, r.number = none) : LawfulQueue q' :=
  ⟨hs.length_le.trans h.room, hunsent, fun line => (hs.filter _).length_le.trans (h.slips line)⟩

theorem LawfulQueue.tail {q : List NoticeRecord} (h : LawfulQueue q) : LawfulQueue (q.drop 1) :=
  h.sublist (List.drop_sublist 1 q) fun r hr => h.unsent r (List.mem_of_mem_drop hr)

/-- A never-sent record behind the others, when the queue holds no never-sent SLIP of its line (R189). -/
theorem LawfulQueue.append {q : List NoticeRecord} (h : LawfulQueue q) (hroom : q.length < 16) {e : Event}
    (hfree : ∀ line, e.slips line = true → ∀ r ∈ q, r.openSlip line = false) :
    LawfulQueue (q ++ [{ event := e, number := none }]) := by
  refine ⟨by simp; omega, fun r hr => ?_, fun line => ?_⟩
  · cases q with
    | nil => cases hr
    | cons x rest =>
      obtain hr | hr := List.mem_append.mp hr
      · exact h.unsent r hr
      · rw [List.mem_singleton.mp hr]
  · rw [List.filter_append, List.length_append]
    cases he : e.slips line with
    | true =>
      have hnone : q.filter (NoticeRecord.openSlip line) = [] :=
        List.filter_eq_nil_iff.mpr fun r hr => by simp [hfree line he r hr]
      rw [hnone]
      exact (Nat.zero_add _).trans_le (List.length_filter_le _ _)
    | false =>
      have hother : NoticeRecord.openSlip line { event := e, number := none } = false :=
        NoticeRecord.openSlip_of_other he
      rw [List.filter_singleton, hother]
      exact h.slips line

/-- The head takes a number (R193). -/
theorem LawfulQueue.number {x : NoticeRecord} {rest : List NoticeRecord} (h : LawfulQueue (x :: rest)) (k : Byte) :
    LawfulQueue ({ x with number := some k } :: rest) := by
  refine ⟨h.room, h.unsent, fun line => ?_⟩
  have hsent : NoticeRecord.openSlip line { x with number := some k } = false := by
    rw [NoticeRecord.openSlip_eq]; rfl
  rw [List.filter_cons_of_neg (by simp [hsent])]
  exact ((List.sublist_cons_self x rest).filter _).length_le.trans (h.slips line)

/-! ### Merges -/

/-- A merge changes the counts of one record, and no record's shape (R190). -/
theorem mergeSlip_shape {line : Line} {a d : Half} {q q' : List NoticeRecord} (h : mergeSlip line a d q = some q') :
    q'.map NoticeRecord.shape = q.map NoticeRecord.shape := by
  induction q generalizing q' with
  | nil => cases h
  | cons x xs ih =>
    have hrest : (mergeSlip line a d xs).map (x :: ·) = some q' →
        q'.map NoticeRecord.shape = (x :: xs).map NoticeRecord.shape := by
      intro h
      obtain ⟨ys, hys, rfl⟩ := Option.map_eq_some_iff.mp h
      rw [List.map_cons, List.map_cons, ih hys]
    rw [mergeSlip] at h
    split at h
    next l m n f hnumber hevent =>
      split at h
      · cases h
        have hx : NoticeRecord.shape { x with event := .slip l (satAdd m a) (satAdd n d) f } = x.shape := by
          simp only [NoticeRecord.shape, NoticeRecord.openSlip_eq, hnumber, hevent]
          rfl
        rw [List.map_cons, List.map_cons, hx]
      · exact hrest h
    next => exact hrest h

/-- A SLIP merges into no record only where no never-sent SLIP of its line stands (R190). -/
theorem slipFree_of_mergeSlip {line : Line} {a d : Half} {q : List NoticeRecord} (h : mergeSlip line a d q = none) :
    ∀ r ∈ q, r.openSlip line = false := by
  induction q with
  | nil => nofun
  | cons x xs ih =>
    rw [mergeSlip] at h
    split at h
    next hnumber hevent =>
      split at h
      · cases h
      next hline =>
        refine List.forall_mem_cons.mpr ⟨?_, ih (Option.map_eq_none_iff.mp h)⟩
        simpa [NoticeRecord.openSlip_eq, hnumber, hevent, Event.slips] using hline
    next hother =>
      refine List.forall_mem_cons.mpr ⟨?_, ih (Option.map_eq_none_iff.mp h)⟩
      unfold NoticeRecord.openSlip
      split
      next hevent hnumber => exact (hother _ _ _ _ hnumber hevent).elim
      next => rfl

/-- All that raising an event can do to the records: nothing; a merge; a record that no other could take; or one more lost from a full queue (R189). -/
theorem NoticeUnit.raise_shape (n : NoticeUnit) (e : Event) :
    n.raise e = n
      ∨ (∃ q, q.map NoticeRecord.shape = n.queue.map NoticeRecord.shape ∧ n.raise e = { n with queue := q })
      ∨ (n.queue.length < 16 ∧ (∀ line, e.slips line = true → n.SlipFree line) ∧ n.raise e = n.append e)
      ∨ (16 ≤ n.queue.length ∧ n.raise e = { n with lost := satInc n.lost }) := by
  unfold NoticeUnit.raise
  split
  · exact .inl rfl
  split
  next q hq =>
    unfold mergeEvent at hq
    split at hq
    next => exact .inr (.inl ⟨q, mergeSlip_shape hq, rfl⟩)
    next => cases hq
  next hq =>
    split
    next hroom =>
      refine .inr (.inr (.inl ⟨hroom, fun line he => ?_, rfl⟩))
      match e, he with
      | .slip l a d f, he =>
        obtain rfl : l = line := of_decide_eq_true he
        exact slipFree_of_mergeSlip hq
    next hfull => exact .inr (.inr (.inr ⟨Nat.le_of_not_lt hfull, rfl⟩))

/-! ### The law of the Notice Unit -/

/-- What the law allows a sending state: its head, its send count and its timer (R192 to R196). -/
def NoticeUnit.LawfulSending (n : NoticeUnit) : Prop :=
  match n.state with
  | .idle => n.queue = [] ∧ n.sendCount = 0 ∧ n.timer = 0
  | .waiting => n.queue ≠ [] ∧ n.sendCount ≤ 3 ∧ n.timer = 0
  | .outstanding =>
    n.headNumber.isSome = true ∧ (1 ≤ n.sendCount ∧ n.sendCount ≤ 4) ∧ 1 ≤ n.timer ∧ n.timer ≤ 4096
  | .stalled => n.headNumber.isSome = true ∧ n.sendCount = 4 ∧ n.timer = 0

/-- Mask and interval in range (R198). -/
def NoticeUnit.LawfulSettings (n : NoticeUnit) : Prop :=
  16 ≤ n.interval ∧ n.interval ≤ 4096 ∧ n.mask &&& 0xC0 = 0

theorem NoticeUnit.queue_ne_nil {n : NoticeUnit} (h : n.headNumber.isSome = true) : n.queue ≠ [] := by
  intro hq
  simp [NoticeUnit.headNumber, hq] at h

/-- The law in its four parts. -/
theorem NoticeUnit.law_iff (n : NoticeUnit) :
    n.law ↔ LawfulQueue n.queue ∧ (n.lost ≠ 0 → n.queue.length = 16) ∧ n.LawfulSettings ∧ n.LawfulSending := by
  have hsending : n.LawfulSending ↔ (n.state = .idle ↔ n.queue = [])
      ∧ (n.state = .outstanding ∨ n.state = .stalled → n.headNumber.isSome = true)
      ∧ (n.state = .idle → n.sendCount = 0) ∧ (n.state = .waiting → n.sendCount ≤ 3)
      ∧ (n.state = .outstanding → 1 ≤ n.sendCount ∧ n.sendCount ≤ 4 ∧ 1 ≤ n.timer ∧ n.timer ≤ 4096)
      ∧ (n.state = .stalled → n.sendCount = 4) ∧ (n.state ≠ .outstanding → n.timer = 0) := by
    have hne := n.queue_ne_nil
    unfold NoticeUnit.LawfulSending
    cases n.state <;> simp <;> tauto
  rw [hsending, NoticeUnit.LawfulSettings]
  constructor
  · rintro ⟨hroom, hunsent, hslips, hlost, hlow, hhigh, hmask, hrest⟩
    exact ⟨⟨hroom, hunsent, hslips⟩, hlost, ⟨hlow, hhigh, hmask⟩, hrest⟩
  · rintro ⟨⟨hroom, hunsent, hslips⟩, hlost, ⟨hlow, hhigh, hmask⟩, hrest⟩
    exact ⟨hroom, hunsent, hslips, hlost, hlow, hhigh, hmask, hrest⟩

/-- The head has been started and waits to be sent, as while the transmitter sends it (R193). -/
def NoticeUnit.Started (n : NoticeUnit) : Prop :=
  n.state = .waiting ∧ n.headNumber.isSome = true

/-- What an act on the Notice Unit leaves standing: its law, and a started head. -/
structure NoticeUnit.KeepsLaw (n n' : NoticeUnit) : Prop where
  law : n.law → n'.law
  started : n.Started → n'.Started

theorem NoticeUnit.KeepsLaw.refl (n : NoticeUnit) : n.KeepsLaw n :=
  ⟨id, id⟩

theorem NoticeUnit.KeepsLaw.trans {n n' n'' : NoticeUnit} (h : n.KeepsLaw n') (h' : n'.KeepsLaw n'') :
    n.KeepsLaw n'' :=
  ⟨h'.law ∘ h.law, h'.started ∘ h.started⟩

/-- The head's number is read from the shapes alone. -/
theorem headNumber_of_shape {q q' : List NoticeRecord} (h : q'.map NoticeRecord.shape = q.map NoticeRecord.shape) :
    q'.head?.bind NoticeRecord.number = q.head?.bind NoticeRecord.number := by
  have hnumber : ∀ l : List NoticeRecord,
      l.head?.bind NoticeRecord.number = (l.map NoticeRecord.shape).head?.bind Prod.fst := fun l => by
    cases l <;> rfl
  rw [hnumber, h, ← hnumber]

/-- A record appended is not the head, or is a head that was never sent (R189). -/
theorem NoticeUnit.append_headNumber (n : NoticeUnit) (e : Event) : (n.append e).headNumber = n.headNumber := by
  unfold NoticeUnit.headNumber NoticeUnit.append
  cases n.queue <;> rfl

theorem NoticeUnit.raise_headNumber (n : NoticeUnit) (e : Event) : (n.raise e).headNumber = n.headNumber := by
  obtain heq | ⟨q, hq, heq⟩ | ⟨-, -, heq⟩ | ⟨-, heq⟩ := n.raise_shape e
  · rw [heq]
  · rw [heq]
    exact headNumber_of_shape hq
  · rw [heq, NoticeUnit.append_headNumber]
  · rw [heq]
    rfl

theorem NoticeUnit.append_lawfulSending {n : NoticeUnit} (h : n.LawfulSending) (e : Event) :
    (n.append e).LawfulSending := by
  unfold NoticeUnit.LawfulSending at h ⊢
  rw [NoticeUnit.append_headNumber]
  cases hst : n.state <;> simp only [hst] at h
  case idle => simp [NoticeUnit.append, hst, h]
  case waiting => simp [NoticeUnit.append, hst, h]
  case outstanding => simpa [NoticeUnit.append, hst] using h
  case stalled => simpa [NoticeUnit.append, hst] using h

/-! ### The unit's acts -/

/-- The state takes a new record in IDLE alone (R189). -/
theorem NoticeUnit.append_started {n : NoticeUnit} (h : n.Started) (e : Event) : (n.append e).Started := by
  obtain ⟨hstate, hhead⟩ := h
  exact ⟨by simp [NoticeUnit.append, hstate], by rwa [NoticeUnit.append_headNumber]⟩

theorem NoticeUnit.raise_keepsLaw (n : NoticeUnit) (e : Event) : n.KeepsLaw (n.raise e) := by
  obtain heq | ⟨q, hq, heq⟩ | ⟨hroom, hfree, heq⟩ | ⟨hfull, heq⟩ := n.raise_shape e
  all_goals rw [heq]
  · exact .refl n
  · have hhead : NoticeUnit.headNumber { n with queue := q } = n.headNumber := headNumber_of_shape hq
    have hlen : q.length = n.queue.length := by simpa using congrArg List.length hq
    have hnil : q = [] ↔ n.queue = [] := by rw [← List.length_eq_zero_iff, hlen, List.length_eq_zero_iff]
    refine ⟨fun h => ?_, fun h => ⟨h.1, hhead ▸ h.2⟩⟩
    rw [NoticeUnit.law_iff] at h ⊢
    obtain ⟨hqueue, hlost, hsettings, hsending⟩ := h
    refine ⟨hqueue.of_shape hq, fun hl => hlen.trans (hlost hl), hsettings, ?_⟩
    simpa only [NoticeUnit.LawfulSending, hhead, hnil, ne_eq] using hsending
  · refine ⟨fun h => ?_, fun h => NoticeUnit.append_started h e⟩
    rw [NoticeUnit.law_iff] at h ⊢
    obtain ⟨hqueue, hlost, hsettings, hsending⟩ := h
    exact ⟨hqueue.append hroom hfree, fun hl => absurd (hlost hl) (by omega), hsettings,
      NoticeUnit.append_lawfulSending hsending e⟩
  · refine ⟨fun h => ?_, id⟩
    rw [NoticeUnit.law_iff] at h ⊢
    obtain ⟨hqueue, -, hsettings, hsending⟩ := h
    exact ⟨hqueue, fun _ => Nat.le_antisymm hqueue.room hfull, hsettings, hsending⟩

/-- A good message never touches a head that waits to be sent; an ack removes it once sent, and the record of lost events takes its place (R191, R195, R197). -/
theorem NoticeUnit.goodMessage_keepsLaw (n : NoticeUnit) (kind seq : Byte) : n.KeepsLaw (n.goodMessage kind seq) := by
  refine ⟨fun h => ?_, fun h => ?_⟩
  · rw [NoticeUnit.law_iff] at h ⊢
    obtain ⟨hqueue, hlost, hsettings, hsending⟩ := h
    by_cases hacks : n.acks kind seq
    · rw [NoticeUnit.goodMessage_acks hacks, NoticeUnit.removeHead_eq]
      refine ⟨?_, nofun, hsettings, ?_⟩
      · split
        next => exact hqueue.tail
        next hl =>
          have hfull := hlost hl
          exact hqueue.tail.append (by simp; omega) nofun
      · generalize n.queue.drop 1 = rest
        by_cases hl : n.lost = 0
        · simp only [hl, true_and, if_true]
          cases rest <;> simp [NoticeUnit.LawfulSending]
        · simp only [hl, false_and, if_false]
          simp [NoticeUnit.LawfulSending]
    · rw [NoticeUnit.goodMessage_released hacks, NoticeUnit.released]
      split
      next hstalled =>
        simp only [NoticeUnit.LawfulSending, hstalled] at hsending
        obtain ⟨hhead, -, htimer⟩ := hsending
        exact ⟨hqueue, hlost, hsettings, NoticeUnit.queue_ne_nil hhead, Nat.zero_le _, htimer⟩
      next => exact ⟨hqueue, hlost, hsettings, hsending⟩
  · have hsame : n.goodMessage kind seq = n := by simp only [NoticeUnit.goodMessage, h.1]
    rwa [hsame]

/-- The timer of an outstanding head (R194, R196). -/
theorem NoticeUnit.expire_keepsLaw {n : NoticeUnit} (hout : n.state = .outstanding) : n.KeepsLaw n.expire := by
  refine ⟨fun h => ?_, fun h => by rw [NoticeUnit.Started, hout] at h; cases h.1⟩
  rw [NoticeUnit.law_iff] at h ⊢
  obtain ⟨hqueue, hlost, hsettings, hsending⟩ := h
  refine ⟨hqueue, hlost, hsettings, ?_⟩
  simp only [NoticeUnit.LawfulSending, hout] at hsending
  obtain ⟨hhead, ⟨-, hcount⟩, -⟩ := hsending
  by_cases hsends : n.sendCount < 4
  · simpa [NoticeUnit.LawfulSending, NoticeUnit.expire, Config.noticeSends, hsends]
      using ⟨NoticeUnit.queue_ne_nil hhead, Nat.le_of_lt_succ hsends⟩
  · have hfour : n.sendCount = 4 := by omega
    simpa [NoticeUnit.LawfulSending, NoticeUnit.expire, Config.noticeSends, hfour, NoticeUnit.headNumber] using hhead

theorem NoticeUnit.tick_keepsLaw {n : NoticeUnit} (hout : n.state = .outstanding) : n.KeepsLaw n.tick := by
  unfold NoticeUnit.tick
  split
  · exact NoticeUnit.expire_keepsLaw hout
  next htimer =>
    refine ⟨fun h => ?_, fun h => by rw [NoticeUnit.Started, hout] at h; cases h.1⟩
    rw [NoticeUnit.law_iff] at h ⊢
    obtain ⟨hqueue, hlost, hsettings, hsending⟩ := h
    refine ⟨hqueue, hlost, hsettings, ?_⟩
    simp only [NoticeUnit.LawfulSending, hout] at hsending ⊢
    obtain ⟨hhead, hcount, -, htop⟩ := hsending
    exact ⟨hhead, hcount, by omega, by omega⟩

/-- The head of a waiting queue, started (R193). -/
theorem NoticeUnit.start_law {n : NoticeUnit} (h : n.law) (hwaiting : n.state = .waiting) :
    n.start.law ∧ n.start.Started := by
  unfold NoticeUnit.start
  split
  next hq =>
    rw [NoticeUnit.law_iff] at h
    simp [NoticeUnit.LawfulSending, hwaiting, hq] at h
  next x rest hq =>
    split
    next k hk => exact ⟨h, hwaiting, by simp [NoticeUnit.headNumber, hq, hk]⟩
    next =>
      refine ⟨?_, hwaiting, rfl⟩
      rw [NoticeUnit.law_iff] at h ⊢
      obtain ⟨hqueue, hlost, hsettings, hsending⟩ := h
      rw [hq] at hqueue hlost
      refine ⟨hqueue.number _, hlost, hsettings, ?_⟩
      simp only [NoticeUnit.LawfulSending, hwaiting] at hsending ⊢
      exact ⟨nofun, hsending.2⟩

/-- A started head has been sent (R194). -/
theorem NoticeUnit.sent_law {n : NoticeUnit} (h : n.law) (hstarted : n.Started) : n.sent.law := by
  rw [NoticeUnit.law_iff] at h ⊢
  obtain ⟨hqueue, hlost, hsettings, hsending⟩ := h
  simp only [NoticeUnit.LawfulSending, hstarted.1] at hsending
  obtain ⟨-, hcount, -⟩ := hsending
  refine ⟨hqueue, hlost, hsettings, hstarted.2, ⟨Nat.le_add_left 1 n.sendCount, Nat.succ_le_succ hcount⟩, ?_, ?_⟩
  · exact Nat.le_trans (by decide) hsettings.1
  · exact hsettings.2.1

/-- Settings in range, written over the others (R198). -/
theorem NoticeUnit.settings_keepsLaw (n : NoticeUnit) {mask : Byte} {interval : Nat} (hmask : mask &&& 0xC0 = 0)
    (hlow : 16 ≤ interval) (hhigh : interval ≤ 4096) :
    n.KeepsLaw { n with mask := mask, interval := interval } := by
  refine ⟨fun h => ?_, id⟩
  rw [NoticeUnit.law_iff] at h ⊢
  obtain ⟨hqueue, hlost, -, hsending⟩ := h
  exact ⟨hqueue, hlost, ⟨hlow, hhigh, hmask⟩, hsending⟩

/-- The unit after a full restart (R201). -/
theorem restartNotices_law (cause : RestartCause) : (restartNotices cause).law := by
  cases cause <;> decide

end Sys2Proof.Machine
end

section
/-! SUPPORT. Acts that do no more to the Notice Unit than to raise events: every act of a boundary but the timer's and the two ends of the link (R189). -/

namespace Sys2Proof.Machine

/-- All that the act does to the Notice Unit is to raise events (R189). -/
def State.Raises (s t : State) : Prop :=
  ∃ es : List Event, t.notices = es.foldl NoticeUnit.raise s.notices

theorem State.Raises.of_eq {s t : State} (h : t.notices = s.notices) : s.Raises t :=
  ⟨[], h⟩

theorem State.Raises.raise {s u : State} (h : u.notices = s.notices) (e : Event) : s.Raises (u.raise e) :=
  ⟨[e], congrArg (NoticeUnit.raise · e) h⟩

theorem State.Raises.raiseAll (s : State) (es : List Event) : s.Raises (s.raiseAll es) :=
  ⟨es, by rw [State.raiseAll_eq]; rfl⟩

theorem State.Raises.trans {s t u : State} (h : s.Raises t) (h' : t.Raises u) : s.Raises u := by
  obtain ⟨es, hes⟩ := h
  obtain ⟨es', hes'⟩ := h'
  exact ⟨es ++ es', by rw [hes', hes, List.foldl_append]⟩

theorem State.Raises.ite {s t u : State} {c : Prop} [Decidable c] (ht : s.Raises t) (hu : s.Raises u) :
    s.Raises (if c then t else u) := by
  split
  · exact ht
  · exact hu

/-- What every event raised leaves standing, all of them do. -/
theorem State.Raises.keeps {s t : State} (h : s.Raises t) (P : NoticeUnit → Prop)
    (hP : ∀ n e, P n → P (NoticeUnit.raise n e)) (hs : P s.notices) : P t.notices := by
  obtain ⟨es, hes⟩ := h
  rw [hes]
  exact List.foldlRecOn es NoticeUnit.raise hs fun n hn e _ => hP n e hn

/-! ### The link -/

theorem State.confirm_raises (s : State) : s.Raises s.confirm := by
  unfold State.confirm
  split
  · exact .raise rfl _
  · exact .of_eq rfl

theorem State.revert_raises (s : State) (why : MoveReason) : s.Raises (s.revert why) := by
  unfold State.revert
  split
  · exact .raise rfl _
  · exact .of_eq rfl

theorem State.trialPart_raises (s : State) : s.Raises s.trialPart := by
  unfold State.trialPart
  split
  · exact .of_eq rfl
  · exact .ite (s.revert_raises _) (.ite (s.revert_raises _) (.of_eq rfl))

theorem State.switchPart_raises (s : State) : s.Raises s.switchPart := by
  unfold State.switchPart
  split
  · exact .of_eq rfl
  · exact .ite (.raise rfl _) (.of_eq rfl)

theorem State.headParts_raises (s : State) : s.Raises s.headParts :=
  s.trialPart_raises.trans s.trialPart.switchPart_raises

/-! ### Framer events -/

theorem State.arrive_raises (s : State) (line : Line) (frame : InputFrame) : s.Raises (s.arrive line frame) := by
  simp only [State.arrive]
  exact .ite (.raise rfl _) (.of_eq rfl)

theorem State.rxPeriod_raises (s : State) (line : Line) (x : RxSample) : s.Raises (s.rxPeriod line x) := by
  cases h : ((s.port line).outcome x).2 with
  | quiet => rw [State.rxPeriod_quiet s line x h]; exact .of_eq rfl
  | gained => rw [State.rxPeriod_gained s line x h]; exact .raise rfl _
  | frameEnd bits => rw [State.rxPeriod_frameEnd s line x h]; exact State.arrive_raises (s.setPort line _) line _
  | lost => rw [State.rxPeriod_lost s line x h]; exact .raise rfl _

theorem State.meet_raises (before : State) (shares : List Taker) (s : State) (c : Coincidence) :
    s.Raises (State.meet before shares s c) := by
  have hrun : ∀ u : State, u.notices = s.notices → s.Raises (u.rxPeriod c.line c.sample) := fun u hu =>
    (State.Raises.of_eq hu).trans (u.rxPeriod_raises c.line c.sample)
  simp only [State.meet]
  split
  · exact hrun _ rfl
  · exact hrun _ rfl

/-! ### Shares of a boundary -/

theorem State.probeBoundary_raises_events (s : State) (i : ProbeIndex) : s.Raises (s.probeBoundary i) := by
  unfold State.probeBoundary
  simp only
  split
  · exact .of_eq rfl
  split
  · exact .of_eq rfl
  · exact .ite (.raise rfl _) (.of_eq rfl)

/-- Every share but the link's and the Notice Unit's own. -/
theorem State.takeShare_raises (before : State) (found : Taker → State) (s : State) {t : Taker} (hlink : t ≠ .link)
    (hnotice : t ≠ .notice) : s.Raises (State.takeShare before found s t) := by
  cases t with
  | link => exact absurd rfl hlink
  | notice => exact absurd rfl hnotice
  | store line => exact .raiseAll s _
  | timing => exact .raiseAll s _
  | schedule => exact .raiseAll s _
  | mapController => exact .of_eq (State.finishMc_notices _ _)
  | probe i => exact s.probeBoundary_raises_events i

theorem State.timingShare_raises (s : State) : s.Raises s.timingShare := by
  simp only [State.timingShare]
  refine State.Raises.trans ?_ (.raiseAll _ _)
  refine State.Raises.trans ?_ (.raiseAll _ _)
  exact .of_eq (s.fire_notices _)

theorem State.takeStores_raises (s : State) : s.Raises s.takeStores :=
  State.Raises.trans (.of_eq rfl) (.raiseAll _ _)

end Sys2Proof.Machine
end

section
/-! SUPPORT. What the acts of the part do to the law of the Notice Unit and to the message being sent: requests and single acts (R153, R171, R188 to R194). -/

namespace Sys2Proof.Machine

/-! ### Acts between two states -/

/-- A message is that of a queue's head: the head response, or the head notice, started and waiting, which is never marked (R153, R173, R193). -/
def OutMessage.Heads (m : OutMessage) (responses : List Response) (n : NoticeUnit) : Prop :=
  match m.owner with
  | .notice => n.Started ∧ m.hold = false
  | .response =>
    responses.head?.map Response.octets = some m.octets ∧ responses.head?.map Response.hold = some m.hold

/-- Responses that join the queue behind leave its head, and acts that keep a started head waiting leave that one. -/
theorem OutMessage.Heads.keeps {m : OutMessage} {responses : List Response} {n n' : NoticeUnit}
    (h : m.Heads responses n) (hn : n.Started → n'.Started) (xs : List Response) : m.Heads (responses ++ xs) n' := by
  unfold OutMessage.Heads at h ⊢
  cases ho : m.owner <;> simp only [ho] at h ⊢
  case notice => exact ⟨hn h.1, h.2⟩
  case response =>
    cases responses with
    | nil => cases h.1
    | cons x rest => exact h

/-- The law of the Notice Unit, and that of the message being sent. -/
structure State.NoticeSound (s : State) : Prop where
  law : s.notices.law
  sends : ∀ m next, s.link.transmitter = .sending m next →
    next < m.octets.length ∧ m.Heads s.engine.responses s.notices

theorem State.noticeSound_iff (s : State) : s.NoticeSound ↔ s.notices.law ∧ s.sendLaw := by
  have hsend : s.sendLaw ↔ ∀ m next, s.link.transmitter = .sending m next →
      next < m.octets.length ∧ m.Heads s.engine.responses s.notices := by
    unfold State.sendLaw
    cases s.link.transmitter with
    | free => simp
    | stopped => simp
    | sending m next =>
      cases ho : m.owner <;> simp [OutMessage.Heads, NoticeUnit.Started, ho, and_assoc]
  rw [hsend]
  exact ⟨fun h => ⟨h.law, h.sends⟩, fun h => ⟨h.1, h.2⟩⟩

/-- What an act that leads from `s` to `t` does to these laws. -/
def State.KeepsNotices (s t : State) : Prop :=
  s.NoticeSound → t.NoticeSound

theorem State.KeepsNotices.refl (s : State) : s.KeepsNotices s :=
  id

theorem State.KeepsNotices.trans {s t u : State} (h : s.KeepsNotices t) (h' : t.KeepsNotices u) :
    s.KeepsNotices u :=
  h' ∘ h

theorem State.KeepsNotices.ite {s t u : State} {c : Prop} [Decidable c] (ht : s.KeepsNotices t)
    (hu : s.KeepsNotices u) : s.KeepsNotices (if c then t else u) := by
  split
  · exact ht
  · exact hu

theorem State.foldl_keepsNotices {α : Type} {f : State → α → State} (h : ∀ (s : State) a, s.KeepsNotices (f s a))
    (l : List α) (s : State) : s.KeepsNotices (l.foldl f s) := by
  induction l generalizing s with
  | nil => exact .refl s
  | cons a l ih => exact (h s a).trans (ih _)

/-- A transmitter `y` that sends, if anything, what `x` sends, and has no more of it behind (R181). -/
def Transmitter.FallsBack (x y : Transmitter) : Prop :=
  ∀ m next, y = .sending m next → ∃ later, x = .sending m later ∧ next ≤ later

theorem Transmitter.FallsBack.of_eq {x y : Transmitter} (h : y = x) : x.FallsBack y :=
  fun _ next hy => ⟨next, h ▸ hy, Nat.le_refl next⟩

theorem Transmitter.fallsBack_free (x : Transmitter) : x.FallsBack .free :=
  nofun

theorem Transmitter.fallsBack_again (x : Transmitter) : x.FallsBack x.again := by
  intro m next h
  cases x with
  | sending m' later =>
    cases h
    exact ⟨later, rfl, Nat.zero_le _⟩
  | _ => cases h

/-- An act that keeps the unit's law, queues responses behind the others, and begins no message. -/
theorem State.KeepsNotices.of_queued {s t : State} {xs : List Response} (hn : s.notices.KeepsLaw t.notices)
    (hr : t.engine.responses = s.engine.responses ++ xs)
    (hx : s.link.transmitter.FallsBack t.link.transmitter) : s.KeepsNotices t := by
  refine fun h => ⟨hn.law h.law, fun m next hm => ?_⟩
  obtain ⟨later, hlater, hle⟩ := hx m next hm
  obtain ⟨hlt, hheads⟩ := h.sends m later hlater
  rw [hr]
  exact ⟨Nat.lt_of_le_of_lt hle hlt, hheads.keeps hn.started xs⟩

/-- An act of the Notice Unit, or of none of the blocks that the laws read. -/
theorem State.KeepsNotices.of_notices {s t : State} (hn : s.notices.KeepsLaw t.notices)
    (hr : t.engine.responses = s.engine.responses) (hx : t.link.transmitter = s.link.transmitter) :
    s.KeepsNotices t :=
  .of_queued (xs := []) hn (by rw [hr, List.append_nil]) (.of_eq hx)

theorem State.Raises.keepsLaw {s t : State} (h : s.Raises t) : s.notices.KeepsLaw t.notices :=
  h.keeps s.notices.KeepsLaw (fun n e hn => hn.trans (n.raise_keepsLaw e)) (.refl _)

/-- An act that raises events and no more. -/
theorem State.KeepsNotices.of_raises {s t : State} (h : s.Raises t)
    (hr : t.engine.responses = s.engine.responses) (hx : t.link.transmitter = s.link.transmitter) :
    s.KeepsNotices t :=
  .of_notices h.keepsLaw hr hx

theorem State.KeepsNotices.of_same {s t : State} (hn : t.notices = s.notices)
    (hr : t.engine.responses = s.engine.responses) (hx : t.link.transmitter = s.link.transmitter) :
    s.KeepsNotices t :=
  .of_raises (.of_eq hn) hr hx

/-! ### Requests carried out -/

/-- A request answered from a state that only its own block has changed (R149). -/
theorem State.KeepsNotices.answer {s u : State} {r : Request} {c : Status} {d : List Byte}
    (hn : u.notices = s.notices) (hr : u.engine.responses = s.engine.responses)
    (hx : u.link.transmitter = s.link.transmitter) : s.KeepsNotices (u.answer r c d) :=
  .of_queued (xs := [u.engine.response r.kind r.seq c d false]) (State.Raises.of_eq hn).keepsLaw
    (by rw [← hr]; rfl) (.of_eq hx)

theorem State.KeepsNotices.report {s : State} {r : Request} {c : Status} {d : List Byte} :
    s.KeepsNotices (s.answer r c d) :=
  .answer rfl rfl rfl

theorem State.KeepsNotices.answerHeld {s u : State} {r : Request} {d : List Byte}
    (hn : u.notices = s.notices) (hr : u.engine.responses = s.engine.responses)
    (hx : u.link.transmitter = s.link.transmitter) : s.KeepsNotices (u.answerHeld r d) :=
  .of_queued (xs := [u.engine.response r.kind r.seq .ok d true]) (State.Raises.of_eq hn).keepsLaw
    (by rw [← hr]; rfl) (.of_eq hx)

theorem State.fillReserved_keepsNotices (s : State) (kind owner : Byte) (c : Status) (d : List Byte) :
    s.KeepsNotices (s.fillReserved kind owner c d) :=
  .of_queued (xs := [s.engine.response kind owner c d false]) (.refl _) rfl (.of_eq rfl)

theorem State.serve_keepsNotices (s : State) (test : Request → Bool) {carry : Request → State → State}
    (h : ∀ r (t : State), t.KeepsNotices (carry r t)) : s.KeepsNotices (s.serve test carry) := by
  obtain hs | ⟨r, rest, -, -, hs⟩ := s.serve_cases test carry
  · rw [hs]
    exact .refl s
  · rw [hs]
    exact State.KeepsNotices.trans (t := s.taken rest) (.of_same rfl rfl rfl) (h r _)

section requests
variable (r : Request) (s : State)

theorem echo_keepsNotices : s.KeepsNotices (echo r s) := by
  unfold echo; split <;> exact .report
theorem identify_keepsNotices : s.KeepsNotices (identify r s) := by
  unfold identify; split <;> exact .report
theorem setLine_keepsNotices : s.KeepsNotices (setLine r s) := by
  unfold setLine; (repeat' split) <;> exact .answer (by simp) (by simp) (by simp)
theorem getLine_keepsNotices : s.KeepsNotices (getLine r s) := by
  unfold getLine; (repeat' split) <;> exact .report
theorem readStats_keepsNotices : s.KeepsNotices (readStats r s) := by
  unfold readStats; (repeat' split) <;> exact .answer rfl rfl rfl
theorem setReference_keepsNotices : s.KeepsNotices (setReference r s) := by
  unfold setReference; (repeat' split) <;> exact .answer rfl rfl rfl
theorem getTiming_keepsNotices : s.KeepsNotices (getTiming r s) := by
  unfold getTiming; split <;> exact .report
theorem writeEntries_keepsNotices : s.KeepsNotices (writeEntries r s) := by
  unfold writeEntries; (repeat' split) <;> exact .answer rfl rfl rfl
theorem readEntries_keepsNotices : s.KeepsNotices (readEntries r s) := by
  unfold readEntries; (repeat' split) <;> exact .report
theorem setPattern_keepsNotices : s.KeepsNotices (setPattern r s) := by
  unfold setPattern; (repeat' split) <;> exact .answer rfl rfl rfl
theorem getPattern_keepsNotices : s.KeepsNotices (getPattern r s) := by
  unfold getPattern; (repeat' split) <;> exact .report
theorem getPages_keepsNotices : s.KeepsNotices (getPages r s) := by
  unfold getPages; split <;> exact .report
theorem addSchedule_keepsNotices : s.KeepsNotices (addSchedule r s) := by
  simp only [addSchedule]; (repeat' split) <;> exact .answer rfl rfl rfl
theorem cancelSchedule_keepsNotices : s.KeepsNotices (cancelSchedule r s) := by
  unfold cancelSchedule; (repeat' split) <;> exact .answer rfl rfl rfl
theorem listSchedule_keepsNotices : s.KeepsNotices (listSchedule r s) := by
  unfold listSchedule; split <;> exact .report
theorem setProbe_keepsNotices : s.KeepsNotices (setProbe r s) := by
  unfold setProbe; (repeat' split) <;> exact .answer rfl rfl rfl
theorem readProbe_keepsNotices : s.KeepsNotices (readProbe r s) := by
  unfold readProbe; (repeat' split) <;> exact .answer rfl rfl rfl
theorem getLink_keepsNotices : s.KeepsNotices (getLink r s) := by
  unfold getLink; (repeat' split) <;> exact .answer rfl rfl rfl
theorem getNotices_keepsNotices : s.KeepsNotices (getNotices r s) := by
  unfold getNotices; split <;> exact .report
theorem restartFull_keepsNotices : s.KeepsNotices (restartFull r s) := by
  unfold restartFull
  split
  · exact .ite (.answerHeld rfl rfl rfl) .report
  · exact .report
theorem moveChannel_keepsNotices : s.KeepsNotices (moveChannel r s) := by
  unfold moveChannel
  split
  · split
    · exact .report
    split
    · exact .report
    · exact .answerHeld rfl rfl rfl
  · exact .report

/-- The one request that writes the unit's own settings (R198). -/
theorem setNotices_keepsNotices : s.KeepsNotices (setNotices r s) := by
  simp only [setNotices]
  split
  · split
    · exact .report
    split
    · exact .report
    next mask a b _ hmask hrange =>
      simp only [Bool.or_eq_true, decide_eq_true_eq, not_or, Nat.not_lt] at hrange
      have hkeeps := s.notices.settings_keepsLaw (not_not.mp hmask) hrange.1 hrange.2
      exact State.KeepsNotices.trans (t := s.withNotices _) (.of_notices hkeeps rfl rfl) .report
  · exact .report

/-- A page operation accepted has its place reserved and nothing answered (R25). -/
theorem pageRequest_keepsNotices {accept : State → State} {m : McState} {f : Option Word}
    (ha : accept s = s.acceptPage m f) : s.KeepsNotices (pageRequest accept r s) := by
  unfold pageRequest
  split
  · split
    · rw [ha]
      exact .of_same rfl rfl rfl
    all_goals exact .report
  · exact .report

/-- The operation in flight is aborted, then the Restart is answered (R39, R160). -/
theorem restartSwitch_keepsNotices : s.KeepsNotices (restartSwitch r s) := by
  have habort : s.KeepsNotices s.abortPage := by
    unfold State.abortPage
    split
    · exact .refl s
    · exact s.fillReserved_keepsNotices _ _ _ _
  unfold restartSwitch
  split
  · exact .ite (habort.trans (.answer rfl rfl rfl)) .report
  · exact .report

end requests

end Sys2Proof.Machine
end

section
/-! SUPPORT. What the acts of a boundary do to the law of the Notice Unit and to the message being sent: the Map Controller, the link, the framer events, and the boundary as a whole (R153, R165, R171 to R174, R188 to R197). -/

namespace Sys2Proof.Machine

/-! ### The Map Controller -/

theorem State.finishMc_keepsNotices (s : State) (final : Option (Byte × Byte × List Byte)) :
    s.KeepsNotices (s.finishMc final) := by
  cases final with
  | none => exact .refl s
  | some final =>
    obtain ⟨kind, owner, data⟩ := final
    exact State.KeepsNotices.trans (t := s.mcState .idle) (.of_same rfl rfl rfl)
      (State.fillReserved_keepsNotices _ kind owner .ok data)

theorem State.mcShare_keepsNotices (s : State) : s.KeepsNotices s.mcShare := by
  have hstep : s.KeepsNotices (s.mcStep s.comingFrame) := .of_same (by simp) (by simp) (by simp)
  exact (hstep.trans (State.finishMc_keepsNotices _ _)).trans (.of_same rfl rfl rfl)

/-! ### The link's first three parts -/

/-- Parts 1 and 2 begin no message: a revert begins the one being sent again, and a switch ends a stop (R177, R180, R181). -/
theorem State.headParts_fallsBack (s : State) :
    s.link.transmitter.FallsBack s.headParts.link.transmitter := by
  have hrevert : ∀ why, s.link.transmitter.FallsBack (s.revert why).link.transmitter := fun why => by
    unfold State.revert
    split
    · exact s.link.transmitter.fallsBack_again
    · exact .of_eq rfl
  have htrial : s.link.transmitter.FallsBack s.trialPart.link.transmitter := by
    unfold State.trialPart
    split
    · exact .of_eq rfl
    split
    · exact hrevert _
    split
    · exact hrevert _
    · exact .of_eq rfl
  unfold State.headParts
  obtain heq | ⟨-, hfree⟩ := s.trialPart.switchPart_transmitter
  · rwa [heq]
  · rw [hfree]
    exact s.link.transmitter.fallsBack_free

theorem State.headParts_responses (s : State) : s.headParts.engine.responses = s.engine.responses := by
  have hswitch : ∀ u : State, u.switchPart.engine.responses = u.engine.responses := fun u => by
    unfold State.switchPart
    split
    · rfl
    split
    · rfl
    · rfl
  exact (hswitch _).trans (by simp)

theorem State.headParts_keepsNotices (s : State) : s.KeepsNotices s.headParts :=
  .of_queued (xs := []) s.headParts_raises.keepsLaw (by rw [s.headParts_responses, List.append_nil])
    s.headParts_fallsBack

/-- Intake answers behind the other responses (R144, R145). -/
theorem State.intake_keepsNotices (s : State) (r : Request) : s.KeepsNotices (s.intake r) := by
  have hqueued : ∀ {t : State} (xs : List Response), t.engine.responses = s.engine.responses ++ xs →
      t.notices = s.notices → t.link = s.link → s.KeepsNotices t := fun xs hr hn hl =>
    .of_queued (xs := xs) (State.Raises.of_eq hn).keepsLaw hr (.of_eq (by rw [hl]))
  unfold State.intake
  split
  · exact .refl s
  split
  next cached _ =>
    unfold RequestEngine.resend
    split
    · exact hqueued [_] rfl rfl rfl
    · exact hqueued [] (List.append_nil _).symm rfl rfl
  next =>
    unfold RequestEngine.accept
    split
    · exact hqueued [] (List.append_nil _).symm rfl rfl
    split
    · exact hqueued [_] rfl rfl rfl
    · exact hqueued [] (List.append_nil _).symm rfl rfl

theorem State.deliverGood_keepsNotices (s : State) (seq kind : Byte) (payload : List Byte) :
    s.KeepsNotices (s.deliverGood seq kind payload) := by
  have hconfirm : s.KeepsNotices s.confirm := .of_raises s.confirm_raises (by simp) s.confirm_transmitter
  have htold := hconfirm.trans (t := s.confirm)
    (u := s.confirm.withNotices (s.confirm.notices.goodMessage kind seq))
    (.of_notices (s.confirm.notices.goodMessage_keepsLaw kind seq) rfl rfl)
  exact .ite (htold.trans (State.intake_keepsNotices _ _)) htold

theorem State.delivering_keepsNotices (s : State) (seq kind : Byte) (payload : List Byte) :
    s.KeepsNotices (State.delivering seq kind payload s) := by
  refine State.KeepsNotices.trans (t := s.receiving .hunt) (.of_same rfl rfl rfl) ?_
  exact .ite (.of_same rfl rfl rfl) (State.deliverGood_keepsNotices _ _ _ _)

theorem State.receive_keepsNotices (s : State) (b : Byte) : s.KeepsNotices (s.receive b) := by
  unfold State.receive
  split
  case h_1 => exact .ite (.of_same rfl rfl rfl) (.refl s)
  case h_2 => exact .ite (.of_same rfl rfl rfl) (.of_same rfl rfl rfl)
  case h_3 => exact .ite (.of_same rfl rfl rfl) (.of_same rfl rfl rfl)
  case h_4 => exact .of_same rfl rfl rfl
  case h_5 =>
    unfold State.checked
    refine .ite ?_ (.of_same rfl rfl rfl)
    split
    · exact s.delivering_keepsNotices _ _ _
    · exact .of_same rfl rfl rfl

theorem State.readFrame_keepsNotices (s : State) : s.KeepsNotices s.readFrame := by
  unfold State.readFrame
  split
  · exact .refl s
  · exact State.foldl_keepsNotices State.receive_keepsNotices _ s

/-! ### The transmitter -/

/-- A message started is that of a queue's head, and none of it is sent (R153, R173, R193). -/
theorem State.readied_keepsNotices (s : State) : s.KeepsNotices s.readied := by
  have hnotice : s.notices.offers = true → s.KeepsNotices s.startNotice := fun hoffers h => by
    obtain ⟨hlaw, hstarted⟩ := NoticeUnit.start_law h.law (s.notices.offers_iff.mp hoffers).1
    simp only [State.startNotice]
    split
    next => exact h
    next x rest hq =>
      refine ⟨hlaw, fun m next hm => ?_⟩
      cases hm
      exact ⟨Nat.lt_of_lt_of_le (by decide) (messageOctets_length _ _ _), hstarted, rfl⟩
  unfold State.readied
  split
  case isFalse => exact .refl s
  unfold State.chooseMessage
  split
  next r rest hq =>
    split
    next hturn => exact hnotice (Bool.and_eq_true_iff.mp hturn).1
    next =>
      refine fun h => ⟨h.law, fun m next hm => ?_⟩
      cases hm
      refine ⟨Nat.lt_of_lt_of_le (by decide) (messageOctets_length _ _ _), ?_⟩
      simp [OutMessage.Heads, State.startResponse, hq]
  next =>
    split
    next hoffers => exact hnotice hoffers
    next => exact .refl s

/-- The last octet of a notice leaves its head outstanding, that of a response takes it from its queue (R172, R194). -/
theorem State.placeOctet_keepsNotices {s : State} {m : OutMessage} {next : Nat}
    (hsending : s.link.transmitter = .sending m next) : s.KeepsNotices (s.placeOctet m next) := by
  intro h
  obtain ⟨-, hheads⟩ := h.sends m next hsending
  simp only [State.placeOctet]
  split
  next hmore =>
    refine ⟨h.law, fun m' next' hm' => ?_⟩
    cases hm'
    exact ⟨hmore, hheads⟩
  next =>
    have hends : ∀ m' next', ((s.put (m.octets.getD next Config.idleFill)).endMessage m).link.transmitter
        ≠ .sending m' next' := fun m' next' hm' => by
      cases ho : m.owner <;> cases hh : m.hold <;> simp [State.endMessage, ho, hh] at hm'
    refine ⟨?_, fun m' next' hm' => absurd hm' (hends m' next')⟩
    cases ho : m.owner with
    | response =>
      rw [State.endMessage, ho]
      exact h.law
    | notice =>
      simp only [OutMessage.Heads, ho] at hheads
      rw [State.endMessage, ho]
      exact NoticeUnit.sent_law h.law hheads.1

theorem State.fillFrame_keepsNotices (s : State) : s.KeepsNotices s.fillFrame := by
  have hslot : ∀ u : State, u.KeepsNotices u.fillSlot := fun u => by
    refine u.readied_keepsNotices.trans ?_
    unfold State.fillSlot
    split
    next hsending => exact State.placeOctet_keepsNotices hsending
    · exact .of_same rfl rfl rfl
    · exact .of_same rfl rfl rfl
  have hslots : ∀ (n : Nat) (u : State), u.KeepsNotices (State.fillSlots n u) := by
    intro n
    induction n with
    | zero => exact State.KeepsNotices.refl
    | succ n ih => exact fun u => (hslot u).trans (ih _)
  exact hslots _ s

theorem State.linkAct_keepsNotices {inbound : State → State} (h : ∀ u : State, u.KeepsNotices (inbound u))
    (s : State) : s.KeepsNotices (s.linkAct inbound) :=
  ((s.headParts_keepsNotices.trans (h _)).trans (State.fillFrame_keepsNotices _)).trans (.of_same rfl rfl rfl)

theorem State.linkShare_keepsNotices {inbound : State → State} (h : ∀ u : State, u.KeepsNotices (inbound u))
    (s : State) : s.KeepsNotices (s.linkShare inbound) :=
  State.KeepsNotices.trans (t := s.takeStores) (.of_raises s.takeStores_raises (by simp) (by simp))
    (State.linkAct_keepsNotices h _)

/-! ### Framer events and shares of a boundary -/

theorem State.rxPeriod_keepsNotices (s : State) (line : Line) (x : RxSample) : s.KeepsNotices (s.rxPeriod line x) :=
  .of_raises (s.rxPeriod_raises line x) (by simp) (s.rxPeriod_transmitter line x)

theorem State.rxPeriods_keepsNotices (s : State) (line : Line) (xs : List RxSample) :
    s.KeepsNotices (s.rxPeriods line xs) :=
  .ite (.refl s) (State.foldl_keepsNotices (fun t x => t.rxPeriod_keepsNotices line x) xs s)

theorem State.meet_keepsNotices (before : State) (shares : List Taker) (s : State) (c : Coincidence) :
    s.KeepsNotices (State.meet before shares s c) := by
  refine .of_raises (State.meet_raises before shares s c) (by simp) ?_
  simp only [State.meet]
  (repeat' split) <;> exact State.rxPeriod_transmitter _ _ _

/-- The timer runs for an outstanding head alone (R194, R196). -/
theorem State.noticeBoundary_keepsNotices (s : State) (ran : Bool) : s.KeepsNotices (s.noticeBoundary ran) := by
  unfold State.noticeBoundary
  split
  next hran =>
    rw [Bool.and_eq_true, decide_eq_true_eq] at hran
    exact .of_notices (NoticeUnit.tick_keepsLaw hran.2) rfl rfl
  next => exact .refl s

theorem State.takeShare_keepsNotices (before : State) (found : Taker → State) (s : State) (t : Taker) :
    s.KeepsNotices (State.takeShare before found s t) := by
  cases t with
  | link => exact .ite (.refl s) (State.linkAct_keepsNotices State.readFrame_keepsNotices s)
  | mapController => exact s.finishMc_keepsNotices _
  | notice => exact s.noticeBoundary_keepsNotices _
  | store line | timing | schedule | probe i =>
    exact .of_raises (State.takeShare_raises before found s nofun nofun) (by simp [State.takeShare])
      (by simp [State.takeShare])

theorem takeInTurn_keepsNotices {meet : State → Coincidence → State} {share : State → Taker → State}
    (hm : ∀ (s : State) c, s.KeepsNotices (meet s c)) (hs : ∀ (s : State) t, s.KeepsNotices (share s t))
    (events : List Coincidence) (shares : List Taker) (s : State) :
    s.KeepsNotices (takeInTurn meet share events shares s) := by
  induction shares generalizing events s with
  | nil => exact .refl s
  | cons t rest ih => exact ((State.foldl_keepsNotices hm _ s).trans (hs _ t)).trans (ih _ _)

theorem State.numberedBoundary_keepsNotices (s : State) (order : BoundaryOrder) :
    s.KeepsNotices (s.numberedBoundary order) := by
  have hbegin : ∀ u : State, u.KeepsNotices (u.beginFrames.withOpening closedOpening) := fun _ => .of_same rfl rfl rfl
  refine State.KeepsNotices.trans ?_
    (State.foldl_keepsNotices (fun t (c : Coincidence) => t.rxPeriod_keepsNotices c.line c.sample) _ _)
  refine State.KeepsNotices.trans ?_ (hbegin _)
  exact State.KeepsNotices.trans (t := s.numberedEffects _) (.of_same (by simp) (by simp) (by simp))
    (takeInTurn_keepsNotices (State.meet_keepsNotices s _) (State.takeShare_keepsNotices s _) _ _ _)

theorem State.fullRestart_keepsNotices (s : State) (straps : Straps) (cause : RestartCause) (held : Bool) :
    s.KeepsNotices (s.fullRestart straps cause held) :=
  fun _ => ⟨restartNotices_law cause, nofun⟩

theorem State.takeBoundary_keepsNotices (s : State) (order : BoundaryOrder) :
    s.KeepsNotices (s.takeBoundary order) :=
  .ite (s.fullRestart_keepsNotices _ _ _) (s.numberedBoundary_keepsNotices order)

end Sys2Proof.Machine
end

section
/-! CERTIFICATE. Every step keeps the Notice Unit lawful and the transmitter on a queue's head: StepsKeepTheNoticeLaw. -/

namespace Sys2Proof.Machine

theorem exec_keepsNotices {c : Instr} {s t : State} (h : exec c s = .next t) : s.KeepsNotices t := by
  cases c <;> cases h
  case powerUp | restartN => exact s.fullRestart_keepsNotices _ _ _
  case restartNRelease | fullRestartBoundary => exact .ite (s.fullRestart_keepsNotices _ _ _) (.refl s)
  case boundary order =>
    have hpoint : s.KeepsNotices s.pointTaken := .of_same rfl rfl rfl
    exact .ite (s.takeBoundary_keepsNotices order)
      (.ite (hpoint.trans (s.pointTaken.takeBoundary_keepsNotices order)) (.refl s))
  case txFrameEnd => exact .of_same rfl rfl rfl
  case stall => exact .ite (.of_same rfl rfl rfl) (.refl s)
  case retransmitTimeout =>
    split
    next hdue =>
      simp only [State.timerRuns, Bool.and_eq_true, decide_eq_true_eq] at hdue
      obtain ⟨⟨-, hout, -⟩, -⟩ := hdue
      exact .of_notices (NoticeUnit.expire_keepsLaw hout) rfl rfl
    next => exact .refl s
  case copyComplete | clearComplete | takePendingSwap =>
    split
    · exact .ite s.mcShare_keepsNotices (.refl s)
    · exact .refl s
  case scheduleFiring => exact .ite (.of_raises s.timingShare_raises (by simp) (by simp)) (.refl s)
  case requestIntake | noticeAck | foreignKind =>
    exact .ite (s.linkShare_keepsNotices fun u => u.delivering_keepsNotices _ _ _) (.refl s)
  case messageEnd | channelSwitch | trialTimeout | lineLostRevert =>
    exact .ite (s.linkShare_keepsNotices State.readFrame_keepsNotices) (.refl s)
  case pulse | flywheelFrameEnd => exact s.rxPeriods_keepsNotices _ _
  case echo => exact s.serve_keepsNotices _ echo_keepsNotices
  case identify => exact s.serve_keepsNotices _ identify_keepsNotices
  case restartFull => exact s.serve_keepsNotices _ restartFull_keepsNotices
  case restartSwitch => exact s.serve_keepsNotices _ restartSwitch_keepsNotices
  case setLine => exact s.serve_keepsNotices _ setLine_keepsNotices
  case getLine => exact s.serve_keepsNotices _ getLine_keepsNotices
  case readStats => exact s.serve_keepsNotices _ readStats_keepsNotices
  case setReference => exact s.serve_keepsNotices _ setReference_keepsNotices
  case getTiming => exact s.serve_keepsNotices _ getTiming_keepsNotices
  case writeEntries => exact s.serve_keepsNotices _ writeEntries_keepsNotices
  case readEntries => exact s.serve_keepsNotices _ readEntries_keepsNotices
  case setPattern => exact s.serve_keepsNotices _ setPattern_keepsNotices
  case getPattern => exact s.serve_keepsNotices _ getPattern_keepsNotices
  case copyPage | clearPage | swapPages => exact s.serve_keepsNotices _ fun r t => pageRequest_keepsNotices r t rfl
  case getPages => exact s.serve_keepsNotices _ getPages_keepsNotices
  case addSchedule => exact s.serve_keepsNotices _ addSchedule_keepsNotices
  case cancelSchedule => exact s.serve_keepsNotices _ cancelSchedule_keepsNotices
  case listSchedule => exact s.serve_keepsNotices _ listSchedule_keepsNotices
  case setProbe => exact s.serve_keepsNotices _ setProbe_keepsNotices
  case readProbe => exact s.serve_keepsNotices _ readProbe_keepsNotices
  case moveChannel => exact s.serve_keepsNotices _ moveChannel_keepsNotices
  case getLink => exact s.serve_keepsNotices _ getLink_keepsNotices
  case setNotices => exact s.serve_keepsNotices _ setNotices_keepsNotices
  case getNotices => exact s.serve_keepsNotices _ getNotices_keepsNotices
  case unknownKind => exact s.serve_keepsNotices _ fun _ _ => .report

theorem step_keepsNotices {s t : State} (h : step s = .next t) : s.KeepsNotices t := by
  unfold step at h
  split at h
  · have hpop : ∀ cs, s.KeepsNotices (s.withPending cs) := fun _ => .of_same rfl rfl rfl
    exact (hpop _).trans (exec_keepsNotices h)
  · cases h
    exact .of_same (by simp) (by simp) (by simp)

/-- Settles O58: the law of the unit, taken together with that of the message being sent, stands after every command (`exec_keepsNotices`), since it stands after each single act on the Notice Unit (`NoticeUnit.KeepsLaw`), response queue and transmitter. -/
theorem stepsKeepTheNoticeLaw : Obligations.StepsKeepTheNoticeLaw := by
  intro s t hs h
  exact t.noticeSound_iff.mp (step_keepsNotices h (s.noticeSound_iff.mpr hs))

end Sys2Proof.Machine
end

section
/-! CERTIFICATE. Events that reach the Notice Unit, and Set Notices: EventsReachTheNoticeQueue, SetNoticesWritesMaskAndInterval. -/

namespace Sys2Proof.Machine

/-! ### An event reaches the queue -/

theorem satAdd_eq (a b : Half) : satAdd a b = BitVec.ofNat 16 (min 65535 (a.toNat + b.toNat)) := by
  unfold satAdd
  split
  next h => rw [Nat.min_eq_right (by omega), BitVec.ofNat_add, BitVec.ofNat_toNat, BitVec.ofNat_toNat]; simp
  next h => rw [Nat.min_eq_left (by omega)]

/-- The first never-sent SLIP of the line takes the merge (R190). -/
theorem mergeSlip_first {line : Line} {before : List NoticeRecord} (h : ∀ r ∈ before, r.openSlip line = false)
    (a d a' d' : Half) (f : Word) (after : List NoticeRecord) :
    mergeSlip line a d (before ++ { event := .slip line a' d' f, number := none } :: after)
      = some (before ++ { event := .slip line (satAdd a' a) (satAdd d' d) f, number := none } :: after) := by
  induction before with
  | nil => simp [mergeSlip]
  | cons x before ih =>
    obtain ⟨hx, hrest⟩ := List.forall_mem_cons.mp h
    rw [List.cons_append, mergeSlip]
    split
    next hnumber hevent =>
      rw [NoticeRecord.openSlip_eq, hnumber, hevent] at hx
      rw [if_neg (by simpa [Event.slips] using hx), ih hrest]
      rfl
    next => rw [ih hrest]; rfl

section raise
variable {n : NoticeUnit} {e : Event}

theorem NoticeUnit.raise_disabled (h : e.enabled n.mask = false) : n.raise e = n := by
  simp [NoticeUnit.raise, h]

variable (h : e.enabled n.mask = true)
include h

theorem NoticeUnit.raise_merged {q : List NoticeRecord} (hq : mergeEvent e n.queue = some q) :
    n.raise e = { n with queue := q } := by
  simp [NoticeUnit.raise, h, hq]

theorem NoticeUnit.raise_appended (hq : mergeEvent e n.queue = none) (hroom : n.queue.length < 16) :
    n.raise e = n.append e := by
  simp [NoticeUnit.raise, h, hq, Config.noticePlaces, hroom]

theorem NoticeUnit.raise_lost (hq : mergeEvent e n.queue = none) (hfull : 16 ≤ n.queue.length) :
    n.raise e = { n with lost := satInc n.lost } := by
  simp [NoticeUnit.raise, h, hq, Config.noticePlaces, Nat.not_lt.mpr hfull]

end raise

/-- An event merges into no record where no never-sent SLIP of its line stands (R190). -/
theorem mergeEvent_none {e : Event} {q : List NoticeRecord}
    (h : ∀ line a d f, e = .slip line a d f → ∀ r ∈ q, r.openSlip line = false) : mergeEvent e q = none := by
  unfold mergeEvent
  split
  next line a d f => exact mergeSlip_eq_none (h line a d f rfl)
  next => rfl

/-- Settles O25: each way an event can go is one branch of `NoticeUnit.raise`, the merge going to the first never-sent SLIP of the line (`mergeSlip_first`). -/
theorem eventsReachTheNoticeQueue : Obligations.EventsReachTheNoticeQueue := by
  refine ⟨fun n e => ⟨NoticeUnit.raise_disabled, fun henabled => ⟨?merged, fun hfree => ⟨?appended, ?lost⟩⟩⟩,
    fun mask e => ?fields⟩
  case merged =>
    rintro line a d f a' d' f' before after rfl hq hbefore
    rw [← satAdd_eq, ← satAdd_eq]
    refine NoticeUnit.raise_merged henabled ?_
    rw [hq]
    exact mergeSlip_first hbefore a d a' d' f' after
  case appended => exact NoticeUnit.raise_appended henabled (mergeEvent_none hfree)
  case lost =>
    intro hfull
    rw [← satInc_eq]
    exact NoticeUnit.raise_lost henabled (mergeEvent_none hfree) hfull
  case fields =>
    cases e with
    | restarted cause => cases cause <;> exact ⟨rfl, rfl, rfl⟩
    | alignment line gained frame => cases gained <;> exact ⟨rfl, rfl, rfl⟩
    | scheduleDone tag action frame outcome => cases action <;> cases outcome <;> exact ⟨rfl, rfl, rfl⟩
    | probeMatch probe frame seen => cases seen <;> exact ⟨rfl, rfl, rfl⟩
    | channel reverted reason loc => cases reverted <;> cases reason <;> exact ⟨rfl, rfl, rfl⟩
    | slip | reference | eventsLost => exact ⟨rfl, rfl, rfl⟩

/-! ### Set Notices -/

section request
variable {s : State} {r : Request} {rest : List Request} {mask : Byte} {interval : Half}
  (ht : s.takes r rest) (hk : r.kind = 0x3C) (hp : r.payload = mask :: halfOctets interval)
include ht hk hp

/-- Set Notices by its two checks, the mask's first (R198, log 24). -/
theorem exec_setNotices : exec .setNotices s = .next
    (if mask &&& 0xC0 ≠ 0 then s.answered r rest .badValue [0]
    else if interval.toNat < 16 ∨ 4096 < interval.toNat then s.answered r rest .badValue [1]
    else (s.withNotices { s.notices with mask := mask, interval := interval.toNat }).withEngine
      (s.engine.answered rest (finalResponse r rest .ok (mask :: halfOctets interval) false))) := by
  have hexec : exec .setNotices s = .next (setNotices r (s.taken rest)) :=
    congrArg _ (State.serve_takes ht (ofKind_true hk))
  rw [hexec]
  simp only [setNotices, hp, halfOctets, halfOf_octets, Bool.or_eq_true, decide_eq_true_eq, State.taken_answer]
  exact congrArg _ (ite_congr rfl (fun _ => rfl) fun _ => ite_congr rfl (fun _ => rfl) fun _ =>
    State.answer_after (by rfl) ..)

end request

/-- Settles O45: the three branches of `exec_setNotices`. -/
theorem setNoticesWritesMaskAndInterval : Obligations.SetNoticesWritesMaskAndInterval := by
  intro s r rest mask interval ht hk hp
  rw [exec_setNotices ht hk hp]
  refine ⟨fun hmask hlow hhigh => ?_, fun hmask => ?_, fun hmask hrange => ?_⟩
  · rw [if_neg (not_not.mpr hmask), if_neg (by omega)]
    rfl
  · rw [if_pos hmask]
  · rw [if_neg (not_not.mpr hmask), if_pos hrange]

end Sys2Proof.Machine
end

section
/-! SUPPORT. The Notice Unit's sending at a boundary: what the octets that the link reads, and the slots that it fills, make of state, timer and send count (R193 to R197). -/

namespace Sys2Proof.Machine

/-! ### State, timer and send count -/

/-- What the timer goes by: the sending state, the timer and the send count (R192, R194, R196). -/
def NoticeUnit.sending (n : NoticeUnit) : SendState × Nat × Nat :=
  (n.state, n.timer, n.sendCount)

theorem NoticeUnit.sending_eq_iff (n : NoticeUnit) (state : SendState) (timer count : Nat) :
    n.sending = (state, timer, count) ↔ n.state = state ∧ n.timer = timer ∧ n.sendCount = count := by
  simp [NoticeUnit.sending]

theorem NoticeUnit.state_of_sending {n n' : NoticeUnit} (h : n'.sending = n.sending) : n'.state = n.state :=
  congrArg Prod.fst h

theorem NoticeUnit.tick_sending {n n' : NoticeUnit} (h : n'.sending = n.sending) :
    n'.tick.sending = n.tick.sending := by
  obtain ⟨hstate, htimer, hcount⟩ := (n'.sending_eq_iff _ _ _).mp h
  unfold NoticeUnit.tick
  rw [htimer]
  split
  · simp only [NoticeUnit.expire, NoticeUnit.sending, hcount]
  · simp only [NoticeUnit.sending, hstate, hcount]

theorem NoticeUnit.tick_headNumber (n : NoticeUnit) : n.tick.headNumber = n.headNumber := by
  unfold NoticeUnit.tick
  split <;> rfl

theorem NoticeUnit.tick_ne_idle {n : NoticeUnit} (h : n.state = .outstanding) : n.tick.state ≠ .idle := by
  unfold NoticeUnit.tick NoticeUnit.expire
  split
  · simp only
    split <;> nofun
  · simp [h]

/-- An event raised moves the sending state out of IDLE alone (R189). -/
theorem NoticeUnit.raise_sending {n : NoticeUnit} (h : n.state ≠ .idle) (e : Event) :
    (n.raise e).sending = n.sending := by
  obtain heq | ⟨q, -, heq⟩ | ⟨-, -, heq⟩ | ⟨-, heq⟩ := n.raise_shape e
  all_goals rw [heq]
  · rfl
  · simp [NoticeUnit.sending, NoticeUnit.append, h]
  · rfl

theorem NoticeUnit.raise_outstanding {n : NoticeUnit} {e : Event} (h : (n.raise e).state = .outstanding) :
    n.state = .outstanding := by
  by_cases hidle : n.state = .idle
  · obtain heq | ⟨q, -, heq⟩ | ⟨-, -, heq⟩ | ⟨-, heq⟩ := n.raise_shape e
    all_goals rw [heq] at h
    · exact h
    · exact h
    · simp [NoticeUnit.append, hidle] at h
    · exact h
  · exact (NoticeUnit.state_of_sending (NoticeUnit.raise_sending hidle e)).symm.trans h

theorem State.Raises.sending {s t : State} (h : s.Raises t) (hidle : s.notices.state ≠ .idle) :
    t.notices.sending = s.notices.sending :=
  h.keeps (fun n => n.sending = s.notices.sending)
    (fun _ e hn => (NoticeUnit.raise_sending (NoticeUnit.state_of_sending hn ▸ hidle) e).trans hn) rfl

theorem State.Raises.headNumber {s t : State} (h : s.Raises t) : t.notices.headNumber = s.notices.headNumber :=
  h.keeps (fun n => n.headNumber = s.notices.headNumber) (fun n e hn => (n.raise_headNumber e).trans hn) rfl

theorem State.Raises.outstanding {s t : State} (h : s.Raises t) (ht : t.notices.state = .outstanding) :
    s.notices.state = .outstanding :=
  h.keeps (fun n => n.state = .outstanding → s.notices.state = .outstanding)
    (fun _ _ hn he => hn (NoticeUnit.raise_outstanding he)) id ht

/-! ### A good message -/

theorem NoticeUnit.goodMessage_waiting {n : NoticeUnit} (h : n.state = .waiting) (kind seq : Byte) :
    n.goodMessage kind seq = n := by
  simp only [NoticeUnit.goodMessage, h]

/-- A notice outstanding after a good message was so before, and the message was no ack of it (R195). -/
theorem NoticeUnit.goodMessage_outstanding {n : NoticeUnit} {kind seq : Byte}
    (h : (n.goodMessage kind seq).state = .outstanding) :
    n.goodMessage kind seq = n ∧ ¬ n.acks kind seq := by
  by_cases hacks : n.acks kind seq
  · rw [NoticeUnit.goodMessage_acks hacks, NoticeUnit.removeHead_eq] at h
    simp only at h
    split at h <;> cases h
  · rw [NoticeUnit.goodMessage_released hacks] at h ⊢
    unfold NoticeUnit.released at h ⊢
    split at h
    · cases h
    next hstalled => exact ⟨if_neg hstalled, hacks⟩

/-! ### The octets that the link reads -/

/-- KIND and SEQ of the good message that this octet completes, when it does (R169, R170). -/
def Receiver.hears : Receiver → Byte → Option (Byte × Byte)
  | .check len (seq :: kind :: payload) (some high), b =>
    if crc (len :: seq :: kind :: payload) = halfOf high b ∧ foreign kind = false then some (kind, seq) else none
  | _, _ => none

/-- An octet completes a good message, which is delivered, or leaves the Notice Unit alone. -/
theorem State.receive_hears (s : State) (b : Byte) :
    (s.link.receiver.hears b = none ∧ (s.receive b).notices = s.notices)
      ∨ ∃ kind seq payload, s.link.receiver.hears b = some (kind, seq)
        ∧ s.receive b = (s.receiving .hunt).deliverGood seq kind payload := by
  unfold State.receive
  split
  case h_1 h => exact .inl ⟨by rw [h]; rfl, by split <;> rfl⟩
  case h_2 h => exact .inl ⟨by rw [h]; rfl, by split <;> rfl⟩
  case h_3 h => exact .inl ⟨by rw [h]; rfl, by split <;> rfl⟩
  case h_4 h => exact .inl ⟨by rw [h]; simp [Receiver.hears], rfl⟩
  case h_5 len octets high h =>
    rw [h]
    match octets with
    | [] => exact .inl ⟨rfl, by unfold State.checked; split <;> rfl⟩
    | [_] => exact .inl ⟨rfl, by unfold State.checked; split <;> rfl⟩
    | seq :: kind :: payload =>
      by_cases hcrc : crc (len :: seq :: kind :: payload) = halfOf high b
      · rw [State.checked_agrees hcrc]
        cases hkind : foreign kind with
        | true =>
          rw [State.deliver_foreign hkind]
          exact .inl ⟨by simp [Receiver.hears, hkind], rfl⟩
        | false =>
          rw [State.deliver_good hkind]
          exact .inr ⟨kind, seq, payload, by simp [Receiver.hears, hcrc, hkind], rfl⟩
      · rw [State.checked_disagrees hcrc]
        exact .inl ⟨by simp [Receiver.hears, hcrc], rfl⟩

/-- KIND and SEQ of the good messages that these octets complete. -/
def State.heard (s : State) : List Byte → List (Byte × Byte)
  | [] => []
  | b :: rest => (s.link.receiver.hears b).toList ++ (s.receive b).heard rest

/-- What is heard depends on the link alone. -/
theorem State.heard_congr {s t : State} (h : s.link = t.link) (octets : List Byte) :
    s.heard octets = t.heard octets := by
  induction octets generalizing s t with
  | nil => rfl
  | cons b rest ih => rw [State.heard, State.heard, h, ih (State.receive_link_congr h b)]

/-- None of these messages, KIND and SEQ, is an ack of the notice with this number (R195). -/
def NoAck (number : Option Byte) (messages : List (Byte × Byte)) : Prop :=
  ∀ kind seq, (kind, seq) ∈ messages → ¬ (kind = Config.ackKind ∧ number = some seq)

section octet
variable (s : State) (b : Byte)

/-- An octet's effect on the Notice Unit: none, or that of a good message behind the CHANNEL event of a confirmation (R179). -/
theorem State.receive_notices :
    (s.link.receiver.hears b = none ∧ (s.receive b).notices = s.notices)
      ∨ ∃ kind seq u, s.link.receiver.hears b = some (kind, seq) ∧ s.Raises u
        ∧ (s.receive b).notices = u.notices.goodMessage kind seq := by
  refine (s.receive_hears b).imp_right fun ⟨kind, seq, payload, hhears, heq⟩ => ?_
  refine ⟨kind, seq, (s.receiving .hunt).confirm, hhears, (s.receiving .hunt).confirm_raises, ?_⟩
  rw [heq, State.deliverGood_notices]

end octet

section octets
variable {s : State}

/-- A head that waits to be sent hears nothing. -/
theorem State.foldl_receive_waiting (h : s.notices.state = .waiting) (octets : List Byte) :
    (octets.foldl State.receive s).notices.sending = s.notices.sending := by
  induction octets generalizing s with
  | nil => rfl
  | cons b rest ih =>
    have hb : (s.receive b).notices.sending = s.notices.sending := by
      obtain ⟨-, heq⟩ | ⟨kind, seq, u, -, hu, heq⟩ := s.receive_notices b
      · rw [heq]
      · have hsame := hu.sending (by rw [h]; nofun)
        rw [heq, NoticeUnit.goodMessage_waiting ((NoticeUnit.state_of_sending hsame).trans h), hsame]
    exact (ih ((NoticeUnit.state_of_sending hb).trans h)).trans hb

/-- A notice still outstanding when the octets have been read was so before, and was acknowledged by none of them (R195). -/
theorem State.foldl_receive_outstanding {octets : List Byte}
    (h : (octets.foldl State.receive s).notices.state = .outstanding) :
    s.notices.state = .outstanding ∧ NoAck s.notices.headNumber (s.heard octets)
      ∧ (octets.foldl State.receive s).notices.sending = s.notices.sending := by
  induction octets generalizing s with
  | nil => exact ⟨h, nofun, rfl⟩
  | cons b rest ih =>
    obtain ⟨hstate, hno, hsame⟩ := ih h
    rw [State.heard]
    obtain ⟨hhears, heq⟩ | ⟨kind, seq, u, hhears, hu, heq⟩ := s.receive_notices b
    · rw [heq] at hstate hno hsame
      rw [hhears]
      exact ⟨hstate, hno, hsame⟩
    · rw [heq] at hstate
      obtain ⟨hkept, hacks⟩ := NoticeUnit.goodMessage_outstanding hstate
      rw [hkept] at hstate heq
      have hout := hu.outstanding hstate
      rw [heq, hu.headNumber] at hno
      refine ⟨hout, ?_, hsame.trans ?_⟩
      · rw [hhears]
        intro kind' seq' hmem hack
        obtain hmem | hmem := List.mem_append.mp hmem
        · cases List.mem_singleton.mp hmem
          exact hacks ⟨hack.1, .inl hstate, hu.headNumber.trans hack.2⟩
        · exact hno kind' seq' hmem hack
      · rw [heq]
        exact hu.sending (by rw [hout]; nofun)

/-- The acks that matter further on are those among the octets further on. -/
theorem NoAck.append_right {number : Option Byte} {xs ys : List (Byte × Byte)} (h : NoAck number (xs ++ ys)) :
    NoAck number ys :=
  fun kind seq hmem => h kind seq (List.mem_append_right _ hmem)

/-- An outstanding notice hears acks of it alone (R195). -/
theorem State.foldl_receive_unacked {octets : List Byte} (h : s.notices.state = .outstanding)
    (hno : NoAck s.notices.headNumber (s.heard octets)) :
    (octets.foldl State.receive s).notices.sending = s.notices.sending := by
  induction octets generalizing s with
  | nil => rfl
  | cons b rest ih =>
    rw [State.heard] at hno
    have hb : (s.receive b).notices.sending = s.notices.sending
        ∧ (s.receive b).notices.headNumber = s.notices.headNumber := by
      obtain ⟨-, heq⟩ | ⟨kind, seq, u, hhears, hu, heq⟩ := s.receive_notices b
      · rw [heq]
        exact ⟨rfl, rfl⟩
      · have hsame := hu.sending (by rw [h]; nofun)
        have hstate : u.notices.state = .outstanding := (NoticeUnit.state_of_sending hsame).trans h
        have hacks : ¬ u.notices.acks kind seq := fun ⟨hkind, _, hnumber⟩ =>
          hno kind seq (by simp [hhears]) ⟨hkind, hu.headNumber.symm.trans hnumber⟩
        have hkept : u.notices.goodMessage kind seq = u.notices := by
          rw [NoticeUnit.goodMessage_released hacks, NoticeUnit.released, hstate]
          rfl
        rw [heq, hkept]
        exact ⟨hsame, hu.headNumber⟩
    refine (ih ((NoticeUnit.state_of_sending hb.1).trans h) ?_).trans hb.1
    rw [hb.2]
    exact hno.append_right

/-- A stall ends with the first good message, when none is an ack of the head (R197). -/
theorem State.foldl_receive_stalled {octets : List Byte} (h : s.notices.state = .stalled)
    (hno : NoAck s.notices.headNumber (s.heard octets)) :
    (octets.foldl State.receive s).notices.sending
      = if s.heard octets = [] then s.notices.sending else (.waiting, s.notices.timer, 0) := by
  induction octets generalizing s with
  | nil => rfl
  | cons b rest ih =>
    rw [State.heard] at hno ⊢
    obtain ⟨hhears, heq⟩ | ⟨kind, seq, u, hhears, hu, heq⟩ := s.receive_notices b
    · have hrest := ih (s := s.receive b) (by rw [heq]; exact h) (by rw [heq]; exact hno.append_right)
      rw [heq] at hrest
      rw [hhears]
      exact hrest
    · have hsame := hu.sending (by rw [h]; nofun)
      have hstate : u.notices.state = .stalled := (NoticeUnit.state_of_sending hsame).trans h
      have htimer : u.notices.timer = s.notices.timer := congrArg (fun x => x.2.1) hsame
      have hacks : ¬ u.notices.acks kind seq := fun ⟨hkind, _, hnumber⟩ =>
        hno kind seq (by simp [hhears]) ⟨hkind, hu.headNumber.symm.trans hnumber⟩
      have hreleased : (s.receive b).notices.sending = (.waiting, s.notices.timer, 0) := by
        rw [heq, NoticeUnit.goodMessage_released hacks, NoticeUnit.released, if_pos hstate, ← htimer]
        rfl
      rw [if_neg (by simp [hhears]), ← hreleased]
      exact State.foldl_receive_waiting (congrArg Prod.fst hreleased) rest

end octets

/-! ### The link's first three parts -/

/-- The octets that part 3 reads: those of the current location in the newly taken frame (R166). -/
def State.octetsRead (s : State) : List Byte :=
  match s.newFrame s.link.current.line with
  | none => []
  | some frame => s.managementOctets frame

theorem State.readFrame_octetsRead (s : State) : s.readFrame = s.octetsRead.foldl State.receive s := by
  cases hframe : s.newFrame s.link.current.line with
  | none => simp only [State.readFrame_of_none hframe, State.octetsRead, hframe, List.foldl_nil]
  | some frame => simp only [State.readFrame_of_some hframe, State.octetsRead, hframe]

/-- KIND and SEQ of the good messages that the link reads at a boundary, its first two parts done. -/
def State.hearing (s : State) : List (Byte × Byte) :=
  s.headParts.heard s.headParts.octetsRead

/-- Parts 1 and 2 of the link's act depend on the link alone (R165). -/
theorem State.headParts_link_congr {s t : State} (h : s.link = t.link) : s.headParts.link = t.headParts.link := by
  have hrevert : ∀ why, (s.revert why).link = (t.revert why).link := fun why => by
    unfold State.revert
    rw [h]
    split
    · simp [State.revertTrial, State.giveUp, h]
    · exact h
  have htrial : s.trialPart.link = t.trialPart.link := by
    unfold State.trialPart
    rw [h]
    split
    · exact h
    split
    · exact hrevert _
    split
    · exact hrevert _
    · simp
  have hswitch : ∀ u v : State, u.link = v.link → u.switchPart.link = v.switchPart.link := fun u v huv => by
    unfold State.switchPart State.switchDue
    rw [huv]
    split
    · exact huv
    split
    · simp [State.revertSwitch, State.giveUp, huv]
    · simp [State.switchTo, huv]
  exact hswitch _ _ htrial

/-- What the link hears depends on link, stores and ports alone. -/
theorem State.hearing_congr {s t : State} (hl : s.link = t.link) (hs : s.stores = t.stores) (hp : s.ports = t.ports) :
    s.hearing = t.hearing := by
  have hlink := State.headParts_link_congr hl
  have hread : s.headParts.octetsRead = t.headParts.octetsRead := by
    simp only [State.octetsRead, State.newFrame, State.managementOctets, State.store, State.port, hlink,
      State.headParts_stores, State.headParts_ports, hs, hp]
  rw [State.hearing, State.hearing, hread, State.heard_congr hlink]

section read
variable {s : State}

theorem State.read_waiting (h : s.notices.state = .waiting) :
    s.headParts.readFrame.notices.sending = s.notices.sending := by
  have hhead := s.headParts_raises.sending (by rw [h]; nofun)
  rw [State.readFrame_octetsRead,
    State.foldl_receive_waiting ((NoticeUnit.state_of_sending hhead).trans h), hhead]

/-- A notice that the boundary's octets leave outstanding is acknowledged by none of them (R195). -/
theorem State.noAck_of_outstanding (h : s.headParts.readFrame.notices.state = .outstanding) :
    NoAck s.notices.headNumber s.hearing := by
  rw [State.readFrame_octetsRead] at h
  obtain ⟨-, hno, -⟩ := State.foldl_receive_outstanding h
  rwa [s.headParts_raises.headNumber] at hno

variable (hno : NoAck s.notices.headNumber s.hearing)
include hno

theorem State.read_outstanding (h : s.notices.state = .outstanding) :
    s.headParts.readFrame.notices.sending = s.notices.sending := by
  have hhead := s.headParts_raises.sending (by rw [h]; nofun)
  rw [State.readFrame_octetsRead, State.foldl_receive_unacked ((NoticeUnit.state_of_sending hhead).trans h), hhead]
  rwa [s.headParts_raises.headNumber]

theorem State.read_stalled (h : s.notices.state = .stalled) :
    s.headParts.readFrame.notices.sending
      = if s.hearing = [] then s.notices.sending else (.waiting, s.notices.timer, 0) := by
  have hhead := s.headParts_raises.sending (by rw [h]; nofun)
  have htimer : s.headParts.notices.timer = s.notices.timer := congrArg (fun x => x.2.1) hhead
  rw [State.readFrame_octetsRead, State.foldl_receive_stalled ((NoticeUnit.state_of_sending hhead).trans h), hhead,
    htimer]
  · rfl
  · rwa [s.headParts_raises.headNumber]

end read

/-! ### The slots that the link fills -/

/-- No notice ends within that many slots of the message being sent (R171, R172). -/
def State.NoticeLasts (s : State) (slots : Nat) : Prop :=
  ∀ m next, s.link.transmitter = .sending m next → m.owner = .notice → next + slots < m.octets.length

/-- A message just started is longer than the slots of a frame (R164, R167). -/
theorem State.readied_sending {s : State} {slots : Nat} (h : s.NoticeLasts slots) (hslots : slots ≤ 5) :
    s.readied.notices.sending = s.notices.sending ∧ s.readied.NoticeLasts slots := by
  have hnotice : s.startNotice.notices.sending = s.notices.sending ∧ s.startNotice.NoticeLasts slots := by
    have hstart : s.notices.start.sending = s.notices.sending := by
      unfold NoticeUnit.start
      (repeat' split) <;> rfl
    simp only [State.startNotice]
    split
    · exact ⟨rfl, h⟩
    next x rest hq =>
      refine ⟨hstart, fun m next hm _ => ?_⟩
      cases hm
      have hlen := messageOctets_length (x.number.getD 0) x.event.kind x.event.payload
      rw [← NoticeRecord.octets] at hlen
      simp only
      omega
  unfold State.readied State.chooseMessage
  split
  case isFalse => exact ⟨rfl, h⟩
  split
  next r rest hq =>
    split
    · exact hnotice
    · refine ⟨rfl, fun m next hm howner => ?_⟩
      cases hm
      cases howner
  next =>
    split
    · exact hnotice
    · exact ⟨rfl, h⟩

/-- Slots that end no notice leave state, timer and send count (R194). -/
theorem State.fillSlots_sending {s : State} {slots : Nat} (h : s.NoticeLasts slots) (hslots : slots ≤ 5) :
    (State.fillSlots slots s).notices.sending = s.notices.sending := by
  induction slots generalizing s with
  | zero => rfl
  | succ slots ih =>
    obtain ⟨hready, hlasts⟩ := State.readied_sending h hslots
    have hslot : s.fillSlot.notices.sending = s.readied.notices.sending ∧ s.fillSlot.NoticeLasts slots := by
      unfold State.fillSlot
      split
      next m next hm =>
        simp only [State.placeOctet]
        split
        · refine ⟨rfl, fun m' next' hm' howner => ?_⟩
          cases hm'
          have := hlasts m next hm howner
          omega
        next hends =>
          cases howner : m.owner with
          | notice =>
            have := hlasts m next hm howner
            omega
          | response =>
            rw [State.endMessage, howner]
            refine ⟨rfl, fun m' next' hm' => ?_⟩
            cases hhold : m.hold <;> simp [hhold] at hm'
      next hm => exact ⟨rfl, fun m next hm' => by rw [State.put, State.withOpening_link, hm] at hm'; cases hm'⟩
      next hm => exact ⟨rfl, fun m next hm' => by rw [State.put, State.withOpening_link, hm] at hm'; cases hm'⟩
    rw [State.fillSlots, ih hslot.2 (by omega), hslot.1, hready]

end Sys2Proof.Machine
end

section
/-! CERTIFICATE. The retransmit timer at a boundary and ahead of it: RetransmitTimer. -/

namespace Sys2Proof.Machine

/-! ### The other blocks' shares -/

section shares
variable {before : State} {found : Taker → State}

/-- Shares that are neither the link's nor the Notice Unit's raise events alone. -/
theorem State.foldl_takeShare_raises {shares : List Taker} (hlink : .link ∉ shares) (hnotice : .notice ∉ shares)
    (s : State) : s.Raises (shares.foldl (State.takeShare before found) s) := by
  induction shares generalizing s with
  | nil => exact .of_eq rfl
  | cons t rest ih =>
    rw [List.mem_cons, not_or] at hlink hnotice
    exact (State.takeShare_raises before found s (Ne.symm hlink.1) (Ne.symm hnotice.1)).trans
      (ih hlink.2 hnotice.2 _)

/-- Where the Notice Unit's share is among them, the timer has run once (R194). -/
theorem State.foldl_takeShare_ticks {shares : List Taker} (hlink : .link ∉ shares) (hnotice : .notice ∈ shares)
    (hnodup : shares.Nodup) (hran : before.timerRuns = true) {s : State} (h : s.notices.state = .outstanding) :
    let t := shares.foldl (State.takeShare before found) s
    t.notices.sending = s.notices.tick.sending ∧ t.notices.headNumber = s.notices.headNumber := by
  obtain ⟨earlier, later, rfl⟩ := List.append_of_mem hnotice
  have hmid := (List.perm_middle.nodup_iff.mp hnodup).notMem
  simp only [List.mem_append, List.mem_cons, not_or] at hlink hmid
  obtain ⟨hearlierLink, -, hlaterLink⟩ := hlink
  have hfirst := State.foldl_takeShare_raises (before := before) (found := found) hearlierLink hmid.1 s
  have hsame := hfirst.sending (by rw [h]; nofun)
  rw [List.foldl_append, List.foldl_cons]
  set u := earlier.foldl (State.takeShare before found) s with hu
  have hout : u.notices.state = .outstanding := (NoticeUnit.state_of_sending hsame).trans h
  have hticked : (State.takeShare before found u .notice).notices = u.notices.tick := by
    simp [State.takeShare, State.noticeBoundary, hran, hout]
  have hlast := State.foldl_takeShare_raises (before := before) (found := found) hlaterLink hmid.2
    (State.takeShare before found u .notice)
  refine ⟨?_, ?_⟩
  · rw [hlast.sending (by rw [hticked]; exact NoticeUnit.tick_ne_idle hout), hticked]
    exact NoticeUnit.tick_sending hsame
  · rw [hlast.headNumber, hticked, NoticeUnit.tick_headNumber, hfirst.headNumber]

end shares

/-! ### The link's act -/

/-- While a notice is outstanding none is being sent, and none is after parts 1 to 3 of the link's act (R193). -/
theorem State.noticeLasts_of_outstanding {s u : State} (hsend : s.sendLaw) (h : s.notices.state = .outstanding)
    (hlink : u.link = s.link) (slots : Nat) : u.headParts.readFrame.NoticeLasts slots := by
  intro m next hm howner
  rw [State.readFrame_transmitter] at hm
  obtain ⟨later, hlater, -⟩ := u.headParts_fallsBack m next hm
  rw [hlink] at hlater
  simp only [State.sendLaw, hlater, howner, h] at hsend
  cases hsend.2.1

/-- The link has at most four slots to fill, in whichever of its locations it is (R164). -/
theorem State.width_le_four {s u : State} (hwidth : ∀ loc ∈ s.link.locations, loc.width ≤ 4)
    (hlink : u.link = s.link) : u.headParts.readFrame.link.current.width ≤ 4 := by
  rw [(State.readFrame_current _).1]
  refine hwidth _ (hlink ▸ u.headParts_locations ?_)
  exact List.mem_cons_self

/-- The link's act leaves state, timer and send count as reading the frame does: no notice ends at it. -/
theorem State.linkAct_sending {s u : State} (hsend : s.sendLaw) (h : s.notices.state = .outstanding)
    (hwidth : ∀ loc ∈ s.link.locations, loc.width ≤ 4) (hlink : u.link = s.link) :
    (u.linkAct State.readFrame).notices.sending = u.headParts.readFrame.notices.sending :=
  State.fillSlots_sending (State.noticeLasts_of_outstanding hsend h hlink _)
    ((State.width_le_four hwidth hlink).trans (by decide))

/-- The link's act behind the timer's share: it leaves what the timer made of the unit, but for a stall that a good message ends (R196, R197). -/
theorem State.linkAct_ticked {s u : State} (hsend : s.sendLaw) (h : s.notices.state = .outstanding)
    (hwidth : ∀ loc ∈ s.link.locations, loc.width ≤ 4) (hlink : u.link = s.link)
    (hno : NoAck u.notices.headNumber u.hearing) (hticked : u.notices.sending = s.notices.tick.sending) :
    (u.linkAct State.readFrame).notices.sending = s.notices.tick.sending
      ∨ s.notices.tick.state = .stalled ∧ u.hearing ≠ []
        ∧ (u.linkAct State.readFrame).notices.sending = (.waiting, s.notices.tick.timer, 0) := by
  have hstate := NoticeUnit.state_of_sending hticked
  rw [State.linkAct_sending hsend h hwidth hlink]
  cases htick : s.notices.tick.state with
  | idle => exact absurd htick (NoticeUnit.tick_ne_idle h)
  | waiting => exact .inl ((State.read_waiting (hstate.trans htick)).trans hticked)
  | outstanding => exact .inl ((State.read_outstanding hno (hstate.trans htick)).trans hticked)
  | stalled =>
    have hread := State.read_stalled hno (hstate.trans htick)
    have htimer : u.notices.timer = s.notices.tick.timer := congrArg (fun x => x.2.1) hticked
    by_cases hsilent : u.hearing = []
    · rw [if_pos hsilent] at hread
      exact .inl (hread.trans hticked)
    · rw [if_neg hsilent, htimer] at hread
      exact .inr ⟨rfl, hsilent, hread⟩

/-! ### The whole boundary -/

/-- The notices after a boundary, the link's share set apart from those before and behind it; the link hears what it would right after the stores (R89, R99). -/
theorem State.numberedBoundary_notices {s : State} (hopen : s.opening = closedOpening) (order : List Taker) :
    ∃ earlier later, (earlier ++ .link :: later).Nodup ∧ Taker.notice ∈ earlier ++ .link :: later
      ∧ let share := State.takeShare s fun _ => s
        let u := earlier.foldl share (s.numberedEffects fun _ => s)
        u.link = s.link ∧ u.hearing = s.takeStores.hearing
          ∧ (s.numberedBoundary ⟨order, []⟩).notices = (later.foldl share (u.linkAct State.readFrame)).notices := by
  obtain ⟨earlier, later, hsplit, hearlier, -⟩ := s.mapEffects.shareOrder_split order
  have hlink : (earlier.foldl (State.takeShare s fun _ => s) (s.numberedEffects fun _ => s)).link = s.link := by
    rw [(State.foldl_takeShare_leavesMove hearlier s _ _).2, State.numberedEffects_link]
  refine ⟨earlier, later, hsplit ▸ s.mapEffects.shareOrder_nodup order,
    hsplit ▸ s.mapEffects.mem_shareOrder order .notice, hlink, ?_, ?_⟩
  · refine State.hearing_congr (hlink.trans s.takeStores_link.symm) ?_ ?_
    · exact (foldl_keeps State.stores _ (fun _ _ => by simp) _ _).trans (by simp)
    · exact (foldl_keeps State.ports _ (fun _ _ => by simp) _ _).trans (by simp)
  · have hact : ∀ u, State.takeShare s (fun _ => s) u .link = u.linkAct State.readFrame := fun u => by
      simp [State.takeShare, hopen, closedOpening]
    rw [State.numberedBoundary_plain, hsplit, List.foldl_append, List.foldl_cons, hact]
    rfl

/-- The boundary runs the timer once; where that stalls the unit, a good message may be read after it (R194, R196, R197). -/
theorem State.numberedBoundary_sending {s : State} (hopen : s.opening = closedOpening) (hsend : s.sendLaw)
    (hwidth : ∀ loc ∈ s.link.locations, loc.width ≤ 4) (hout : s.notices.state = .outstanding)
    (hkept : s.takeStores.headParts.readFrame.notices.state = .outstanding) (order : List Taker) :
    (s.numberedBoundary ⟨order, []⟩).notices.sending = s.notices.tick.sending
      ∨ s.notices.tick.state = .stalled ∧ s.takeStores.hearing ≠ []
        ∧ (s.numberedBoundary ⟨order, []⟩).notices.sending = (.waiting, s.notices.tick.timer, 0) := by
  obtain ⟨earlier, later, hnodup, hmem, hlink, hhearing, hboundary⟩ := State.numberedBoundary_notices hopen order
  have hran : s.timerRuns = true := by simp [State.timerRuns, hout, hopen, closedOpening]
  have hno : NoAck s.notices.headNumber s.takeStores.hearing := by
    rw [← s.takeStores_raises.headNumber]
    exact State.noAck_of_outstanding hkept
  obtain ⟨hnodupEarlier, hnodupRest, hdisjoint⟩ := List.nodup_append.mp hnodup
  obtain ⟨hlater, hnodupLater⟩ := List.nodup_cons.mp hnodupRest
  have hearlier : .link ∉ earlier := fun hm => hdisjoint _ hm _ List.mem_cons_self rfl
  have hstart : (s.numberedEffects fun _ => s).notices = s.notices := State.numberedEffects_notices s _
  rw [hboundary]
  by_cases hnotice : Taker.notice ∈ earlier
  case neg =>
    have hnoticeLater : Taker.notice ∈ later := by simpa [hnotice] using hmem
    have hraises := State.foldl_takeShare_raises (before := s) (found := fun _ => s) hearlier hnotice
      (s.numberedEffects fun _ => s)
    have hsame := hraises.sending (by rw [hstart, hout]; nofun)
    rw [hstart] at hsame
    have hread := State.read_outstanding (by rwa [hraises.headNumber, hstart, hhearing])
      ((NoticeUnit.state_of_sending hsame).trans hout)
    have hlinked := (State.linkAct_sending hsend hout hwidth hlink).trans (hread.trans hsame)
    exact .inl ((State.foldl_takeShare_ticks hlater hnoticeLater hnodupLater hran
      ((NoticeUnit.state_of_sending hlinked).trans hout)).1.trans (NoticeUnit.tick_sending hlinked))
  case pos =>
    have hnoticeLater : Taker.notice ∉ later := fun hm =>
      hdisjoint _ hnotice _ (List.mem_cons_of_mem _ hm) rfl
    obtain ⟨hticked, hnumber⟩ := State.foldl_takeShare_ticks (before := s) (found := fun _ => s) hearlier hnotice
      hnodupEarlier hran (s := s.numberedEffects fun _ => s) (by rw [hstart]; exact hout)
    rw [hstart] at hticked hnumber
    have hrest := State.foldl_takeShare_raises (before := s) (found := fun _ => s) hlater hnoticeLater
    obtain hlinked | ⟨hstalled, hheard, hlinked⟩ :=
      State.linkAct_ticked hsend hout hwidth hlink (by rwa [hnumber, hhearing]) hticked
    · refine .inl (((hrest _).sending ?_).trans hlinked)
      rw [NoticeUnit.state_of_sending hlinked]
      exact NoticeUnit.tick_ne_idle hout
    · refine .inr ⟨hstalled, hhearing ▸ hheard, ((hrest _).sending ?_).trans hlinked⟩
      rw [((NoticeUnit.sending_eq_iff _ _ _ _).mp hlinked).1]
      nofun

/-! ### The timer -/

theorem NoticeUnit.tick_running {n : NoticeUnit} (h : 1 < n.timer) :
    n.tick.sending = (n.state, n.timer - 1, n.sendCount) := by
  rw [NoticeUnit.tick, if_neg (Nat.not_le.mpr h)]
  rfl

theorem NoticeUnit.tick_expired {n : NoticeUnit} (h : n.timer = 1) :
    n.tick.sending = (if n.sendCount < 4 then .waiting else .stalled, 0, n.sendCount) := by
  rw [NoticeUnit.tick, if_pos h.le]
  rfl

/-- RETRANSMIT_TIMEOUT: the Notice Unit's timer reaches 0 ahead of BOUNDARY (R196, log 6). -/
theorem exec_retransmitTimeout {s : State} (hfresh : s.freshBoundary) (hout : s.notices.state = .outstanding)
    (htimer : s.notices.timer ≤ 1) :
    exec .retransmitTimeout s = .next (s.withNotices s.notices.expire).opened := by
  obtain ⟨hdue, hopen⟩ := hfresh
  have hruns : (s.numberedDue && s.timerRuns && decide (s.notices.timer ≤ 1)) = true := by
    simp [hdue, State.timerRuns, hout, hopen, closedOpening, htimer]
  exact congrArg _ (if_pos hruns)

/-- Settles O15: the timer runs once at a boundary (`State.numberedBoundary_sending`), before or behind the link, which hears no ack of the head; only a stall by then can end with what the link hears. -/
theorem retransmitTimer : Obligations.RetransmitTimer := by
  refine ⟨fun s order hfresh hsend hwidth hout hkept => ?_, fun s hfresh hout htimer => ?_⟩
  · intro stalled released
    have hreleased : s.takeStores.hearing ≠ [] → released := fun hheard => by
      have hhearing : stalled.hearing = s.takeStores.hearing := State.hearing_congr rfl rfl rfl
      have hno : NoAck stalled.notices.headNumber stalled.hearing := by
        rw [hhearing, show stalled.notices.headNumber = s.takeStores.notices.headNumber from
          s.takeStores_raises.headNumber.symm]
        exact State.noAck_of_outstanding hkept
      have hread := State.read_stalled hno rfl
      rw [hhearing, if_neg hheard] at hread
      exact congrArg Prod.fst hread
    refine ⟨_, exec_boundary_numbered hfresh.1 _, ?_⟩
    have hsending := State.numberedBoundary_sending hfresh.2 hsend hwidth hout hkept order
    have hunstalled : s.notices.tick.state ≠ .stalled →
        (s.numberedBoundary ⟨order, []⟩).notices.sending = s.notices.tick.sending := fun h =>
      hsending.resolve_right fun hstalled => h hstalled.1
    have hparts : ∀ {x y z} {n : NoticeUnit}, n.sending = (x, y, z) → n.state = x ∧ n.timer = y ∧ n.sendCount = z :=
      (NoticeUnit.sending_eq_iff _ _ _ _).mp
    refine ⟨fun hlong => ?_, fun hone => ?_, fun hone hcount => ?_, fun hone hcount => ?_⟩
    · have htick := NoticeUnit.tick_running hlong
      rw [hout] at htick
      exact hparts ((hunstalled (by rw [(hparts htick).1]; nofun)).trans htick)
    · have htick := NoticeUnit.tick_expired hone
      obtain hsame | ⟨-, -, hreads⟩ := hsending
      · exact (hparts (hsame.trans htick)).2.1
      · exact (hparts hreads).2.1.trans (hparts htick).2.1
    · have htick := NoticeUnit.tick_expired hone
      rw [if_pos hcount] at htick
      obtain ⟨hstate, -, hsends⟩ := hparts ((hunstalled (by rw [(hparts htick).1]; nofun)).trans htick)
      exact ⟨hstate, hsends⟩
    · have htick := NoticeUnit.tick_expired hone
      rw [if_neg (Nat.not_lt.mpr hcount)] at htick
      obtain hsame | ⟨-, hheard, hreads⟩ := hsending
      · obtain ⟨hstate, -, hsends⟩ := hparts (hsame.trans htick)
        exact .inl ⟨hstate, hsends⟩
      · obtain ⟨hstate, -, hsends⟩ := hparts hreads
        exact .inr ⟨hreleased hheard, hstate, hsends⟩
  · rw [exec_retransmitTimeout hfresh hout htimer, State.opened, State.withNotices_opening, hfresh.2]
    rfl

end Sys2Proof.Machine
end

section
/-! CERTIFICATE. No command stops the part: NothingStopsThePart. -/

namespace Sys2Proof.Machine

/-- Settles O5: what happens to the part asks its condition inside the state it ends in (log 2), and a row of the executor is `State.serve` (`exec_request`). -/
theorem nothingStopsThePart : Obligations.NothingStopsThePart := by
  intro c s
  have hrow : ∀ {row : Instr}, (∃ test carry, ∀ u, exec row u = .next (u.serve test carry)) →
      ∃ t, exec row s = .next t := fun ⟨test, carry, hserve⟩ => ⟨s.serve test carry, hserve s⟩
  cases c
  -- what happens to the part
  case powerUp | restartN | restartNRelease | fullRestartBoundary => exact ⟨_, rfl⟩
  case boundary | stall | copyComplete | clearComplete | takePendingSwap | scheduleFiring => exact ⟨_, rfl⟩
  case requestIntake | noticeAck | foreignKind | messageEnd => exact ⟨_, rfl⟩
  case channelSwitch | trialTimeout | lineLostRevert | retransmitTimeout => exact ⟨_, rfl⟩
  case txFrameEnd | pulse | flywheelFrameEnd => exact ⟨_, rfl⟩
  -- the rows of the executor
  all_goals exact hrow (exec_request (by simp))

end Sys2Proof.Machine
end

section
/-! CERTIFICATE. Status codes, fields of several octets and the code tables: StatusCodes. -/

namespace Sys2Proof.Machine

/-- Above a field's last octet stands the field without it. -/
theorem extractLsb'_append_octet {n : Nat} (high : BitVec n) (last : Byte) (start : Nat) :
    (high ++ last).extractLsb' (start + 8) 8 = high.extractLsb' start 8 := by
  rw [BitVec.extractLsb'_append_eq_of_le (Nat.le_add_left 8 start), Nat.add_sub_cancel]

/-- A two-octet field goes high octet first (R202). -/
theorem halfOctets_append (a b : Byte) : halfOctets (a ++ b) = [a, b] := by
  have hhigh : (a ++ b).extractLsb' 8 8 = a := BitVec.extractLsb'_append_eq_left
  have hlow : (a ++ b).extractLsb' 0 8 = b := BitVec.extractLsb'_append_eq_right
  rw [halfOctets, hhigh, hlow]

/-- A four-octet field sends the octets of its upper half, then its last two (R202). -/
theorem wordOctets_append (u : Half) (c d : Byte) : wordOctets (u ++ c ++ d) = halfOctets u ++ [c, d] := by
  have hfirst : (u ++ c ++ d).extractLsb' 24 8 = u.extractLsb' 8 8 :=
    (extractLsb'_append_octet (u ++ c) d 16).trans (extractLsb'_append_octet u c 8)
  have hsecond : (u ++ c ++ d).extractLsb' 16 8 = u.extractLsb' 0 8 :=
    (extractLsb'_append_octet (u ++ c) d 8).trans (extractLsb'_append_octet u c 0)
  have hthird : (u ++ c ++ d).extractLsb' 8 8 = c :=
    (extractLsb'_append_octet (u ++ c) d 0).trans BitVec.extractLsb'_append_eq_right
  have hlast : (u ++ c ++ d).extractLsb' 0 8 = d := BitVec.extractLsb'_append_eq_right
  rw [wordOctets, hfirst, hsecond, hthird, hlast]
  rfl

/-- Settles O40: each table is the equations of its code function; the fields of several octets are `halfOctets_append` and `wordOctets_append`. -/
theorem statusCodes : Obligations.StatusCodes := by
  have hfields : ∀ a b c d : Byte,
      halfOctets (a ++ b) = [a, b] ∧ wordOctets (a ++ b ++ c ++ d) = [a, b, c, d] := fun a b c d =>
    ⟨halfOctets_append a b, by rw [wordOctets_append, halfOctets_append]; rfl⟩
  refine ⟨fun _ => rfl, rfl, hfields, rfl, rfl, rfl, rfl, rfl, ?mapController, rfl, rfl, rfl, rfl, rfl, rfl, rfl, rfl,
    rfl, ?observations⟩
  case mapController => exact fun _ _ _ => rfl
  case observations => exact fun _ => ⟨rfl, rfl⟩

end Sys2Proof.Machine
end
